-- ==== Sys2Proof/Word.lean ====
section
/-! DEFINITION. The words, numbers and small tables every other file of the model is written with. -/

namespace Sys2Proof

/-- A byte of a note, of the EEPROM image or of a pixel. -/
abbrev Byte := BitVec 8

/-- A two-byte field: trigger numbers, amounts and totals on the line. -/
abbrev Half := BitVec 16

/-- A word of image data or of a shot record (00, "Units": one word is 32 bits). -/
abbrev Word := BitVec 32

/-- A station number 0 to 14 as a note's arbitration field carries it (02 R32). -/
abbrev Station := Fin 15

/-- The four camera ports (00, "Drops, groups, stations and bundles"). -/
inductive Drop where
  | d0 | d1 | d2 | d3
deriving DecidableEq, Repr

/-- The drops in drop order, D0 to D3. -/
def Drop.all : List Drop := [.d0, .d1, .d2, .d3]

/-- The number of a drop. -/
def Drop.toNat : Drop → Nat
  | .d0 => 0
  | .d1 => 1
  | .d2 => 2
  | .d3 => 3

/-- The drop a drop field names: 0 to 3; any other value is an unknown drop. -/
def Drop.ofNat? : Nat → Option Drop
  | 0 => some .d0
  | 1 => some .d1
  | 2 => some .d2
  | 3 => some .d3
  | _ => none

/-- One value for each drop. -/
structure PerDrop (α : Type) where
  d0 : α
  d1 : α
  d2 : α
  d3 : α
deriving DecidableEq, Repr

/-- The same value for every drop. -/
def PerDrop.const {α : Type} (a : α) : PerDrop α := ⟨a, a, a, a⟩

/-- The value of one drop. -/
def PerDrop.get {α : Type} (p : PerDrop α) : Drop → α
  | .d0 => p.d0
  | .d1 => p.d1
  | .d2 => p.d2
  | .d3 => p.d3

/-- The value of one drop replaced. -/
def PerDrop.set {α : Type} (p : PerDrop α) (d : Drop) (a : α) : PerDrop α :=
  match d with
  | .d0 => { p with d0 := a }
  | .d1 => { p with d1 := a }
  | .d2 => { p with d2 := a }
  | .d3 => { p with d3 := a }

/-- The two motorised lens movements (08). -/
inductive Axis where
  | focus | iris
deriving DecidableEq, Repr

/-- A counter "counts up from its reset value and stops at its maximum" (00, "Counters"). -/
def satAdd (max n k : Nat) : Nat := min max (n + k)

/-- One more on a counter of 0 to 65535. -/
def bump (n : Nat) : Nat := satAdd 65535 n 1

/-- One more on a counter of 0 to 4,294,967,295. -/
def bumpLong (n : Nat) : Nat := satAdd 4294967295 n 1

/-- The `n` bytes of a number, most significant first (12 section 12.6). -/
def bytesOf : Nat → Nat → List Byte
  | 0, _ => []
  | n + 1, v => BitVec.ofNat 8 (v / 256 ^ n) :: bytesOf n v

/-- The number that bytes spell, most significant first (12 section 12.6). -/
def natOfBytes (bs : List Byte) : Nat := bs.foldl (fun n b => n * 256 + b.toNat) 0

end Sys2Proof
end

