-- ==== Sys2Proof/Syntax.lean ====
section
/-! DEFINITION. The commands of the hub: one constructor of `Instr` for each row of spec/opcode_table.json,
with the operands the governing rules need (the table gives no row a field). -/

namespace Sys2Proof

/-- The four strap pins and the parity pin, as read when a reset takes effect (02 R43). -/
structure Pins where
  straps : BitVec 4
  parity : Bool
deriving DecidableEq, Repr

/-- What the loader's read of the EEPROM gave (12 R206). -/
inductive EepromRead where
  /-- The EEPROM did not acknowledge a transfer; the read stopped there. -/
  | noAcknowledge
  /-- The bytes read, byte 0 first. -/
  | image (bytes : List Byte)
deriving DecidableEq, Repr

/-- The fields of a note, in the order sent (02 R32). -/
inductive NoteField where
  | start | arbitration | kind | length | payload | crc | endField
deriving DecidableEq, Repr

/-- The first differing bit of a send error (02 R38): its field, whether the sender sent dominant (and read
recessive) there, and whether the sender had itself heard an abort run before it. The field of an inserted bit is the
sender's to name (log 38). -/
structure BitError where
  field : NoteField
  sentDominant : Bool
  heardAbort : Bool
deriving DecidableEq, Repr

/-- The check of 02 R34 that a received note fails first. -/
inductive ReceiveFailure where
  | dominantRun | recessiveRun | crc | endField
  | lengthAboveEight | unknownKind | lengthNotAllowed | stationFifteen
deriving DecidableEq, Repr

/-- The fields of a CLAIM or a RELEASE as received (02 R47). -/
structure ShareNote where
  drop : Byte
  amount : Half
  total : Half
deriving DecidableEq, Repr

/-- The fields of a PRESENCE (02 R49). -/
structure PresenceFields where
  held : Half
  hold : Bool
  defaulted : Bool
  origin : Bool
  synced : Bool
  nextExpected : Half
deriving DecidableEq, Repr

/-- A TRIGGER note at its end (04 R77). -/
inductive TriggerArrival where
  /-- Accepted from another station. -/
  | received (src : Station) (number : Half) (mask : Byte)
  /-- The own note on the line completed without error. -/
  | echo
deriving DecidableEq, Repr

/-- A LOCATE_START or LOCATE_END note at its end (10 R180). -/
inductive BundleArrival where
  /-- Accepted from another station. -/
  | received (src : Station) (bundle : Nat) (drop : Byte)
  /-- The own note on the line completed without error. -/
  | echo
deriving DecidableEq, Repr

/-- A REQUEST note as accepted: the requester from the arbitration field, the target, the drop field and the
argument bytes the note carries (02 R47, 12 section 12.6). The request kind is the command's own. -/
structure Request where
  src : Station
  target : Byte
  drop : Byte
  args : List Byte
deriving DecidableEq, Repr

/-- A lens acknowledgement (08 R141). -/
structure LensAck where
  stepsDone : Nat
  homeActive : Bool
  headCount : Half
deriving DecidableEq, Repr

/-- Which of two blocks takes a loss of lock first (05 R100): the Fragment Receiver, which ends its fragment as a
runt, or the closing of the drop's open parts. The spec leaves the order to the moment. -/
inductive LossOrder where
  | receiverFirst | closingFirst
deriving DecidableEq, Repr

/-- The commands. The docstring of each names the row's rule. -/
inductive Instr where
  /-- POWER_ON_RESET, 01 R1. -/
  | powerOnReset (pins : Pins)
  /-- CELL_RESET, 12 R208. -/
  | cellReset (src : Station) (target : Byte) (pins : Pins)
  /-- LOAD_END, 12 R206. -/
  | loadEnd (read : EepromRead)
  /-- STARTUP_WAIT_END, 02 R45. -/
  | startupWaitEnd
  /-- NOTE_START, 02 R33. -/
  | noteStart
  /-- ARBITRATION_LOSS, 02 R33. -/
  | arbitrationLoss
  /-- SEND_ERROR, 02 R38. -/
  | sendError (e : BitError)
  /-- NOTE_ECHO, 02 R35. -/
  | noteEcho
  /-- NOTE_DISCARDED, 02 R34. -/
  | noteDiscarded (failure : ReceiveFailure)
  /-- OWN_NUMBER_HEARD, 02 R37. -/
  | ownNumberHeard
  /-- NOTE_HEARD, 02 R34. -/
  | noteHeard (src : Station)
  /-- TRIGGER_NOTE, 04 R77. -/
  | triggerNote (note : TriggerArrival)
  /-- CLAIM_RECEIVED, 03 R58. -/
  | claimReceived (src : Station) (note : ShareNote)
  /-- CLAIM_ECHO, 03 R61. -/
  | claimEcho
  /-- RELEASE_RECEIVED, 03 R65. -/
  | releaseReceived (src : Station) (note : ShareNote)
  /-- RELEASE_ECHO, 03 R65. -/
  | releaseEcho
  /-- PRESENCE_RECEIVED, 02 R50. -/
  | presenceReceived (src : Station) (note : PresenceFields)
  /-- LOCATE_START_NOTE, 10 R181. -/
  | locateStartNote (note : BundleArrival)
  /-- LOCATE_END_NOTE, 10 R180. -/
  | locateEndNote (note : BundleArrival)
  /-- PRESENCE_TIMER_EXPIRY, 02 R49. -/
  | presenceTimerExpiry
  /-- VIEW_AGE_EXPIRY, 02 R51. -/
  | viewAgeExpiry (station : Station)
  /-- RETRY_TIMER_EXPIRY, 03 R62. -/
  | retryTimerExpiry (drop : Drop)
  /-- POWER_ON, 01 R25. -/
  | powerOn (r : Request)
  /-- POWER_OFF, 01 R26. -/
  | powerOff (r : Request)
  /-- WAKE, 01 R27. -/
  | wake (r : Request)
  /-- CLEAR, 01 R28. -/
  | clear (r : Request)
  /-- QUERY_DROP, 01 R29. -/
  | queryDrop (r : Request)
  /-- POWER_GOOD, 01 R7. -/
  | powerGood (drop : Drop)
  /-- RAMP_WINDOW_EXPIRY, 01 R7. -/
  | rampWindowExpiry (drop : Drop)
  /-- CURRENT_ABOVE_STEADY, 01 R8: a sample of the drop current, in mA. -/
  | currentAboveSteady (drop : Drop) (milliamps : Nat)
  /-- CURRENT_BELOW_STEADY, 01 R8: a sample of the drop current, in mA. -/
  | currentBelowSteady (drop : Drop) (milliamps : Nat)
  /-- STEADY_TRIP_EXPIRY, 01 R8. -/
  | steadyTripExpiry (drop : Drop)
  /-- HARD_TRIP, 01 R9. -/
  | hardTrip (drop : Drop)
  /-- BACKOFF_EXPIRY, 01 R11. -/
  | backoffExpiry (drop : Drop)
  /-- STABLE_TIMER_EXPIRY, 01 R12. -/
  | stableTimerExpiry (drop : Drop)
  /-- NAP_TIMER_EXPIRY, 01 R22. -/
  | napTimerExpiry (drop : Drop)
  /-- WARM_TIMER_EXPIRY, 01 R16. -/
  | warmTimerExpiry (drop : Drop)
  /-- RELOCK_WINDOW_EXPIRY, 01 R18. -/
  | relockWindowExpiry (drop : Drop)
  /-- LOCK_GAIN, 01 R14. -/
  | lockGain (drop : Drop)
  /-- LOCK_LOSS, 01 R17. -/
  | lockLoss (drop : Drop) (order : LossOrder)
  /-- LOCK_TIMEOUT, 01 R14. -/
  | lockTimeout (drop : Drop) (order : LossOrder)
  /-- BEAT, 01 R14. -/
  | beat (drop : Drop)
  /-- OPEN_WORD, 05 R95. -/
  | openWord (drop : Drop) (word : Word)
  /-- DATA_WORD, 05 R97. -/
  | dataWord (drop : Drop) (word : Word)
  /-- CLOSE_WORD, 05 R99. -/
  | closeWord (drop : Drop) (word : Word)
  /-- SHOT_TIMEOUT, 06 R118: the entry of this trigger number. -/
  | shotTimeout (trigger : Half)
  /-- LENS_ACK, 08 R143. -/
  | lensAck (drop : Drop) (ack : LensAck)
  /-- ACK_TIMER_EXPIRY, 08 R144. -/
  | ackTimerExpiry (drop : Drop)
  /-- BURST_HANDOVER, 08 R142. -/
  | burstHandover (drop : Drop)
  /-- MARK_SENT, 01 R15. -/
  | markSent (drop : Drop)
  /-- LENS_HOME, 08 R147. -/
  | lensHome (r : Request)
  /-- LENS_MOVE, 08 R151. -/
  | lensMove (r : Request)
  /-- LENS_NUDGE, 08 R155. -/
  | lensNudge (r : Request)
  /-- LENS_HALT, 08 R156. -/
  | lensHalt (r : Request)
  /-- LENS_PUSH, 08 R158. -/
  | lensPush (r : Request)
  /-- LENS_POP, 08 R159. -/
  | lensPop (r : Request)
  /-- QUERY_LENS, 08 R161. -/
  | queryLens (r : Request)
  /-- LENS_SWEEP, 09 R167. -/
  | lensSweep (r : Request)
  /-- POINT_TIMER_EXPIRY, 09 R170. -/
  | pointTimerExpiry (drop : Drop)
  /-- QUERY_SWEEP, 09 R173. -/
  | querySweep (r : Request)
  /-- TRIGGER_INPUT_RISE, 04 R73. -/
  | triggerInputRise
  /-- TRIGGER_INPUT_FALL, 04 R73. -/
  | triggerInputFall
  /-- QUALIFY_TIMER_EXPIRY, 04 R73. -/
  | qualifyTimerExpiry
  /-- SLOT_MARK, 07 R128. -/
  | slotMark (mark : Nat)
  /-- RECORD_START, 07 R130. -/
  | recordStart
  /-- UPLINK_WORD_SENT, 07 R133. -/
  | uplinkWordSent
  /-- LINK_DOWN, 07 R136. -/
  | linkDown
  /-- LINK_UP, 07 R136. -/
  | linkUp
  /-- RESTART_SEND, 07 R137. -/
  | restartSend
  /-- LOCATE, 10 R176. -/
  | locate (r : Request)
  /-- LOCATE_HALT, 10 R186. -/
  | locateHalt (r : Request)
  /-- FLASH_START, 10 R178. -/
  | flashStart
  /-- FLASH_STALE, 10 R177: the flash entry of this drop. -/
  | flashStale (drop : Drop)
  /-- REQUEST_ACTIVATE, 10 R179. -/
  | requestActivate
  /-- QUIESCE_END, 10 R179. -/
  | quiesceEnd
  /-- HOLDER_EXPIRY, 10 R180: the holder view entry of this bundle. -/
  | holderExpiry (bundle : Nat)
  /-- LAUNCH_START, 10 R182. -/
  | launchStart
  /-- SETTLE_END, 10 R182. -/
  | settleEnd
  /-- SHOT_COMPLETE, 10 R183: the 512 samples of the shot. -/
  | shotComplete (samples : List (BitVec 10))
  /-- QUERY_SITES, 11 R200. -/
  | querySites (r : Request)
  /-- CLEAR_SITES, 11 R201. -/
  | clearSites (r : Request)
  /-- QUERY_STATION, 12 R205. -/
  | queryStation (r : Request)
  /-- UNKNOWN_REQUEST_KIND, 12 R202: the kind value the note carries. -/
  | unknownRequestKind (kind : Byte) (r : Request)
deriving DecidableEq, Repr

/-- The request kinds of 12 section 12.5, with their kind values. -/
inductive RequestKind where
  | powerOn | powerOff | wake | clear | queryDrop
  | lensHome | lensMove | lensNudge | lensHalt | lensPush | lensPop | queryLens
  | lensSweep | querySweep | locate | locateHalt | querySites | clearSites | queryStation
deriving DecidableEq, Repr

/-- Every request kind, in the order of 12 section 12.5. -/
def RequestKind.all : List RequestKind :=
  [.powerOn, .powerOff, .wake, .clear, .queryDrop, .lensHome, .lensMove, .lensNudge, .lensHalt, .lensPush,
   .lensPop, .queryLens, .lensSweep, .querySweep, .locate, .locateHalt, .querySites, .clearSites, .queryStation]

/-- The kind value of a request kind (12 section 12.5). -/
def RequestKind.value : RequestKind → Byte
  | .powerOn => 1
  | .powerOff => 2
  | .wake => 3
  | .clear => 4
  | .queryDrop => 5
  | .lensHome => 8
  | .lensMove => 9
  | .lensNudge => 10
  | .lensHalt => 11
  | .lensPush => 12
  | .lensPop => 13
  | .queryLens => 14
  | .lensSweep => 16
  | .querySweep => 17
  | .locate => 20
  | .locateHalt => 21
  | .querySites => 24
  | .clearSites => 25
  | .queryStation => 28

end Sys2Proof
end

