-- ==== Sys2Proof/Config.lean ====
section
/-! DEFINITION. What the part fixes as constants, and the free values: the values the spec leaves open. -/

namespace Sys2Proof.Config

/-! ## Free values: constants without a body, so that no proof can see a value (log 3) -/

/-- The residual current in mA that the measured current reads when a switch opens: "normally 0 mA"
(01 R8), so not always. The argument is the number of the draw. Log 4. -/
opaque residualCurrent : Nat → BitVec 12

/-- What a query reads from a configuration field that has no value because loading has not ended
(07 R127, 03 R58). The argument is the number of the draw. Log 7. -/
opaque unloadedValue : Nat → BitVec 32

/-- The bits of a payload byte that no layout of 12 section 12.6 names. The argument numbers the layout. Log 7. -/
opaque unnamedBits : Nat → BitVec 8

/-! ## Times, in microseconds -/

/-- RAMPING's limit (01 R1). -/
def rampWindowUs : Nat := 20000
/-- WARMING's limit (01 R1). -/
def warmTimerUs : Nat := 3000000
/-- LOST's limit (01 R1). -/
def relockWindowUs : Nat := 200000
/-- The backoff after the first trip of a series (01 R10). -/
def firstBackoffUs : Nat := 1000000
/-- The backoff after the second trip of a series (01 R10). -/
def secondBackoffUs : Nat := 2000000
/-- The READY time that ends a trip series (01 R1). -/
def stableTimerUs : Nat := 60000000
/-- The time above the steady level that trips (01 R1, R8). -/
def steadyTripUs : Nat := 10000
/-- The time without any item after which lock is lost (01 R14). -/
def silenceUs : Nat := 4000
/-- The start-up wait of the line (02 R45). -/
def startWaitUs : Nat := 300000
/-- The presence period (02 R49). -/
def presenceUs : Nat := 250000
/-- The age at which a view entry becomes absent (02 R51). -/
def viewAgeUs : Nat := 1000000
/-- The retry wait of a void claim (03 R59). -/
def retryUs : Nat := 500000
/-- The acknowledgement timer of a burst (08 R143). -/
def ackTimerUs : Nat := 5000
/-- The wait for a part at a sweep point (09 R166). -/
def pointTimerUs : Nat := 2000000
/-- The settle wait after the HUSH (10 R182). -/
def settleUs : Nat := 500

/-! ## Levels and sizes -/

/-- The hard trip level of every drop, in mA (01 R8). -/
def hardTripMa : Nat := 2000
/-- Where the measured current saturates, in mA (01 R8). -/
def measuredMaxMa : Nat := 4095
/-- The most a held value holds, in mA (03 R56). -/
def heldMaxMa : Nat := 5000
/-- Pages of the frame memory (00 "Blocks"). -/
def pageCount : Nat := 4096
/-- Words of a page (00 "Blocks"). -/
def pageWords : Nat := 16384
/-- Payload words a fragment may have (05 R97). -/
def fragmentWords : Nat := 4096
/-- Entries of the shot table (06 R104). -/
def shotTableSize : Nat := 16
/-- Notes of the transmit queue (02 R40). -/
def queueSize : Nat := 12
/-- What the queue may hold for a note of class 3 to join (02 R41). -/
def classThreeLimit : Nat := 8
/-- Failed attempts that drop a note (02 R39). -/
def maxAttempts : Nat := 8
/-- Entries of the setting stack (08 R157). -/
def stackSize : Nat := 4
/-- Points of a sweep (09 R167). -/
def maxPoints : Nat := 32
/-- Entries of the locator's pending queue (10 R175). -/
def locatorQueueSize : Nat := 6
/-- Deferrals after which a request ends BUNDLE_BUSY (10 R181). -/
def maxDeferrals : Nat := 8
/-- Samples of a locator shot (10 R183). -/
def sampleCount : Nat := 512
/-- How far a site gathers records, in mm (11 R196). -/
def siteReachMm : Nat := 150

end Sys2Proof.Config
end

