-- ==== Sys2Proof/Machine/Types.lean ====
section
/-! DEFINITION. The records the blocks own, as plain data: one structure per table of state in the spec. -/

namespace Sys2Proof.Machine

/-- A timer of the hub: stopped, or running since a time with its limit, both in microseconds (log 2). -/
inductive Timer where
  | stopped
  | running (since limit : Nat)
deriving DecidableEq, Repr

/-- Whether a timer runs. -/
def Timer.isRunning : Timer → Bool
  | .stopped => false
  | .running _ _ => true

/-! ## Configuration (12 R206 and section 12.6) -/

/-- The station section of configuration. A station set is its bits 0 to 14. -/
structure StationCfg where
  controllerSet : Half
  serviceSet : Half
  cellBudget : Nat
  origin : Bool
  respectHolds : Bool
  localMask : Byte
  qualifyUs : Nat
  holdThreshold : Nat
  releaseThreshold : Nat
  shotTimeoutMs : Nat
  ringLength : Nat
  pauseThreshold : Nat
  fillWord : Word
deriving DecidableEq, Repr

/-- One drop section of configuration. -/
structure DropCfg where
  enabled : Bool
  autoPower : Bool
  scoring : Bool
  allowance : Nat
  napSeconds : Nat
  group : Nat
  bundle : Nat
  startPattern : Byte
  startMask : Byte
  endPattern : Byte
  endMask : Byte
  frameSize : Nat
  focusRange : Nat
  irisRange : Nat
  focusBacklash : Nat
  irisBacklash : Nat
  burstIntervalMs : Nat
  frameWidth : Nat
  firstRow : Nat
  lastRow : Nat
  firstColumn : Nat
  lastColumn : Nat
  threshold : Nat
  velocity : Nat
  calibration : Nat
deriving DecidableEq, Repr

/-- The whole configuration, as it takes effect when loading ends (12 R207). -/
structure Configuration where
  station : StationCfg
  drops : PerDrop DropCfg
deriving DecidableEq, Repr

/-- The loader state (12 section 12.3). -/
inductive LoaderState where
  | loading | loaded | defaulted
deriving DecidableEq, Repr

/-! ## The drop record and the Link Port (01) -/

/-- The drop states, in the order of 01 R1. -/
inductive DropState where
  | off | claiming | ramping | warming | ready | hushed | lost | tripped | napping | fault
deriving DecidableEq, Repr

/-- Powered: RAMPING, WARMING, READY, HUSHED or LOST (00, "Terms"). -/
def DropState.powered : DropState → Bool
  | .ramping | .warming | .ready | .hushed | .lost => true
  | .off | .claiming | .tripped | .napping | .fault => false

/-- The drop switch is closed exactly in the powered states (01 R3). -/
def DropState.switchClosed (st : DropState) : Bool := st.powered

/-- The causes, in the order of 01 R1. -/
inductive Cause where
  | overcurrent | short | rampFail | noLink | linkDead | tripLimit
deriving DecidableEq, Repr

/-- The causes of a trip, in the order of 01 R1. -/
inductive TripCause where
  | overcurrent | short | rampFail
deriving DecidableEq, Repr

/-- A trip's cause as the drop record's cause. -/
def TripCause.toCause : TripCause → Cause
  | .overcurrent => .overcurrent
  | .short => .short
  | .rampFail => .rampFail

/-- The drop record (01 R1). -/
structure DropRec where
  state : DropState
  onIntent : Bool
  locateHold : Bool
  tripSeries : Nat
  cause : Option Cause
  lastTripCause : Option TripCause
  measured : Nat
  tripCount : Nat
  lockLossCount : Nat
  dropoutCount : Nat
  rampWindow : Timer
  warmTimer : Timer
  relockWindow : Timer
  backoffTimer : Timer
  stableTimer : Timer
  napTimer : Timer
  steadyTrip : Timer
deriving DecidableEq, Repr

/-- A lens command to the camera head (08 R141). `up` is away from the home switch. -/
structure Burst where
  axis : Axis
  up : Bool
  steps : Nat
  stopAtHome : Bool
deriving DecidableEq, Repr

/-- A mark of the back-channel (01 R15). A burst carries the model's serial of its hand-over (log 10). -/
inductive Mark where
  | trigger (tag : Byte)
  | hush
  | unhush
  | burst (b : Burst) (serial : Nat)
deriving DecidableEq, Repr

/-- The place of a mark among those handed at the same moment: HUSH or UNHUSH, trigger marks, a lens burst
(01 R15). -/
def Mark.rank : Mark → Nat
  | .hush | .unhush => 0
  | .trigger _ => 1
  | .burst _ _ => 2

/-- A mark in the transmitter, with the moment at which it was handed over (01 R15, log 36). -/
structure HandedMark where
  mark : Mark
  moment : Nat
deriving DecidableEq, Repr

/-- The Link Port (01 R14, R15): lock status, beat run, the time without an item, and the transmitter's mark being
sent with the marks that wait behind it. -/
structure LinkPort where
  locked : Bool
  beatRun : Nat
  silence : Timer
  sending : Option HandedMark
  waiting : List HandedMark
deriving DecidableEq, Repr

/-! ## The cell line (02) -/

/-- The answer codes (12 R203). -/
inductive AnswerCode where
  | accepted | done | clamped | refusedRank | refusedState | busy | notHomed | full | empty
  | alreadyQueued | queueFull | unknown
deriving DecidableEq, Repr

/-- The phases of HOMING (08 R139). -/
inductive HomePhase where
  | turn | probe | search
deriving DecidableEq, Repr

/-- The phases of MOVING (08 R139). -/
inductive MovePhase where
  | turn | down | up
deriving DecidableEq, Repr

/-- The causes of an axis ERROR (08 R139). -/
inductive AxisError where
  | homeFail | noAck | verify | link
deriving DecidableEq, Repr

/-- An axis's state with its phase or its error cause (08 R139). -/
inductive AxisMode where
  | idle
  | homing (phase : HomePhase)
  | moving (phase : MovePhase)
  | error (cause : AxisError)
deriving DecidableEq, Repr

/-- The outcomes of LENS_DONE (08 R160). -/
inductive LensOutcome where
  | done | halted | homeFail | noAck | verify | link
deriving DecidableEq, Repr

/-- The phases of a sweep (09 R166). -/
inductive SweepPhase where
  | move | wait | return | best
deriving DecidableEq, Repr

/-- The outcomes of a sweep (09 R166). -/
inductive SweepOutcome where
  | done | stalled | halted | locate | noAck | verify | link
deriving DecidableEq, Repr

/-- The reflection kinds, in the order of 11 R194. -/
inductive ReflectionKind where
  | open | short | stepUp | stepDown | near | none
deriving DecidableEq, Repr

/-- The kinds a site can have (11 R195). -/
inductive SiteKind where
  | open | short | stepUp | stepDown
deriving DecidableEq, Repr

/-- The origin of a capture (11 R194). -/
inductive Origin where
  | request | flash
deriving DecidableEq, Repr

/-- The outcomes of LOCATE_DONE (10 R184). -/
inductive LocateOutcome where
  | done | noLaunch | bundleBusy | noLine | halted
deriving DecidableEq, Repr

/-- What an analysed capture gives (11 R190 to R193). -/
structure Reflection where
  kind : ReflectionKind
  distance : Nat
  q : Nat
deriving DecidableEq, Repr

/-- The value of an ANSWER, by its layout in 12 section 12.6. -/
inductive AnswerValue where
  /-- No value bytes. -/
  | noValue
  /-- A DPU answer: the drop state in one byte (01 section 1.11). -/
  | dropState (st : DropState)
  /-- LENS_MOVE and LENS_NUDGE: the target taken, in two bytes. -/
  | target (steps : Nat)
  /-- One byte: a depth, a point count, a number of entries or of sites. -/
  | count (n : Nat)
  /-- QUERY_DROP 0. -/
  | dropStatus (st : DropState) (cause : Option Cause) (last : Option TripCause)
      (enabled onIntent locateHold locked : Bool)
  /-- QUERY_DROP 1. -/
  | dropCurrent (measured allowance : Nat)
  /-- QUERY_DROP 2. -/
  | dropLosses (lockLosses dropouts : Nat)
  /-- QUERY_DROP 3. -/
  | dropTrips (series count : Nat)
  /-- QUERY_LENS 0 and 1. -/
  | lensAxis (mode : AxisMode) (homed : Bool) (position : Nat)
  /-- QUERY_LENS 2. -/
  | lensTargets (focus iris depth : Nat)
  /-- QUERY_LENS 3 and 4. -/
  | lensCounters (a b c d : Nat)
  /-- QUERY_SWEEP 0; the state is RUNNING exactly when a phase is present. -/
  | sweepRecord (phase : Option SweepPhase) (last : Option SweepOutcome) (points entries passed : Nat)
  /-- QUERY_SWEEP 1 to 32. -/
  | sweepPoint (position score : Nat)
  /-- QUERY_SITES 0; the polarity is the kind's. -/
  | sitePlace (slot : Nat) (kind : SiteKind) (center : Nat)
  /-- QUERY_SITES 1. -/
  | siteCounts (count flashes : Nat)
  /-- QUERY_SITES 2 and 3. -/
  | siteSequence (seq : BitVec 32)
  /-- QUERY_SITES 4. -/
  | siteTrigger (slot : Nat) (trigger : Option Half)
  /-- QUERY_STATION: an unsigned number in four bytes. -/
  | station (value : Nat)
deriving DecidableEq, Repr

/-- An ANSWER note: the requester, the request kind and drop field as received, the code and the value (12 R203). -/
structure Answer where
  target : Station
  kind : Byte
  drop : Byte
  code : AnswerCode
  value : AnswerValue
deriving DecidableEq, Repr

/-- An EVENT note's kind and fields (02 R48). -/
inductive Event where
  | dropState (drop : Drop) (state : DropState) (cause : Option Cause)
  | lensDone (drop : Drop) (axis : Axis) (outcome : LensOutcome) (position : Nat)
  | sweepDone (drop : Drop) (outcome : SweepOutcome) (position : Nat) (score : Option Nat)
  | locateDone (drop : Drop) (origin : Origin) (crosstalk : Bool) (outcome : LocateOutcome)
      (result : Option Reflection)
  | siteChanged (drop : Drop) (slot : Nat) (kind : SiteKind) (count center : Nat)
  | slip (expected received : Half)
deriving DecidableEq, Repr

/-- The notes a hub sends (02 R47). A field filled at the start of each attempt (02 R42) is absent before the
first attempt. -/
inductive NoteBody where
  | trigger (number : Option Half) (mask : Byte)
  | claim (drop : Drop) (amount : Nat) (total : Option Nat)
  | release (drop : Drop) (amount : Nat) (total : Option Nat)
  | locateStart (bundle : Nat) (drop : Drop)
  | locateEnd (bundle : Nat) (drop : Drop)
  | answer (a : Answer)
  | presence (p : Option PresenceFields)
  | event (e : Event)
deriving DecidableEq, Repr

/-- The two classes of a send error (02 R38). -/
inductive ErrorClass where
  | contention | corrupt
deriving DecidableEq, Repr

/-- A note in the transmit queue: its fields, the class of each failed attempt so far, and whether it is on the
line (02 R38 to R40). -/
structure QNote where
  body : NoteBody
  failures : List ErrorClass
  onLine : Bool
deriving DecidableEq, Repr

/-- The attempt count of a note: its failed attempts (02 R39). -/
def QNote.attempts (n : QNote) : Nat := n.failures.length

/-- The line counters, in the order of 02 R52. -/
structure LineCounters where
  notesSent : Nat
  notesHeard : Nat
  arbitrationLosses : Nat
  sendErrors : Nat
  notesDropped : Nat
  receiveErrors : Nat
  formatErrors : Nat
  abortsHeard : Nat
  classThreeRefusals : Nat
  answerRefusals : Nat
  duplicateSuspected : Nat
deriving DecidableEq, Repr

/-- The Cell Line Interface. `drive` is the bits it is set to drive: the frame of the attempt on the line, an abort
run, or none; `waitGaps` is the gaps of idle line that its next start waits for (02 R33, R39). -/
structure Cli where
  queue : List QNote
  drive : List Bool
  waitGaps : Nat
  startWait : Timer
  presenceTimer : Timer
  counters : LineCounters
deriving DecidableEq, Repr

/-- A view entry (02 R51): present exactly while its age runs. -/
structure ViewEntry where
  age : Timer
  held : Nat
  hold : Bool
deriving DecidableEq, Repr

/-- Whether a view entry is present. -/
def ViewEntry.present (e : ViewEntry) : Bool := e.age.isRunning

/-! ## The budget and the triggers (03, 04) -/

/-- The retry state of a claim entry (03 R59). -/
inductive RetryState where
  | sendable
  | waiting (timer : Timer)
deriving DecidableEq, Repr

/-- An entry of the claim queue (03 R59). -/
structure ClaimEntry where
  drop : Drop
  retry : RetryState
deriving DecidableEq, Repr

/-- The Budget Unit (03 R54, R59, R70). -/
structure Budget where
  ownHeld : Nat
  claims : List ClaimEntry
  claimsGranted : Nat
  claimsVoid : Nat
  unusedGrants : Nat
  claimsDropped : Nat
deriving DecidableEq, Repr

/-- The input levels of the local trigger input (04 R71). -/
inductive InputLevel where
  | low | qualifying | high
deriving DecidableEq, Repr

/-- The Trigger Unit (04 R71). `pendingMask` is the pending note's mask, absent when no note is pending. -/
structure TriggerUnit where
  expected : Half
  synced : Bool
  pendingMask : Option Byte
  inputLevel : InputLevel
  qualifyTimer : Timer
  edgeCount : Nat
  withheldCount : Nat
  slipCount : Nat
  triggerCount : Nat
deriving DecidableEq, Repr

/-! ## Frame memory and reception (05) -/

/-- The frame memory: its cells in one canonical form (log 8). -/
abbrev Memory := List Host.Cell

/-- The Frame Memory Manager (05 R85) with the memory it manages. -/
structure FrameMemory where
  freeList : List Nat
  freeCount : Nat
  hold : Bool
  lowWater : Nat
  takeFailures : Nat
  mem : Memory
deriving DecidableEq, Repr

/-- The state of a receive context, with the bound part in IN and late owed in SKIP (05 R93). The bound part is
named by its shot's trigger number; its drop is the context's. -/
inductive RxMode where
  | idle
  | inside (trigger : Half)
  | skip (lateOwed : Bool)
deriving DecidableEq, Repr

/-- A drop's receive context and receive counters (05 R93, R103). -/
structure Receiver where
  mode : RxMode
  last : Bool
  arrived : Nat
  bound : Nat
  badMarkers : Nat
  stray : Nat
  late : Nat
  runts : Nat
  lengthErrors : Nat
  sequenceErrors : Nat
  overlong : Nat
  lostWords : Nat
deriving DecidableEq, Repr

/-! ## Shots (06) and scoring sums (09) -/

/-- The closed statuses of a part, in the order of 06 R106. -/
inductive ClosedStatus where
  | complete | timeout | linkLost | powerLost | asleep | notReady | locating
deriving DecidableEq, Repr

/-- The status of a part (06 R106). -/
inductive PartStatus where
  | pending
  | receiving
  | closed (c : ClosedStatus)
deriving DecidableEq, Repr

/-- A part is open while PENDING or RECEIVING (06 section 6.4). -/
def PartStatus.isOpen : PartStatus → Bool
  | .pending | .receiving => true
  | .closed _ => false

/-- The flags of a part (06 R106). -/
structure PartFlags where
  truncated : Bool
  lengthError : Bool
  sequence : Bool
  overlong : Bool
  frameCut : Bool
  moving : Bool
deriving DecidableEq, Repr

/-- The running sums of an open part (09 R163). -/
structure SumRecord where
  g : Nat
  n : Nat
  s : Nat
  m : Nat
  carry : Option Nat
deriving DecidableEq, Repr

/-- A part (06 R106), with the Fragment Receiver's next index (05 R93) and the Focus Scorer's sum record (09 R163)
of an open part. `brk` is the break kind and distance, present together or absent together. -/
structure Part where
  drop : Drop
  status : PartStatus
  recorded : Option DropState
  flags : PartFlags
  focus : Option Nat
  iris : Option Nat
  words : Nat
  lost : Nat
  chain : List Nat
  score : Option Nat
  brk : Option (ReflectionKind × Nat)
  nextIndex : Option Nat
  sums : Option SumRecord
deriving DecidableEq, Repr

/-- The states of a shot-table entry (06 R105). -/
inductive EntryState where
  | open | closed | sending
deriving DecidableEq, Repr

/-- An entry of the shot table (06 R105). -/
structure Entry where
  trigger : Half
  origin : Station
  mask : Byte
  state : EntryState
  age : Timer
  skipped : Nat
  parts : List Part
deriving DecidableEq, Repr

/-- The Shot Builder (06 R104, R124). -/
structure Shots where
  table : List Entry
  skipped : Nat
  lastRelayed : PerDrop (Option Half)
  opened : Nat
  shotsSkipped : Nat
  duplicates : Nat
  breaksAttached : Nat
  breaksUnattached : Nat
deriving DecidableEq, Repr

/-! ## The uplink (07) -/

/-- The pause states, in the order of 07 R126. -/
inductive Pause where
  | none | empty | headOpen | ring | link | restart
deriving DecidableEq, Repr

/-- The Uplink Sender (07 R126). `record` is the word reached in the record of the oldest entry; `lastWord` is the
model's own view of the last word the link layer took (log 9). -/
structure Uplink where
  place : Nat
  mark : Nat
  record : Option Nat
  restartOwed : Bool
  pause : Pause
  linkUp : Bool
  recordsSent : Nat
  fillWords : Nat
  overlongParts : Nat
  ringPauses : Nat
  linkLosses : Nat
  badMarks : Nat
  lastWord : Option Word
deriving DecidableEq, Repr

/-! ## The lens (08) and the sweep (09) -/

/-- An axis record (08 R139). -/
structure AxisRec where
  mode : AxisMode
  position : Nat
  target : Nat
  legGoal : Option Nat
  homed : Bool
  verify : Bool
  searchCount : Nat
  haltOwed : Bool
deriving DecidableEq, Repr

/-- A setting of the stack (08 R157). -/
structure Setting where
  focus : Option Nat
  iris : Option Nat
deriving DecidableEq, Repr

/-- The sweep record and table (09 R166). The state is RUNNING exactly when a phase is present. `endOwed` is the
model's own: the outcome with which a halted sweep ends when FOCUS has stopped (09 R172, log 11). -/
structure Sweep where
  phase : Option SweepPhase
  start : Nat
  stride : Nat
  pointCount : Nat
  pointIndex : Nat
  preSweep : Nat
  pointTimer : Timer
  passed : Nat
  lastOutcome : Option SweepOutcome
  table : List (Nat × Nat)
  endOwed : Option SweepOutcome
deriving DecidableEq, Repr

/-- The Lens Controller of a drop (08 R139, R142, R143, R157, R161; 09 R166). -/
structure Lens where
  focus : AxisRec
  iris : AxisRec
  slot : Option (Burst × Nat)
  ackTimer : Timer
  lastBurst : Option (Nat × Axis)
  burstSerial : Nat
  stack : List Setting
  burstsSent : Nat
  acks : Nat
  ackTimeouts : Nat
  strayAcks : Nat
  homings : Nat
  homeFailures : Nat
  moves : Nat
  verifyFailures : Nat
  sweep : Sweep
deriving DecidableEq, Repr

/-! ## The Line Locator (10) and the site tables (11) -/

/-- A flash entry of the pending queue (10 R174). -/
structure FlashEntry where
  drop : Drop
  lossTime : Nat
  trigger : Option Half
deriving DecidableEq, Repr

/-- A request entry of the pending queue (10 R174). -/
structure RequestEntry where
  drop : Drop
  k : Nat
  requester : Station
deriving DecidableEq, Repr

/-- The phases of the active request (10 R174). -/
inductive LocatePhase where
  | quiesce | bundle | launch | settle | capture
deriving DecidableEq, Repr

/-- The types of a capture (10 R174). -/
inductive CaptureType where
  | flash | quiet | dark
deriving DecidableEq, Repr

/-- The bundle state of the active request (10 R174). -/
inductive BundleState where
  | none | queued | held
deriving DecidableEq, Repr

/-- The active request (10 R174). -/
structure ActiveRequest where
  drop : Drop
  k : Nat
  requester : Station
  phase : LocatePhase
  type : CaptureType
  bundleState : BundleState
  deferrals : Nat
  haltOwed : Bool
deriving DecidableEq, Repr

/-- The in-flight capture (10 R174). -/
structure Capture where
  type : CaptureType
  drop : Drop
  k : Nat
  shotsDone : Nat
  sums : List Nat
  crosstalk : Bool
  trigger : Option Half
  stopOwed : Bool
deriving DecidableEq, Repr

/-- A bundle's holder and the time of its LOCATE_START (10 R174). -/
structure Holder where
  station : Station
  since : Nat
deriving DecidableEq, Repr

/-- The Line Locator (10 R174, R187). The pending queue is `flashes` and behind them `requests` (10 R175); the
holder view has the entries of bundles 1 to 15 in order. -/
structure Locator where
  flashes : List FlashEntry
  requests : List RequestEntry
  active : Option ActiveRequest
  capture : Option Capture
  settle : Timer
  holders : List (Option Holder)
  requestsTaken : Nat
  flashesRun : Nat
  flashesStale : Nat
  flashesIgnored : Nat
  bundleDeferrals : Nat
  bundleFailures : Nat
  noLaunch : Nat
  analysed : Nat
  halts : Nat
deriving DecidableEq, Repr

/-- A site (11 R195); its polarity is its kind's. -/
structure Site where
  kind : SiteKind
  center : Nat
  count : Nat
  firstSeq : BitVec 32
  lastSeq : BitVec 32
  flashCount : Nat
  lastTrigger : Option Half
deriving DecidableEq, Repr

/-- A drop's site table of 4 slots, eviction count and next sequence (11 R194, R195). -/
structure SiteTable where
  slots : List (Option Site)
  evictions : Nat
  nextSeq : BitVec 32
deriving DecidableEq, Repr

end Sys2Proof.Machine
end

