-- ==== Sys2Proof/Machine/Configuration.lean ====
section
/-! DEFINITION. The EEPROM image: its check, its fields, their clamps and the values after DEFAULTED (12 R206 and
section 12.6, with the clamps of the chapters that own the fields). -/

namespace Sys2Proof.Machine

/-- The station section after DEFAULTED: 12 R206, 03 R55, 04 R72, 05 R88, 06 R107, 07 R127. -/
def defaultedStation : StationCfg :=
  { controllerSet := 0x7fff, serviceSet := 0x7fff, cellBudget := 0, origin := false, respectHolds := true,
    localMask := 0, qualifyUs := 0, holdThreshold := 0, releaseThreshold := 1, shotTimeoutMs := 100, ringLength := 2,
    pauseThreshold := 2, fillWord := 0 }

/-- A drop section after DEFAULTED: 01 R2, 05 R94, 07 R127, 08 R140, 09 R162, 11 R188. Nap time, group and bundle,
for which the spec gives no value, are 0 (log 12). -/
def defaultedDrop : DropCfg :=
  { enabled := false, autoPower := false, scoring := false, allowance := 0, napSeconds := 0, group := 0, bundle := 0,
    startPattern := 0, startMask := 255, endPattern := 0, endMask := 255, frameSize := 1, focusRange := 1,
    irisRange := 1, focusBacklash := 0, irisBacklash := 0, burstIntervalMs := 50, frameWidth := 4, firstRow := 0,
    lastRow := 0, firstColumn := 0, lastColumn := 0, threshold := 64, velocity := 660, calibration := 0 }

/-- The configuration after DEFAULTED. -/
def defaultedConfiguration : Configuration :=
  { station := defaultedStation, drops := PerDrop.const defaultedDrop }

/-- The byte of an image at a place. -/
def imageByte (img : List Byte) (i : Nat) : Byte := img.getD i 0

/-- The `n`-byte number of an image at a place, most significant byte first. -/
def imageNum (img : List Byte) (i n : Nat) : Nat := natOfBytes ((img.drop i).take n)

/-- The checks of 12 R206 on an image that was read whole. -/
def imagePasses (img : List Byte) : Bool :=
  decide (imageNum img 0 2 = 177) && decide (imageByte img 2 = 1) &&
    decide ((((img.take 175).map BitVec.toNat).sum + imageNum img 175 2) % 65536 = 0)

/-- The nearest end of a range (00, "Clamping"). -/
def clampTo (lo hi v : Nat) : Nat := max lo (min hi v)

/-- The station section as the image spells it. -/
def rawStation (img : List Byte) : StationCfg :=
  { controllerSet := BitVec.ofNat 16 (imageNum img 3 2)
    serviceSet := BitVec.ofNat 16 (imageNum img 5 2)
    cellBudget := imageNum img 7 2
    origin := (imageByte img 9).getLsbD 0
    respectHolds := (imageByte img 9).getLsbD 1
    localMask := imageByte img 10
    qualifyUs := imageNum img 11 2
    holdThreshold := imageNum img 13 2
    releaseThreshold := imageNum img 15 2
    shotTimeoutMs := imageNum img 17 2
    ringLength := imageNum img 19 2
    pauseThreshold := imageNum img 21 2
    fillWord := BitVec.ofNat 32 (imageNum img 23 4) }

/-- The station section brought into range: 03 R55, 04 R72, 05 R88, 06 R107, 07 R127. -/
def clampStation (c : StationCfg) : StationCfg :=
  let hold := min 4095 c.holdThreshold
  let ring := clampTo 2 4096 c.ringLength
  { c with
    cellBudget := min 20000 c.cellBudget
    qualifyUs := min 1000 c.qualifyUs
    holdThreshold := hold
    releaseThreshold := max (hold + 1) (min 4096 c.releaseThreshold)
    shotTimeoutMs := clampTo 1 1000 c.shotTimeoutMs
    ringLength := ring
    pauseThreshold := clampTo 2 ring c.pauseThreshold }

/-- How many fields of the station section were brought into range (log 15). -/
def stationClamps (raw c : StationCfg) : Nat :=
  [raw.cellBudget != c.cellBudget, raw.qualifyUs != c.qualifyUs, raw.holdThreshold != c.holdThreshold,
    raw.releaseThreshold != c.releaseThreshold, raw.shotTimeoutMs != c.shotTimeoutMs,
    raw.ringLength != c.ringLength, raw.pauseThreshold != c.pauseThreshold].count true

/-- The drop section that starts at a byte, as the image spells it. -/
def rawDrop (img : List Byte) (base : Nat) : DropCfg :=
  { enabled := (imageByte img base).getLsbD 0
    autoPower := (imageByte img base).getLsbD 1
    scoring := (imageByte img base).getLsbD 2
    allowance := imageNum img (base + 1) 2
    napSeconds := imageNum img (base + 3) 2
    group := imageNum img (base + 5) 1
    bundle := imageNum img (base + 6) 1
    startPattern := imageByte img (base + 7)
    startMask := imageByte img (base + 8)
    endPattern := imageByte img (base + 9)
    endMask := imageByte img (base + 10)
    frameSize := imageNum img (base + 11) 4
    focusRange := imageNum img (base + 15) 2
    irisRange := imageNum img (base + 17) 2
    focusBacklash := imageNum img (base + 19) 1
    irisBacklash := imageNum img (base + 20) 1
    burstIntervalMs := imageNum img (base + 21) 1
    frameWidth := imageNum img (base + 22) 2
    firstRow := imageNum img (base + 24) 2
    lastRow := imageNum img (base + 26) 2
    firstColumn := imageNum img (base + 28) 2
    lastColumn := imageNum img (base + 30) 2
    threshold := imageNum img (base + 32) 2
    velocity := imageNum img (base + 34) 2
    calibration := imageNum img (base + 36) 1 }

/-- A drop section brought into range: 12 R206, 07 R127, 08 R140, 09 R162, 11 R188. -/
def clampDrop (c : DropCfg) : DropCfg :=
  { c with
    allowance := min 1250 c.allowance
    napSeconds := min 600 c.napSeconds
    group := min 7 c.group
    bundle := min 15 c.bundle
    frameSize := clampTo 1 4194304 c.frameSize
    focusRange := clampTo 1 30000 c.focusRange
    irisRange := clampTo 1 4000 c.irisRange
    burstIntervalMs := clampTo 1 50 c.burstIntervalMs
    frameWidth := max 4 (c.frameWidth / 4 * 4)
    lastRow := max c.firstRow c.lastRow
    lastColumn := max c.firstColumn c.lastColumn
    threshold := clampTo 8 511 c.threshold
    velocity := clampTo 500 990 c.velocity }

/-- How many fields of a drop section were brought into range (log 15). -/
def dropClamps (raw c : DropCfg) : Nat :=
  [raw.allowance != c.allowance, raw.napSeconds != c.napSeconds, raw.group != c.group, raw.bundle != c.bundle,
    raw.frameSize != c.frameSize, raw.focusRange != c.focusRange, raw.irisRange != c.irisRange,
    raw.burstIntervalMs != c.burstIntervalMs, raw.frameWidth != c.frameWidth, raw.lastRow != c.lastRow,
    raw.lastColumn != c.lastColumn, raw.threshold != c.threshold, raw.velocity != c.velocity].count true

/-- The byte at which the section of a drop starts: 27 + 37d (12 section 12.6). -/
def dropBase (d : Drop) : Nat := 27 + 37 * d.toNat

/-- The configuration of an image that passes, brought into range. -/
def imageConfiguration (img : List Byte) : Configuration :=
  { station := clampStation (rawStation img)
    drops := ⟨clampDrop (rawDrop img (dropBase .d0)), clampDrop (rawDrop img (dropBase .d1)),
      clampDrop (rawDrop img (dropBase .d2)), clampDrop (rawDrop img (dropBase .d3))⟩ }

/-- How many fields of an image were brought into range. -/
def imageClamps (img : List Byte) : Nat :=
  stationClamps (rawStation img) (clampStation (rawStation img)) +
    (Drop.all.map fun d => dropClamps (rawDrop img (dropBase d)) (clampDrop (rawDrop img (dropBase d)))).sum

end Sys2Proof.Machine
end

