-- ==== Sys2Proof/Machine/Formats.lean ====
section
/-! DEFINITION. The codes and byte layouts that a station of the cell line sees (12 section 12.6). Bits of a byte
that no layout names are the free value `Config.unnamedBits` (log 7). -/

namespace Sys2Proof.Machine

/-- "The all-ones value of an enumerated field stands for absent": an optional code in a whole byte. -/
def codeOr255 : Option Nat → Nat
  | some n => n
  | none => 255

/-- Drop states "follow R1", counted from 0. -/
def DropState.code : DropState → Nat
  | .off => 0
  | .claiming => 1
  | .ramping => 2
  | .warming => 3
  | .ready => 4
  | .hushed => 5
  | .lost => 6
  | .tripped => 7
  | .napping => 8
  | .fault => 9

/-- Causes "follow R1". -/
def Cause.code : Cause → Nat
  | .overcurrent => 0
  | .short => 1
  | .rampFail => 2
  | .noLink => 3
  | .linkDead => 4
  | .tripLimit => 5

/-- The last trip cause's list in R1. -/
def TripCause.code : TripCause → Nat
  | .overcurrent => 0
  | .short => 1
  | .rampFail => 2

/-- An axis byte of a note. -/
def axisCode : Axis → Nat
  | .focus => 0
  | .iris => 1

/-- Axis states "follow R139". -/
def AxisMode.stateCode : AxisMode → Nat
  | .idle => 0
  | .homing _ => 1
  | .moving _ => 2
  | .error _ => 3

/-- "The phase counted within its state's list" (R139); 15 stands for absent in four bits. -/
def AxisMode.phaseCode : AxisMode → Nat
  | .homing .turn => 0
  | .homing .probe => 1
  | .homing .search => 2
  | .moving .turn => 0
  | .moving .down => 1
  | .moving .up => 2
  | .idle => 15
  | .error _ => 15

/-- Axis error causes in the order of R139. -/
def AxisError.code : AxisError → Nat
  | .homeFail => 0
  | .noAck => 1
  | .verify => 2
  | .link => 3

/-- The error cause of an axis, present in ERROR alone (R139). -/
def AxisMode.errorCause : AxisMode → Option AxisError
  | .error c => some c
  | .idle => none
  | .homing _ => none
  | .moving _ => none

/-- LENS_DONE outcomes "follow R160". -/
def LensOutcome.code : LensOutcome → Nat
  | .done => 0
  | .halted => 1
  | .homeFail => 2
  | .noAck => 3
  | .verify => 4
  | .link => 5

/-- Sweep phases in the order of R166. -/
def SweepPhase.code : SweepPhase → Nat
  | .move => 0
  | .wait => 1
  | .return => 2
  | .best => 3

/-- Sweep outcomes "follow R166". -/
def SweepOutcome.code : SweepOutcome → Nat
  | .done => 0
  | .stalled => 1
  | .halted => 2
  | .locate => 3
  | .noAck => 4
  | .verify => 5
  | .link => 6

/-- LOCATE_DONE outcomes "follow R184". -/
def LocateOutcome.code : LocateOutcome → Nat
  | .done => 0
  | .noLaunch => 1
  | .bundleBusy => 2
  | .noLine => 3
  | .halted => 4

/-- Reflection kinds follow "the list of R194". -/
def ReflectionKind.code : ReflectionKind → Nat
  | .open => 0
  | .short => 1
  | .stepUp => 2
  | .stepDown => 3
  | .near => 4
  | .none => 5

/-- A site's kind as a reflection kind. -/
def SiteKind.toReflection : SiteKind → ReflectionKind
  | .open => .open
  | .short => .short
  | .stepUp => .stepUp
  | .stepDown => .stepDown

/-- The polarity of a site's kind: true for −, the negative one (11 R195). -/
def SiteKind.negative : SiteKind → Bool
  | .open | .stepUp => false
  | .short | .stepDown => true

/-- The answer codes' values (12 R203). -/
def AnswerCode.code : AnswerCode → Nat
  | .accepted => 0
  | .done => 1
  | .clamped => 2
  | .refusedRank => 3
  | .refusedState => 4
  | .busy => 5
  | .notHomed => 6
  | .full => 7
  | .empty => 8
  | .alreadyQueued => 9
  | .queueFull => 10
  | .unknown => 11

/-- Part statuses "count from COMPLETE in the order of R106". -/
def ClosedStatus.code : ClosedStatus → Nat
  | .complete => 0
  | .timeout => 1
  | .linkLost => 2
  | .powerLost => 3
  | .asleep => 4
  | .notReady => 5
  | .locating => 6

/-- Pause states in the order of 07 R126. -/
def Pause.code : Pause → Nat
  | .none => 0
  | .empty => 1
  | .headOpen => 2
  | .ring => 3
  | .link => 4
  | .restart => 5

/-- Loader states in the order of 12 section 12.3. -/
def LoaderState.code : LoaderState → Nat
  | .loading => 0
  | .loaded => 1
  | .defaulted => 2

/-- Phases of the active request in the order of 10 R174. -/
def LocatePhase.code : LocatePhase → Nat
  | .quiesce => 0
  | .bundle => 1
  | .launch => 2
  | .settle => 3
  | .capture => 4

/-- A byte with named bits, and the free bits of its layout where `mask` says that no field stands. -/
def withUnnamed (layout : Nat) (mask named : Byte) : Byte := named ||| (Config.unnamedBits layout &&& mask)

/-- Flags of a byte, bit 0 first. -/
def flagByte (bits : List Bool) : Nat := bits.foldr (fun b n => b.toNat + 2 * n) 0

/-- The value bytes of an ANSWER (12 section 12.6, "Answer values"). -/
def AnswerValue.bytes : AnswerValue → List Byte
  | .noValue => []
  | .dropState st => bytesOf 1 st.code
  | .target t => bytesOf 2 t
  | .count n => bytesOf 1 n
  | .dropStatus st cause last enabled onIntent locateHold locked =>
    bytesOf 1 st.code ++ bytesOf 1 (codeOr255 (cause.map Cause.code)) ++
      bytesOf 1 (codeOr255 (last.map TripCause.code)) ++
      [withUnnamed 1 0xf0 (BitVec.ofNat 8 (flagByte [enabled, onIntent, locateHold, locked]))]
  | .dropCurrent measured allowance => bytesOf 2 measured ++ bytesOf 2 allowance
  | .dropLosses lockLosses dropouts => bytesOf 2 lockLosses ++ bytesOf 2 dropouts
  | .dropTrips series trips => bytesOf 1 series ++ bytesOf 2 trips ++ [withUnnamed 2 0xff 0]
  | .lensAxis mode homed position =>
    [withUnnamed 3 0x08 (BitVec.ofNat 8 (mode.stateCode + 4 * homed.toNat + 16 * mode.phaseCode))] ++
      bytesOf 1 (codeOr255 (mode.errorCause.map AxisError.code)) ++ bytesOf 2 position
  | .lensTargets focus iris depth =>
    bytesOf 2 focus ++
      [withUnnamed 4 0x80 (BitVec.ofNat 8 (iris % 4096 / 256 + 16 * (depth % 8))), BitVec.ofNat 8 iris]
  | .lensCounters a b c d =>
    bytesOf 1 (min 255 a) ++ bytesOf 1 (min 255 b) ++ bytesOf 1 (min 255 c) ++ bytesOf 1 (min 255 d)
  | .sweepRecord phase last points entries passed =>
    bytesOf 1 (128 * phase.isSome.toNat + 16 * (match phase with | some p => p.code | none => 7) +
        (match last with | some o => o.code | none => 15)) ++
      bytesOf 1 points ++ bytesOf 1 entries ++ bytesOf 1 (min 255 passed)
  | .sweepPoint position score => bytesOf 4 (position * 131072 + min 131071 score)
  | .sitePlace slot kind center =>
    [withUnnamed 5 0x08 (BitVec.ofNat 8 (slot + 4 * kind.negative.toNat + 16 * kind.toReflection.code))] ++
      bytesOf 3 center
  | .siteCounts records flashes => bytesOf 2 records ++ bytesOf 2 flashes
  | .siteSequence seq => bytesOf 4 seq.toNat
  | .siteTrigger slot trigger =>
    match trigger with
    | some t => bytesOf 2 t.toNat ++ bytesOf 1 slot ++ bytesOf 1 1
    | none => bytesOf 2 0 ++ bytesOf 1 slot ++ bytesOf 1 0
  | .station value => bytesOf 4 value

/-- The payload bytes of an EVENT; event kinds "follow R48" (12 section 12.6). -/
def Event.bytes : Event → List Byte
  | .dropState d st cause =>
    bytesOf 1 0 ++ bytesOf 1 d.toNat ++ bytesOf 1 st.code ++
      (match cause with | some c => bytesOf 1 c.code | none => [])
  | .lensDone d ax outcome position =>
    bytesOf 1 1 ++ bytesOf 1 d.toNat ++ bytesOf 1 (axisCode ax) ++ bytesOf 1 outcome.code ++ bytesOf 2 position
  | .sweepDone d outcome position score =>
    bytesOf 1 2 ++ bytesOf 1 d.toNat ++ bytesOf 1 outcome.code ++ bytesOf 2 position ++
      (match score with | some v => bytesOf 3 v | none => [])
  | .locateDone d origin crosstalk outcome result =>
    bytesOf 1 3 ++ bytesOf 1 d.toNat ++
      [withUnnamed 6 0xc0 (BitVec.ofNat 8
        (outcome.code + 16 * (decide (origin = .flash)).toNat + 32 * crosstalk.toNat))] ++
      (match result with
        | some r => bytesOf 1 r.kind.code ++ bytesOf 3 r.distance ++ bytesOf 1 r.q
        | none => [])
  | .siteChanged d slot kind count center =>
    bytesOf 1 4 ++ bytesOf 1 (d.toNat * 16 + slot) ++ bytesOf 1 kind.toReflection.code ++ bytesOf 2 count ++
      bytesOf 3 center
  | .slip expected received => bytesOf 1 5 ++ bytesOf 2 expected.toNat ++ bytesOf 2 received.toNat

/-- The payload bytes of a PRESENCE. -/
def presenceBytes (p : PresenceFields) : List Byte :=
  bytesOf 2 p.held.toNat ++
    [withUnnamed 7 0xf0 (BitVec.ofNat 8 (flagByte [p.hold, p.defaulted, p.origin, p.synced]))] ++
    bytesOf 2 p.nextExpected.toNat

/-- The note kinds (02 R47). -/
inductive NoteKind where
  | trigger | claim | release | locateStart | locateEnd | request | answer | cellReset | presence | event
deriving DecidableEq, Repr

/-- The kind value of a note kind (12 section 12.6). -/
def NoteKind.value : NoteKind → Nat
  | .trigger => 1
  | .claim => 2
  | .release => 3
  | .locateStart => 4
  | .locateEnd => 5
  | .request => 8
  | .answer => 9
  | .cellReset => 10
  | .presence => 16
  | .event => 17

/-- The note kind a kind value names. -/
def NoteKind.ofValue? (v : Nat) : Option NoteKind :=
  [NoteKind.trigger, .claim, .release, .locateStart, .locateEnd, .request, .answer, .cellReset, .presence,
    .event].find? fun k => k.value == v

/-- The class of a note kind (02 R47). -/
def NoteKind.cls : NoteKind → Nat
  | .trigger => 0
  | .claim | .release | .locateStart | .locateEnd => 1
  | .request | .answer | .cellReset => 2
  | .presence | .event => 3

/-- The payload lengths a kind allows (02 R47). -/
def NoteKind.allows (k : NoteKind) (len : Nat) : Bool :=
  match k with
  | .trigger => decide (len = 3)
  | .claim | .release => decide (len = 5)
  | .locateStart | .locateEnd => decide (len = 2)
  | .request => decide (3 ≤ len ∧ len ≤ 8)
  | .answer => decide (4 ≤ len ∧ len ≤ 8)
  | .cellReset => decide (len = 1)
  | .presence => decide (len = 5)
  | .event => decide (2 ≤ len ∧ len ≤ 8)

/-- The kind of a note a hub sends. -/
def NoteBody.kind : NoteBody → NoteKind
  | .trigger _ _ => .trigger
  | .claim _ _ _ => .claim
  | .release _ _ _ => .release
  | .locateStart _ _ => .locateStart
  | .locateEnd _ _ => .locateEnd
  | .answer _ => .answer
  | .presence _ => .presence
  | .event _ => .event

/-- The class of a note a hub sends, 0 to 3 (02 R47). -/
def NoteBody.cls (b : NoteBody) : Nat := b.kind.cls

/-- A resulting total as carried; the attempt has filled it (02 R42). -/
def filledTotal : Option Nat → Nat
  | some t => t
  | none => 0

/-- The payload bytes of a note (12 section 12.6), as filled at the start of its attempt. -/
def NoteBody.payload : NoteBody → List Byte
  | .trigger number mask =>
    bytesOf 2 (match number with | some n => n.toNat | none => 0) ++ [mask]
  | .claim d amount total => bytesOf 1 d.toNat ++ bytesOf 2 amount ++ bytesOf 2 (filledTotal total)
  | .release d amount total => bytesOf 1 d.toNat ++ bytesOf 2 amount ++ bytesOf 2 (filledTotal total)
  | .locateStart b d => bytesOf 1 b ++ bytesOf 1 d.toNat
  | .locateEnd b d => bytesOf 1 b ++ bytesOf 1 d.toNat
  | .answer a => bytesOf 1 a.target.val ++ [a.kind, a.drop] ++ bytesOf 1 a.code.code ++ a.value.bytes
  | .presence p => match p with | some f => presenceBytes f | none => []
  | .event e => e.bytes

end Sys2Proof.Machine
end

