-- ==== Sys2Proof/Machine/Frame.lean ====
section
/-! DEFINITION. The frame of a note on the cell line, bit by bit: fields, CRC, inserted bits and end field as sent
(02 R31, R32), the abort run (02 R38), and the checks a receiver makes on the bits it reads (02 R34).
A bit is `true` when recessive (1) and `false` when dominant (0). -/

namespace Sys2Proof.Machine

/-- The `n` bits of a number, most significant first (02 R32). -/
def bitsOf : Nat → Nat → List Bool
  | 0, _ => []
  | n + 1, v => v.testBit n :: bitsOf n v

/-- The number that bits spell, most significant first. -/
def natOfBits (bs : List Bool) : Nat := bs.foldl (fun n b => 2 * n + b.toNat) 0

/-- The bits of bytes, in order. -/
def bitsOfBytes (bs : List Byte) : List Bool := bs.flatMap fun b => bitsOf 8 b.toNat

/-- The bytes that bits spell, eight to a byte, for a number of bytes. -/
def bytesOfBits : Nat → List Bool → List Byte
  | 0, _ => []
  | n + 1, bs => BitVec.ofNat 8 (natOfBits (bs.take 8)) :: bytesOfBits n (bs.drop 8)

/-- One bit into the CRC register: the generator x^16 + x^12 + x^5 + 1 (02 R32). -/
def crcStep (reg : BitVec 16) (b : Bool) : BitVec 16 :=
  if (reg.getLsbD 15) ^^ b then (reg <<< 1) ^^^ 0x1021 else reg <<< 1

/-- The CRC over bits: "preset to all ones, and no final inversion" (02 R32). -/
def crc (bits : List Bool) : BitVec 16 := bits.foldl crcStep 0xffff

/-- What a frame carries: the class and station of its arbitration field, its kind value and its payload (02 R32). -/
structure FrameFields where
  cls : Nat
  station : Nat
  kind : Nat
  payload : List Byte
deriving DecidableEq, Repr

/-- The bits the CRC is computed over: arbitration field, kind, length and payload (02 R32). -/
def FrameFields.checkedBits (f : FrameFields) : List Bool :=
  bitsOf 2 f.cls ++ bitsOf 4 f.station ++ bitsOf 5 f.kind ++ bitsOf 4 f.payload.length ++ bitsOfBytes f.payload

/-- The bits from the start bit to the last CRC bit, before insertion. -/
def FrameFields.bodyBits (f : FrameFields) : List Bool :=
  false :: (f.checkedBits ++ bitsOf 16 (crc f.checkedBits).toNat)

/-- Insertion "after every five consecutive bits of one level": `level` is the level of the last bit sent and `run`
how many of it stand in a row. An inserted bit "counts as the first bit of the next run of five" (02 R31). Nothing
is inserted after the last bit (log 14). -/
def insertBits (level : Bool) (run : Nat) : List Bool → List Bool
  | [] => []
  | b :: bs =>
    if run = 5 then (!level) :: b :: insertBits b (if b = (!level) then 2 else 1) bs
    else b :: insertBits b (if b = level then run + 1 else 1) bs

/-- The end field: 8 recessive bits, sent without insertion (02 R31, R32). -/
def endFieldBits : List Bool := List.replicate 8 true

/-- The bits of a whole note on the line, from the start bit to the last end-field bit. -/
def FrameFields.lineBits (f : FrameFields) : List Bool := insertBits true 0 f.bodyBits ++ endFieldBits

/-- The abort run of 10 dominant bit times (02 R38). -/
def abortRun : List Bool := List.replicate 10 false

/-- The frame of a hub's own note. -/
def frameOf (station : Nat) (b : NoteBody) : FrameFields :=
  { cls := b.cls, station := station, kind := b.kind.value, payload := b.payload }

/-- A receiver's reading of the next `n` bits of a note with the inserted bits removed: the bits, the level and run
reached, and the bits that follow; or the run of six that it meets. A line that ends reads recessive. -/
def removeInserted : Nat → Bool → Nat → List Bool → Except ReceiveFailure (List Bool × Bool × Nat × List Bool)
  | 0, level, run, rest => .ok ([], level, run, rest)
  | _ + 1, _, _, [] => .error .recessiveRun
  | n + 1, level, run, b :: rest =>
    if run = 5 then
      if b = level then .error (if level then .recessiveRun else .dominantRun)
      else
        match rest with
        | [] => .error .recessiveRun
        | c :: rest' =>
          match removeInserted n c (if c = b then 2 else 1) rest' with
          | .ok (bits, l, r, tail) => .ok (c :: bits, l, r, tail)
          | .error e => .error e
    else
      match removeInserted n b (if b = level then run + 1 else 1) rest with
      | .ok (bits, l, r, tail) => .ok (b :: bits, l, r, tail)
      | .error e => .error e

/-- The checks of 02 R34 that follow the removal of inserted bits, in R34's order. -/
def checkFrame (header body rest : List Bool) : Except ReceiveFailure FrameFields :=
  let cls := natOfBits ((header.drop 1).take 2)
  let station := natOfBits ((header.drop 3).take 4)
  let kind := natOfBits ((header.drop 7).take 5)
  let len := natOfBits ((header.drop 12).take 4)
  if bitsOf 16 (crc (header.drop 1 ++ body.take (8 * len))).toNat ≠ body.drop (8 * len) then .error .crc
  else
    match NoteKind.ofValue? kind with
    | none => .error .unknownKind
    | some k =>
      if !k.allows len then .error .lengthNotAllowed
      else if station = 15 then .error .stationFifteen
      else if rest.take 8 ≠ endFieldBits then .error .endField
      else .ok { cls := cls, station := station, kind := kind, payload := bytesOfBits len body }

/-- What a receiver makes of the bits of a note, from its start bit on: the accepted note, or the check it fails
first (02 R34). A length above 8 is the failed check even where later bits would show six equal ones: the receiver looks
at no bit after that length (DESIGN CHOICE, log 39). -/
def receiveFrame (bits : List Bool) : Except ReceiveFailure FrameFields :=
  match removeInserted 16 true 0 bits with
  | .error e => .error e
  | .ok (header, level, run, rest) =>
    let len := natOfBits ((header.drop 12).take 4)
    if 8 < len then .error .lengthAboveEight
    else
      match removeInserted (8 * len + 16) level run rest with
      | .error e => .error e
      | .ok (body, _, _, tail) => checkFrame header body tail

end Sys2Proof.Machine
end

