-- ==== Sys2Proof/Machine/ResetValues.lean ====
section
/-! DEFINITION. The value of each record after a reset, as the table of its rule gives it. -/

namespace Sys2Proof.Machine

/-- 01 R1. The measured current "follows the drop current": 0 is log 4's. -/
def resetDrop : DropRec :=
  { state := .off, onIntent := false, locateHold := false, tripSeries := 0, cause := none, lastTripCause := none,
    measured := 0, tripCount := 0, lockLossCount := 0, dropoutCount := 0, rampWindow := .stopped,
    warmTimer := .stopped, relockWindow := .stopped, backoffTimer := .stopped, stableTimer := .stopped,
    napTimer := .stopped, steadyTrip := .stopped }

/-- 01 R14, R15. -/
def resetLink : LinkPort :=
  { locked := false, beatRun := 0, silence := .stopped, sending := none, waiting := [] }

/-- 02 R52. -/
def resetLineCounters : LineCounters :=
  { notesSent := 0, notesHeard := 0, arbitrationLosses := 0, sendErrors := 0, notesDropped := 0,
    receiveErrors := 0, formatErrors := 0, abortsHeard := 0, classThreeRefusals := 0, answerRefusals := 0,
    duplicateSuspected := 0 }

/-- 02 R40, R45, R49, R53: the queue is empty and the start-up wait begins. -/
def resetCli (now : Nat) : Cli :=
  { queue := [], drive := [], waitGaps := 1, startWait := .running now Config.startWaitUs,
    presenceTimer := .stopped, counters := resetLineCounters }

/-- An absent view entry (02 R51). -/
def absentView : ViewEntry := { age := .stopped, held := 0, hold := false }

/-- 03 R54, R59, R70. -/
def resetBudget : Budget :=
  { ownHeld := 0, claims := [], claimsGranted := 0, claimsVoid := 0, unusedGrants := 0, claimsDropped := 0 }

/-- 04 R71. -/
def resetTrigger : TriggerUnit :=
  { expected := 0, synced := false, pendingMask := none, inputLevel := .low, qualifyTimer := .stopped,
    edgeCount := 0, withheldCount := 0, slipCount := 0, triggerCount := 0 }

/-- 05 R85: the pages 0 to 4095 in increasing order, all free. -/
def resetFrameMemory : FrameMemory :=
  { freeList := List.range' 0 Config.pageCount, freeCount := Config.pageCount, hold := false,
    lowWater := Config.pageCount, takeFailures := 0, mem := [] }

/-- 05 R93, R103. -/
def resetReceiver : Receiver :=
  { mode := .idle, last := false, arrived := 0, bound := 0, badMarkers := 0, stray := 0, late := 0, runts := 0,
    lengthErrors := 0, sequenceErrors := 0, overlong := 0, lostWords := 0 }

/-- 06 R104. -/
def resetShots : Shots :=
  { table := [], skipped := 0, lastRelayed := PerDrop.const none, opened := 0, shotsSkipped := 0, duplicates := 0,
    breaksAttached := 0, breaksUnattached := 0 }

/-- 07 R126. The link status follows the link. -/
def resetUplink (linkUp : Bool) : Uplink :=
  { place := 0, mark := 0, record := none, restartOwed := true, pause := .restart, linkUp := linkUp,
    recordsSent := 0, fillWords := 0, overlongParts := 0, ringPauses := 0, linkLosses := 0, badMarks := 0,
    lastWord := none }

/-- 08 R139. -/
def resetAxis : AxisRec :=
  { mode := .idle, position := 0, target := 0, legGoal := none, homed := false, verify := false, searchCount := 0,
    haltOwed := false }

/-- 09 R166. -/
def resetSweep : Sweep :=
  { phase := none, start := 0, stride := 1, pointCount := 1, pointIndex := 0, preSweep := 0, pointTimer := .stopped,
    passed := 0, lastOutcome := none, table := [], endOwed := none }

/-- 08 R139, R142, R157, R161. -/
def resetLens : Lens :=
  { focus := resetAxis, iris := resetAxis, slot := none, ackTimer := .stopped, lastBurst := none, burstSerial := 0,
    stack := [], burstsSent := 0, acks := 0, ackTimeouts := 0, strayAcks := 0, homings := 0, homeFailures := 0,
    moves := 0, verifyFailures := 0, sweep := resetSweep }

/-- 10 R174, R187. -/
def resetLocator : Locator :=
  { flashes := [], requests := [], active := none, capture := none, settle := .stopped,
    holders := List.replicate 15 none, requestsTaken := 0, flashesRun := 0, flashesStale := 0, flashesIgnored := 0,
    bundleDeferrals := 0, bundleFailures := 0, noLaunch := 0, analysed := 0, halts := 0 }

/-- 11 R194, R195, after the power-on or pin reset. -/
def resetSites : SiteTable := { slots := List.replicate 4 none, evictions := 0, nextSeq := 0 }

/-- 02 R43: with an odd number of ones on the five pins, the value of the strap pins; otherwise 15. -/
def latchStation (p : Pins) : Nat :=
  let ones := (p.straps.getLsbD 0).toNat + (p.straps.getLsbD 1).toNat + (p.straps.getLsbD 2).toNat
    + (p.straps.getLsbD 3).toNat + p.parity.toNat
  if ones % 2 = 1 then p.straps.toNat else 15

end Sys2Proof.Machine
end

