-- ==== Sys2Proof/Machine/State.lean ====
section
/-! DEFINITION. The state of the hub, block by block, the reasons a step can stop, and the state after reset. -/

namespace Sys2Proof.Machine

/-- Everything the hub holds. `now`, `draws` and `pending` are the model's own (log 2, 3). -/
structure State where
  /-- Time in microseconds; a step on an empty queue lets one pass (log 2). -/
  now : Nat
  /-- Free values drawn so far (log 3). -/
  draws : Nat
  /-- The pins as last read (02 R43). -/
  pins : Pins
  /-- The latched station number, 0 to 15 (02 R43). -/
  station : Nat
  /-- 12 section 12.3. -/
  loader : LoaderState
  /-- 12 section 12.3. -/
  clampedFields : Nat
  /-- 12 R208. -/
  resetsRefused : Nat
  /-- Absent until loading ends (12 R207). -/
  cfg : Option Configuration
  /-- The drop records (01 R1). -/
  drops : PerDrop DropRec
  /-- The Link Ports (01 R14). -/
  links : PerDrop LinkPort
  /-- The Cell Line Interface (02). -/
  cli : Cli
  /-- The view table, stations 0 to 14 in order (02 R51). -/
  view : List ViewEntry
  /-- The Budget Unit (03). -/
  budget : Budget
  /-- The Trigger Unit (04). -/
  trig : TriggerUnit
  /-- The Frame Memory Manager and the frame memory (05). -/
  fmm : FrameMemory
  /-- The receive contexts (05 R93). -/
  rx : PerDrop Receiver
  /-- The Shot Builder (06). -/
  shots : Shots
  /-- The Uplink Sender (07). -/
  uplink : Uplink
  /-- The Lens Controllers (08, 09). -/
  lens : PerDrop Lens
  /-- The Line Locator (10). -/
  locator : Locator
  /-- The site tables (11). -/
  sites : PerDrop SiteTable
  /-- The commands that wait, the next one first. -/
  pending : List Instr
deriving DecidableEq, Repr

/-- Why a step stops with a fault. -/
inductive Fault where
  /-- A word of the frame memory outside its 4096 pages of 16384 words is read or written (raised by DATA_WORD and
  UPLINK_WORD_SENT). Safe: only a state raises it in which a part has words without their pages, or a page number
  is above 4095. -/
  | noSuchFrameAddress (page offset : Nat)
deriving DecidableEq, Repr

/-- Why a command is refused. -/
inductive Refusal where
  /-- The command has no meaning in the model. Safe; no arm raises it. -/
  | notModelled (mnemonic : String)
deriving DecidableEq, Repr

/-- The pins of `State.reset`: straps 0000 with the parity pin set, station 0 (log 1). -/
def resetPins : Pins := { straps := 0, parity := true }

/-- The hub right after the power-on or pin reset, with an empty queue. -/
def State.reset : State :=
  { now := 0
    draws := 0
    pins := resetPins
    station := latchStation resetPins
    loader := .loading
    clampedFields := 0
    resetsRefused := 0
    cfg := none
    drops := PerDrop.const resetDrop
    links := PerDrop.const resetLink
    cli := resetCli 0
    view := List.replicate 15 absentView
    budget := resetBudget
    trig := resetTrigger
    fmm := resetFrameMemory
    rx := PerDrop.const resetReceiver
    shots := resetShots
    uplink := resetUplink true
    lens := PerDrop.const resetLens
    locator := resetLocator
    sites := PerDrop.const resetSites
    pending := [] }

end Sys2Proof.Machine
end

