-- ==== Sys2Proof/Machine/Ops.lean ====
section
/-! DEFINITION. The named operations over the state that the commands share: access to the blocks, the transmit
queue, the frame memory and its hold flag. -/

namespace Sys2Proof.Machine

/-! ## Access to the blocks -/

/-- Change one drop record. -/
def State.modDrop (s : State) (d : Drop) (f : DropRec → DropRec) : State :=
  { s with drops := s.drops.set d (f (s.drops.get d)) }

/-- Change one Link Port. -/
def State.modLink (s : State) (d : Drop) (f : LinkPort → LinkPort) : State :=
  { s with links := s.links.set d (f (s.links.get d)) }

/-- Change one receive context. -/
def State.modRx (s : State) (d : Drop) (f : Receiver → Receiver) : State :=
  { s with rx := s.rx.set d (f (s.rx.get d)) }

/-- Change one Lens Controller. -/
def State.modLens (s : State) (d : Drop) (f : Lens → Lens) : State :=
  { s with lens := s.lens.set d (f (s.lens.get d)) }

/-- Change one site table. -/
def State.modSites (s : State) (d : Drop) (f : SiteTable → SiteTable) : State :=
  { s with sites := s.sites.set d (f (s.sites.get d)) }

/-- Change the Cell Line Interface. -/
def State.modCli (s : State) (f : Cli → Cli) : State := { s with cli := f s.cli }

/-- Change the line counters. -/
def State.modCounters (s : State) (f : LineCounters → LineCounters) : State :=
  { s with cli := { s.cli with counters := f s.cli.counters } }

/-- Change the Budget Unit. -/
def State.modBudget (s : State) (f : Budget → Budget) : State := { s with budget := f s.budget }

/-- Change the Trigger Unit. -/
def State.modTrig (s : State) (f : TriggerUnit → TriggerUnit) : State := { s with trig := f s.trig }

/-- Change the Frame Memory Manager. -/
def State.modFmm (s : State) (f : FrameMemory → FrameMemory) : State := { s with fmm := f s.fmm }

/-- Change the Shot Builder. -/
def State.modShots (s : State) (f : Shots → Shots) : State := { s with shots := f s.shots }

/-- Change the Uplink Sender. -/
def State.modUplink (s : State) (f : Uplink → Uplink) : State := { s with uplink := f s.uplink }

/-- Change the Line Locator. -/
def State.modLocator (s : State) (f : Locator → Locator) : State := { s with locator := f s.locator }

/-- A drop's section of configuration. Until loading ends no field has a value and no drop is enabled (06 R107);
the section after DEFAULTED stands in, in which no drop is enabled either (log 12). -/
def State.dropCfg (s : State) (d : Drop) : DropCfg :=
  match s.cfg with
  | some c => c.drops.get d
  | none => defaultedDrop

/-- The drop is READY. -/
def State.isReady (s : State) (d : Drop) : Bool := decide ((s.drops.get d).state = .ready)

/-- A timer started now. -/
def State.timer (s : State) (limitUs : Nat) : Timer := .running s.now limitUs

/-- A stray station (02 R44). -/
def State.stray (s : State) : Bool := s.station == 15

/-- Whether a set holds a station: bit s for station s (12 section 12.6). -/
def inStationSet (set : Half) (st : Station) : Bool := set.getLsbD st.val

/-- The controller set holds the station; while LOADING the set is every station (12 R202). -/
def State.isController (s : State) (st : Station) : Bool :=
  match s.cfg with
  | some c => inStationSet c.station.controllerSet st
  | none => true

/-- The service set holds the station; while LOADING the set is every station (12 R202). -/
def State.isService (s : State) (st : Station) : Bool :=
  match s.cfg with
  | some c => inStationSet c.station.serviceSet st
  | none => true

/-! ## Lists -/

/-- Change the first element that a test picks. -/
def modifyFirst {α : Type} (p : α → Bool) (f : α → α) : List α → List α
  | [] => []
  | a :: l => if p a then f a :: l else a :: modifyFirst p f l

/-- Remove the last element that a test picks. -/
def eraseLast {α : Type} (p : α → Bool) (l : List α) : List α := (l.reverse.eraseP p).reverse

/-! ## The transmit queue (02 R40 to R42) -/

/-- A note of a class that is not on the line. -/
def QNote.waits (n : QNote) (cls : Nat) : Bool := (n.body.cls == cls) && !n.onLine

/-- A note joins at the tail. -/
def Cli.join (c : Cli) (b : NoteBody) : Cli := { c with queue := c.queue ++ [⟨b, [], false⟩] }

/-- One class-3 refusal counted (02 R41). -/
def Cli.refuseClassThree (c : Cli) : Cli :=
  { c with counters := { c.counters with classThreeRefusals := bump c.counters.classThreeRefusals } }

/-- One answer refusal counted (02 R41). -/
def Cli.refuseAnswer (c : Cli) : Cli :=
  { c with counters := { c.counters with answerRefusals := bump c.counters.answerRefusals } }

/-- Room for a note of class 0 or 1 in a full queue: the most recently joined class-3 note not on the line leaves,
or if there is none the most recently joined class-2 note not on the line (02 R41). -/
def Cli.makeRoom (c : Cli) : Cli :=
  if c.queue.any (·.waits 3) then { c.refuseClassThree with queue := eraseLast (·.waits 3) c.queue }
  else if c.queue.any (·.waits 2) then { c.refuseAnswer with queue := eraseLast (·.waits 2) c.queue }
  else c

/-- A note that would join the queue is taken or refused by its class and by what the queue holds (02 R41). -/
def Cli.enqueue (c : Cli) (b : NoteBody) : Cli :=
  if b.cls = 3 then
    if c.queue.length < Config.classThreeLimit then c.join b else c.refuseClassThree
  else if b.cls = 2 then
    if c.queue.length < Config.queueSize then c.join b else c.refuseAnswer
  else
    if c.queue.length < Config.queueSize then c.join b else c.makeRoom.join b

/-- A block queues a note. A stray station discards it at once, uncounted (02 R44). -/
def State.queueNote (s : State) (b : NoteBody) : State :=
  if s.stray then s else s.modCli (·.enqueue b)

/-- A block queues an EVENT (12 R204). -/
def State.queueEvent (s : State) (e : Event) : State := s.queueNote (.event e)

/-- The note on the line. -/
def State.onLine (s : State) : Option QNote := s.cli.queue.find? (·.onLine)

/-- The note on the line leaves the queue, and nothing is driven any more. -/
def Cli.endOnLine (c : Cli) : Cli := { c with queue := c.queue.eraseP (·.onLine), drive := [] }

/-- The note on the line stays in its place and is on the line no more. -/
def Cli.keepOnLine (c : Cli) : Cli :=
  { c with queue := modifyFirst (·.onLine) (fun n => { n with onLine := false }) c.queue }

/-- A block withdraws a note it queued, while it is not on the line; it is not counted (02 R42). -/
def State.withdraw (s : State) (p : NoteBody → Bool) : State :=
  s.modCli fun c => { c with queue := c.queue.eraseP fun n => p n.body && !n.onLine }

/-- An own echo completes: the note leaves the queue and is counted sent (02 R35). -/
def State.echoed (s : State) : State :=
  (s.modCli Cli.endOnLine).modCounters fun c => { c with notesSent := bumpLong c.notesSent }

/-- A note of another station is accepted (02 R34). -/
def State.countHeard (s : State) : State :=
  s.modCounters fun c => { c with notesHeard := bumpLong c.notesHeard }

/-- A note with the own number is heard: accepted, counted as a duplicate suspected, and discarded (02 R37, log 16). -/
def State.ownNumber (s : State) : State :=
  s.countHeard.modCounters fun c => { c with duplicateSuspected := bump c.duplicateSuspected }

/-- The receipt of an accepted note from a station: counted, and delivered unless it carries the own number
(02 R34, R36, R37). -/
def State.hear (s : State) (src : Station) (deliver : State → State) : State :=
  if src.val = s.station then s.ownNumber else deliver s.countHeard

/-! ## PRESENCE (02 R49) -/

/-- Whether a note is a PRESENCE. -/
def NoteBody.isPresence : NoteBody → Bool
  | .presence _ => true
  | _ => false

/-- A PRESENCE is queued unless one is already in the queue. -/
def State.queuePresence (s : State) : State :=
  if s.cli.queue.any (·.body.isPresence) then s else s.queueNote (.presence none)

/-- The presence timer starts, at a station that is not stray. -/
def State.startPresenceTimer (s : State) : State :=
  if s.stray then s else s.modCli fun c => { c with presenceTimer := s.timer Config.presenceUs }

/-- A PRESENCE is queued and the timer starts again: at the end of loading, at an expiry and at a change of the hold
flag (02 R49). -/
def State.announce (s : State) : State := s.queuePresence.startPresenceTimer

/-- Whether configuration makes this hub a trigger origin; no at a stray station (04 R72). -/
def State.isOrigin (s : State) : Bool :=
  match s.cfg with
  | some c => c.station.origin && !s.stray
  | none => false

/-- The fields of a PRESENCE as they stand (02 R49). -/
def State.presenceFields (s : State) : PresenceFields :=
  { held := BitVec.ofNat 16 s.budget.ownHeld
    hold := s.fmm.hold
    defaulted := decide (s.loader = .defaulted)
    origin := s.isOrigin
    synced := s.trig.synced
    nextExpected := if s.trig.synced then s.trig.expected else 0 }

/-- The fields filled at the start of an attempt (02 R42). -/
def State.fillNote (s : State) : NoteBody → NoteBody
  | .trigger _ mask => .trigger (some s.trig.expected) mask
  | .claim d amount _ => .claim d amount (some (s.budget.ownHeld + amount))
  | .release d amount _ => .release d amount (some s.budget.ownHeld)
  | .presence _ => .presence (some s.presenceFields)
  | .locateStart b d => .locateStart b d
  | .locateEnd b d => .locateEnd b d
  | .answer a => .answer a
  | .event e => .event e

/-! ## The view table (02 R51) -/

/-- The view entry of a station. -/
def State.viewEntry (s : State) (st : Station) : ViewEntry := s.view.getD st.val absentView

/-- Change the view entry of a station. -/
def State.setView (s : State) (st : Station) (e : ViewEntry) : State := { s with view := s.view.set st.val e }

/-- An accepted CLAIM, RELEASE or PRESENCE refreshes the sender's entry, and its held value is set; above 5000 it is
held as 5000 (02 R51, 03 R56). -/
def State.refreshView (s : State) (st : Station) (held : Nat) : State :=
  s.setView st
    { s.viewEntry st with age := s.timer Config.viewAgeUs, held := min Config.heldMaxMa held }

/-! ## The frame memory (00 "Blocks", 05 section 5.1) -/

/-- One byte of the frame memory; an unlisted address reads 0 (log 8). -/
def readByte : Memory → Nat → Byte
  | [], _ => 0
  | (k, b) :: rest, a => if k = a then b else readByte rest a

/-- One byte written, in the canonical form: rising addresses, no byte 0 listed. -/
def writeByte (a : Nat) (b : Byte) : Memory → Memory
  | [] => if b = 0 then [] else [(a, b)]
  | (k, v) :: rest =>
    if a < k then (if b = 0 then (k, v) :: rest else (a, b) :: (k, v) :: rest)
    else if a = k then (if b = 0 then rest else (a, b) :: rest)
    else (k, v) :: writeByte a b rest

/-- The canonical form: addresses strictly rising, and no entry equal to what an unlisted address reads as. -/
def Memory.wf : Memory → Bool
  | [] => true
  | (a, b) :: rest =>
    (b != 0) && (match rest with | [] => true | (k, _) :: _ => decide (a < k)) && Memory.wf rest

/-- The address of byte 0 of a word: a page is 65536 bytes, a word four. -/
def wordAddress (page offset : Nat) : Nat := page * 65536 + offset * 4

/-- The words that exist: 4096 pages of 16384 words. -/
def frameAddressExists (page offset : Nat) : Bool :=
  decide (page < Config.pageCount ∧ offset < Config.pageWords)

/-- A word of the frame memory, byte 0 at the lowest address. -/
def readWord (m : Memory) (page offset : Nat) : Word :=
  let a := wordAddress page offset
  readByte m (a + 3) ++ readByte m (a + 2) ++ readByte m (a + 1) ++ readByte m a

/-- A word written to the frame memory, byte 0 at the lowest address. -/
def writeWord (page offset : Nat) (w : Word) (m : Memory) : Memory :=
  let a := wordAddress page offset
  writeByte (a + 3) (w.extractLsb' 24 8)
    (writeByte (a + 2) (w.extractLsb' 16 8)
      (writeByte (a + 1) (w.extractLsb' 8 8) (writeByte a (w.extractLsb' 0 8) m)))

/-! ## The hold flag (05 R89, R90) -/

/-- A change of the hold flag: a PRESENCE is queued at once and the presence timer starts again (05 R90). -/
def State.changeHold (s : State) (v : Bool) : State := (s.modFmm fun f => { f with hold := v }).announce

/-- The hold flag evaluated with the free count as it stands (05 R89). Until the loader ends the thresholds have no
value and the flag stays clear (05 R88). -/
def State.evalHold (s : State) : State :=
  match s.cfg with
  | none => s
  | some c =>
    if !s.fmm.hold && decide (s.fmm.freeCount < c.station.holdThreshold) then s.changeHold true
    else if s.fmm.hold && decide (c.station.releaseThreshold ≤ s.fmm.freeCount) then s.changeHold false
    else s

/-- A page is taken from the head of the free list, or the take fails (05 R86). -/
def State.takePage (s : State) : Option Nat × State :=
  match s.fmm.freeList with
  | p :: rest =>
    (some p, State.evalHold (s.modFmm fun f =>
      { f with freeList := rest, freeCount := f.freeCount - 1, lowWater := min f.lowWater (f.freeCount - 1) }))
  | [] => (none, State.evalHold (s.modFmm fun f => { f with takeFailures := bump f.takeFailures }))

/-- A page joins the tail of the free list (05 R87). -/
def State.returnPage (s : State) (p : Nat) : State :=
  State.evalHold (s.modFmm fun f => { f with freeList := f.freeList ++ [p], freeCount := f.freeCount + 1 })

/-- Pages returned in order. -/
def State.returnPages (s : State) (ps : List Nat) : State := ps.foldl State.returnPage s

end Sys2Proof.Machine
end

