-- ==== Sys2Proof/Machine/BudgetOps.lean ====
section
/-! DEFINITION. The operations of the Budget Unit: the claim test, the claim queue, claims and releases (03). -/

namespace Sys2Proof.Machine

/-- Whether a note is a CLAIM. -/
def NoteBody.isClaim : NoteBody → Bool
  | .claim _ _ _ => true
  | _ => false

/-- Whether a note is a RELEASE for a drop. -/
def NoteBody.isReleaseOf (d : Drop) : NoteBody → Bool
  | .release e _ _ => decide (e = d)
  | _ => false

/-- A CLAIM is outstanding from its joining the transmit queue to its echo or its drop (03 R60). -/
def State.claimOutstanding (s : State) : Bool := s.cli.queue.any (·.body.isClaim)

/-- *others*: the held values of every view entry but the claimant's, with this station's own share taken from the
own held total unless it is the claimant (03 R57). -/
def State.othersHeld (s : State) (claimant : Nat) : Nat :=
  ((s.view.eraseIdx claimant).map ViewEntry.held).sum + (if claimant = s.station then 0 else s.budget.ownHeld)

/-- The claim test (03 R57). Until loading has ended no test is made and the claim counts as granted (03 R58). -/
def State.claimGranted (s : State) (claimant amount total : Nat) : Bool :=
  match s.cfg with
  | none => true
  | some c =>
    decide (amount = 0) || decide (s.othersHeld claimant + (total - amount) + amount ≤ c.station.cellBudget)

/-- The first entry of the claim queue that is SENDABLE and whose drop has locate_hold clear (03 R60). -/
def State.nextClaim (s : State) : Option ClaimEntry :=
  s.budget.claims.find? fun e => decide (e.retry = .sendable) && !(s.drops.get e.drop).locateHold

/-- The look for the next claim to send: with no CLAIM outstanding, the next claim's note is queued (03 R60). -/
def State.lookClaims (s : State) : State :=
  if s.claimOutstanding then s
  else
    match s.nextClaim with
    | none => s
    | some e => s.queueNote (.claim e.drop (s.dropCfg e.drop).allowance none)

/-- A drop joins the claim queue at its tail as SENDABLE (03 R59), and the queue is looked through (03 R60). -/
def State.joinClaims (s : State) (d : Drop) : State :=
  (s.modBudget fun b =>
    { b with claims := (b.claims.filter fun e => decide (e.drop ≠ d)) ++ [⟨d, .sendable⟩] }).lookClaims

/-- A drop's entry leaves the claim queue with its retry timer (01 R5, 03 R62). -/
def State.leaveClaims (s : State) (d : Drop) : State :=
  s.modBudget fun b => { b with claims := b.claims.filter fun e => decide (e.drop ≠ d) }

/-- Change the retry state of a drop's entry. -/
def State.setRetry (s : State) (d : Drop) (f : RetryState → RetryState) : State :=
  s.modBudget fun b =>
    { b with claims := b.claims.map fun e => if e.drop = d then { e with retry := f e.retry } else e }

/-- A drop's entry becomes WAITING and its retry timer starts (03 R62, R66). -/
def State.waitRetry (s : State) (d : Drop) : State :=
  s.setRetry d fun _ => .waiting (s.timer Config.retryUs)

/-- A RELEASE is heard or echoed: every WAITING entry becomes SENDABLE, and the queue is looked through (03 R65). -/
def State.releaseHeard (s : State) : State :=
  (s.modBudget fun b => { b with claims := b.claims.map fun e => { e with retry := .sendable } }).lookClaims

/-- A RELEASE note for a drop is queued unless the transmit queue already holds one for it (03 R64). -/
def State.queueRelease (s : State) (d : Drop) : State :=
  if s.cli.queue.any (·.body.isReleaseOf d) then s
  else s.queueNote (.release d (s.dropCfg d).allowance none)

/-- The own held total falls by a drop's allowance at once, and a RELEASE is queued (03 R54, R64). -/
def State.giveUpShare (s : State) (d : Drop) : State :=
  (s.modBudget fun b => { b with ownHeld := b.ownHeld - (s.dropCfg d).allowance }).queueRelease d

end Sys2Proof.Machine
end

