-- ==== Sys2Proof/Machine/LinkOps.lean ====
section
/-! DEFINITION. The operations of the Link Port's back-channel transmitter and lock (01 R14, R15). -/

namespace Sys2Proof.Machine

/-- The marks in the transmitter, the one being sent first. -/
def LinkPort.marks (l : LinkPort) : List HandedMark := l.sending.toList ++ l.waiting

/-- The transmitter with its marks: the first is being sent, the others wait (01 R15). -/
def LinkPort.holding (l : LinkPort) (q : List HandedMark) : LinkPort := { l with sending := q.head?, waiting := q.tail }

/-- A mark joins behind the marks already there, but before those handed at its own moment that R15 puts behind it
(01 R15, log 36). -/
def joinMarks (m : HandedMark) : List HandedMark → List HandedMark
  | [] => [m]
  | x :: rest => if x.moment = m.moment ∧ m.mark.rank < x.mark.rank then m :: x :: rest else x :: joinMarks m rest

/-- A mark is handed to the transmitter at a moment (01 R15). -/
def LinkPort.hand (l : LinkPort) (now : Nat) (m : Mark) : LinkPort := l.holding (joinMarks ⟨m, now⟩ l.marks)

/-- A mark is handed to a drop's transmitter now. -/
def State.handMark (s : State) (d : Drop) (m : Mark) : State := s.modLink d (·.hand s.now m)

/-- The mark being sent ends, and the next waiting one begins (01 R15). -/
def LinkPort.next (l : LinkPort) : LinkPort := l.holding l.waiting

/-- Lock is lost: UNLOCKED with a beat run of 0 (01 R14). -/
def LinkPort.unlock (l : LinkPort) : LinkPort := { l with locked := false, beatRun := 0, silence := .stopped }

/-- The switch opens: waiting marks are discarded, a mark being sent is cut off with the power, and the port is
UNLOCKED (01 R4, R14, R15). -/
def LinkPort.powerOff (l : LinkPort) : LinkPort := { l.unlock with sending := none, waiting := [] }

/-- An item of the forward stream is received while LOCKED: the 4 ms without one begin again (01 R14). -/
def State.heardItem (s : State) (d : Drop) : State :=
  s.modLink d fun l => { l with silence := s.timer Config.silenceUs }

end Sys2Proof.Machine
end

