-- ==== Sys2Proof/Machine/LensOps.lean ====
section
/-! DEFINITION. The operations of the Lens Controller: axis records, bursts, moves, homing, halts (08) and the sweep
(09). -/

namespace Sys2Proof.Machine

/-! ## Axis records -/

/-- The axis record of an axis. -/
def Lens.axis (l : Lens) : Axis → AxisRec
  | .focus => l.focus
  | .iris => l.iris

/-- Replace the axis record of an axis. -/
def Lens.setAxis (l : Lens) (ax : Axis) (r : AxisRec) : Lens :=
  match ax with
  | .focus => { l with focus := r }
  | .iris => { l with iris := r }

/-- Change an axis record of a drop. -/
def State.modAxis (s : State) (d : Drop) (ax : Axis) (f : AxisRec → AxisRec) : State :=
  s.modLens d fun l => l.setAxis ax (f (l.axis ax))

/-- The axis record of a drop's axis. -/
def State.axis (s : State) (d : Drop) (ax : Axis) : AxisRec := (s.lens.get d).axis ax

/-- The range of an axis (08 R140). -/
def DropCfg.range (c : DropCfg) : Axis → Nat
  | .focus => c.focusRange
  | .iris => c.irisRange

/-- The backlash of an axis (08 R140). -/
def DropCfg.backlash (c : DropCfg) : Axis → Nat
  | .focus => c.focusBacklash
  | .iris => c.irisBacklash

/-- In HOMING, in any phase. -/
def AxisMode.isHoming : AxisMode → Bool
  | .homing _ => true
  | .idle => false
  | .moving _ => false
  | .error _ => false

/-- In MOVING, in any phase. -/
def AxisMode.isMoving : AxisMode → Bool
  | .moving _ => true
  | .idle => false
  | .homing _ => false
  | .error _ => false

/-- In HOMING or MOVING, in any phase. -/
def AxisMode.busy (m : AxisMode) : Bool := m.isHoming || m.isMoving

/-- The first leg of a move from the position to the target, by the axis backlash (08 R152). -/
def AxisRec.firstLeg (backlash : Nat) (r : AxisRec) : AxisRec :=
  if r.position < r.target then { r with mode := .moving .up, legGoal := some r.target }
  else if backlash < r.target then { r with mode := .moving .down, legGoal := some (r.target - backlash) }
  else { r with mode := .moving .down, legGoal := some 0 }

/-- A move to a target begins with its first leg (08 R151, R152). -/
def AxisRec.startMove (backlash t : Nat) (verify : Bool) (r : AxisRec) : AxisRec :=
  AxisRec.firstLeg backlash { r with target := t, verify := verify }

/-- A move to a target is committed but waits in phase TURN (08 R159). -/
def AxisRec.turnMove (t : Nat) (r : AxisRec) : AxisRec :=
  { r with mode := .moving .turn, target := t, legGoal := none, verify := false }

/-- An axis enters HOMING (08 R147). -/
def AxisRec.startHoming (phase : HomePhase) (r : AxisRec) : AxisRec :=
  { r with
    mode := .homing phase, target := r.position, legGoal := none, homed := false, verify := false,
    searchCount := 0, haltOwed := false }

/-- An axis leaves its operation for IDLE where it stands (08 R150, R154, R156; the halt owed ends with it, log 18). -/
def AxisRec.rest (r : AxisRec) : AxisRec :=
  { r with mode := .idle, target := r.position, legGoal := none, verify := false, haltOwed := false }

/-- An axis leaves its operation for ERROR (08 R144, R145, R150, R154). -/
def AxisRec.fail (cause : AxisError) (r : AxisRec) : AxisRec :=
  { r with mode := .error cause, target := r.position, legGoal := none, homed := false, haltOwed := false }

/-- The home search limit of an axis: its range + 64 steps (08 R149). -/
def homeSearchLimit (range : Nat) : Nat := range + 64

/-! ## Acknowledgements (08 R150, R153, R154) -/

/-- An acknowledgement applied to a HOMING axis (08 R150). -/
def AxisRec.ackHoming (range : Nat) (b : Burst) (a : LensAck) (r : AxisRec) : AxisRec × Option LensOutcome :=
  if a.homeActive then ({ { r with position := 0, homed := true }.rest with homed := true }, some .done)
  else
    let r' := { r with searchCount := satAdd 65535 r.searchCount b.steps, mode := .homing .search }
    if homeSearchLimit range < r'.searchCount then (r'.fail .homeFail, some .homeFail)
    else if r.haltOwed then (r'.rest, some .halted)
    else (r', none)

/-- The position after `n` steps of a burst. -/
def Burst.advance (b : Burst) (n position : Nat) : Nat := if b.up then position + n else position - n

/-- A move in ERROR with cause VERIFY: the verify flag is cleared with the rest (08 R154). -/
def AxisRec.failVerify (r : AxisRec) : AxisRec := { r.fail .verify with verify := false }

/-- An acknowledgement applied to a MOVING axis (08 R153, R154). -/
def AxisRec.ackMoving (b : Burst) (a : LensAck) (r : AxisRec) : AxisRec × Option LensOutcome :=
  if a.stepsDone ≠ b.steps then
    ({ r with position := b.advance (min a.stepsDone b.steps) r.position }.failVerify, some .verify)
  else
    let r' := { r with position := b.advance b.steps r.position }
    if r'.legGoal = some r'.position then
      if r'.position = r'.target then
        if r.verify ∧ a.headCount.toNat ≠ r'.position then (r'.failVerify, some .verify) else (r'.rest, some .done)
      else if r.haltOwed then (r'.rest, some .halted)
      else ({ r' with mode := .moving .up, legGoal := some r'.target }, none)
    else if r.haltOwed then (r'.rest, some .halted)
    else (r', none)

/-- IRIS leaves TURN once FOCUS has left the operation they were asked for together (08 R147, R159). -/
def Lens.releaseTurn (irisBacklash : Nat) (l : Lens) : Lens :=
  match l.iris.mode with
  | .homing .turn => if l.focus.mode.isHoming then l else { l with iris := { l.iris with mode := .homing .probe } }
  | .moving .turn => if l.focus.mode.isMoving then l else { l with iris := l.iris.firstLeg irisBacklash }
  | _ => l

/-- One of the lens counters of 08 R161 for an operation that ends. -/
def Lens.countEnd (l : Lens) (homing : Bool) : LensOutcome → Lens
  | .done => if homing then { l with homings := bump l.homings } else { l with moves := bump l.moves }
  | .homeFail => { l with homeFailures := bump l.homeFailures }
  | .verify => { l with verifyFailures := bump l.verifyFailures }
  | .halted => l
  | .noAck => l
  | .link => l

/-! ## The sweep (09 R166 to R172) -/

/-- A sweep is RUNNING. -/
def Sweep.running (w : Sweep) : Bool := w.phase.isSome

/-- Change the sweep record of a drop. -/
def State.modSweep (s : State) (d : Drop) (f : Sweep → Sweep) : State :=
  s.modLens d fun l => { l with sweep := f l.sweep }

/-- The sweep record of a drop. -/
def State.sweep (s : State) (d : Drop) : Sweep := (s.lens.get d).sweep

/-- A sweep ends with an outcome, and SWEEP_DONE is queued (09 R172). -/
def State.endSweep (s : State) (d : Drop) (o : SweepOutcome) (score : Option Nat) : State :=
  let s' := s.modSweep d fun w =>
    { w with phase := none, pointTimer := .stopped, lastOutcome := some o, endOwed := none }
  s'.queueEvent (.sweepDone d o (s'.axis d .focus).position score)

/-- Of two table entries, the one with the higher score; of equal scores, the lower position (09 R171). -/
def betterPoint (a b : Nat × Nat) : Nat × Nat :=
  if a.2 < b.2 ∨ (b.2 = a.2 ∧ b.1 < a.1) then b else a

/-- The best point of a sweep table (09 R171). -/
def bestPoint : List (Nat × Nat) → Option (Nat × Nat)
  | [] => none
  | p :: ps => some (ps.foldl betterPoint p)

/-- The sweep ends DONE at its best point, with its score (09 R171, R172). -/
def State.endSweepBest (s : State) (d : Drop) : State :=
  s.endSweep d .done ((bestPoint (s.sweep d).table).map Prod.snd)

/-- FOCUS is set going to a position by the sweep: with the backlash approach and verify clear (09 R168). -/
def State.sweepGoto (s : State) (d : Drop) (t : Nat) : State :=
  s.modAxis d .focus (AxisRec.startMove (s.dropCfg d).focusBacklash t false)

/-- The sweep enters WAIT and its point timer starts (09 R168). -/
def State.sweepWait (s : State) (d : Drop) : State :=
  s.modSweep d fun w => { w with phase := some .wait, pointTimer := s.timer Config.pointTimerUs }

/-- The position of a sweep's current point (09 R166). -/
def Sweep.point (w : Sweep) : Nat := w.start + w.pointIndex * w.stride

/-- A point is begun: FOCUS goes to it, or the sweep waits at once (09 R168). -/
def State.beginPoint (s : State) (d : Drop) : State :=
  let t := (s.sweep d).point
  if (s.axis d .focus).position = t then s.sweepWait d
  else (s.modSweep d fun w => { w with phase := some .move }).sweepGoto d t

/-- The sweep has stalled and FOCUS goes back to the pre-sweep position (09 R170). -/
def State.beginReturn (s : State) (d : Drop) : State :=
  let s' := s.modSweep d fun w => { w with phase := some .return, pointTimer := .stopped }
  let t := (s.sweep d).preSweep
  if (s.axis d .focus).position = t then s'.endSweep d .stalled none else s'.sweepGoto d t

/-- The last point is recorded and FOCUS goes to the best one (09 R171). -/
def State.beginBest (s : State) (d : Drop) : State :=
  let s' := s.modSweep d fun w => { w with phase := some .best }
  match bestPoint (s.sweep d).table with
  | none => s'
  | some p => if (s.axis d .focus).position = p.1 then s'.endSweepBest d else s'.sweepGoto d p.1

/-- A move of the sweep ended DONE: what follows by the phase (09 R168, R170, R171). -/
def State.sweepArrived (s : State) (d : Drop) : State :=
  match (s.sweep d).phase with
  | some .move => s.sweepWait d
  | some .return => s.endSweep d .stalled none
  | some .best => s.endSweepBest d
  | some .wait => s
  | none => s

/-- FOCUS left its operation while a sweep runs (09 R168, R170 to R172): an error ends the sweep with its cause; a
halt owed ends it with HALTED or LOCATE even where the move ended DONE. -/
def State.sweepFocusEnded (s : State) (d : Drop) (o : LensOutcome) : State :=
  match o with
  | .noAck => s.endSweep d .noAck none
  | .verify => s.endSweep d .verify none
  | .link => s.endSweep d .link none
  | .homeFail => s
  | .halted =>
    match (s.sweep d).endOwed with
    | some e => s.endSweep d e none
    | none => s.endSweep d .halted none
  | .done =>
    match (s.sweep d).endOwed with
    | some e => s.endSweep d e none
    | none => s.sweepArrived d

/-! ## Ends of operations (08 R160) -/

/-- A LENS_DONE with the position held after the leaving (08 R160). -/
def State.queueLensDone (s : State) (d : Drop) (ax : Axis) (o : LensOutcome) : State :=
  s.queueEvent (.lensDone d ax o (s.axis d ax).position)

/-- IRIS starts if it waited in TURN for FOCUS (08 R147, R159). -/
def State.releaseTurn (s : State) (d : Drop) : State :=
  s.modLens d (Lens.releaseTurn (s.dropCfg d).irisBacklash)

/-- An axis has left HOMING or MOVING with an outcome: LENS_DONE, or for FOCUS in a sweep what the sweep does; then
an axis waiting in TURN starts (08 R144, R160; 09 R172). -/
def State.axisLeft (s : State) (d : Drop) (ax : Axis) (o : LensOutcome) : State :=
  match ax with
  | .iris => s.queueLensDone d .iris o
  | .focus =>
    if (s.sweep d).running then s.sweepFocusEnded d o else (s.queueLensDone d .focus o).releaseTurn d

/-- The axis of the burst in the slot. -/
def Lens.slotAxis (l : Lens) : Option Axis := l.slot.map fun b => b.1.axis

/-- The slot empties and the acknowledgement timer stops. -/
def Lens.emptySlot (l : Lens) : Lens := { l with slot := none, ackTimer := .stopped }

/-- LENS_HALT on one axis in HOMING or MOVING: with its burst in the slot the halt is owed, otherwise it stops at
once and LENS_DONE is queued (08 R156). -/
def State.haltAxis (s : State) (d : Drop) (ax : Axis) : State :=
  if (s.axis d ax).mode.busy then
    if (s.lens.get d).slotAxis = some ax then s.modAxis d ax fun r => { r with haltOwed := true }
    else (s.modAxis d ax AxisRec.rest).queueLensDone d ax .halted
  else s

/-- A running sweep is stopped by LENS_HALT or by the locate hold: with FOCUS's burst in the slot it ends when FOCUS
has stopped, otherwise at once (09 R172). The outcome owed first stands (log 11). -/
def State.stopSweep (s : State) (d : Drop) (o : SweepOutcome) : State :=
  if (s.axis d .focus).mode.busy then
    if (s.lens.get d).slotAxis = some .focus then
      (s.modAxis d .focus fun r => { r with haltOwed := true }).modSweep d fun w =>
        { w with endOwed := match w.endOwed with | some e => some e | none => some o }
    else (s.modAxis d .focus AxisRec.rest).endSweep d o none
  else s.endSweep d o none

/-- One axis of a drop that leaves READY: in HOMING or MOVING it enters ERROR with cause LINK; a LENS_DONE is queued
unless it is FOCUS moved by a sweep (08 R145, R160). -/
def State.linkError (s : State) (d : Drop) (ax : Axis) : State :=
  if (s.axis d ax).mode.busy then
    let s' := s.modAxis d ax (AxisRec.fail .link)
    if ax = .focus ∧ (s.sweep d).running then s' else s'.queueLensDone d ax .link
  else s

/-- The drop leaves READY: axes in operation enter ERROR with cause LINK, FOCUS first, the burst slot empties, and a
running sweep ends LINK (08 R145, 09 R172). -/
def State.lensLeaveReady (s : State) (d : Drop) : State :=
  let s' := ((s.linkError d .focus).linkError d .iris).modLens d Lens.emptySlot
  if (s'.sweep d).running then s'.endSweep d .link none else s'

/-- The homed flag of both axes is cleared at every entry into an unpowered state (01 R4, 08 R139). -/
def State.clearHomed (s : State) (d : Drop) : State :=
  s.modLens d fun l =>
    { l with focus := { l.focus with homed := false }, iris := { l.iris with homed := false } }

/-! ## Bursts (08 R142, R148, R152) -/

/-- The most steps of a burst (08 R141). -/
def burstMax : Nat := 16

/-- The burst an axis needs: in HOMING by R148, in MOVING by R152; none in TURN, with a halt owed, or at rest. -/
def AxisRec.nextBurst (ax : Axis) (r : AxisRec) : Option Burst :=
  if r.haltOwed then none
  else
    let goal := match r.legGoal with | some g => g | none => r.target
    match r.mode with
    | .homing .probe => some { axis := ax, up := false, steps := 1, stopAtHome := true }
    | .homing .search => some { axis := ax, up := false, steps := burstMax, stopAtHome := true }
    | .moving .down => some { axis := ax, up := false, steps := min burstMax (r.position - goal), stopAtHome := false }
    | .moving .up => some { axis := ax, up := true, steps := min burstMax (goal - r.position), stopAtHome := false }
    | .homing .turn => none
    | .moving .turn => none
    | .idle => none
    | .error _ => none

/-- The burst a drop hands over: if both axes need one, the axis that did not have the last burst, FOCUS first
(08 R142). -/
def Lens.chooseBurst (l : Lens) : Option Burst :=
  match l.focus.nextBurst .focus, l.iris.nextBurst .iris with
  | none, none => none
  | some f, none => some f
  | none, some i => some i
  | some f, some i =>
    match l.lastBurst with
    | some (_, .focus) => some i
    | some (_, .iris) => some f
    | none => some f

end Sys2Proof.Machine
end

