-- ==== Sys2Proof/Machine/Operands.lean ====
section
/-! DEFINITION. The operand forms: the arguments of a REQUEST and the fields of the fragment words (12 sections 12.5
and 12.6). -/

namespace Sys2Proof.Machine

/-! ## Request arguments -/

/-- An argument byte; "argument bytes that the note does not carry are taken as 0" (12 R202). -/
def argByte (r : Request) (i : Nat) : Byte := r.args.getD i 0

/-- An argument of one byte, unsigned. -/
def argOne (r : Request) (i : Nat) : Nat := (argByte r i).toNat

/-- An argument of two bytes, most significant byte first, unsigned. -/
def argTwo (r : Request) (i : Nat) : Nat := natOfBytes [argByte r i, argByte r (i + 1)]

/-- An argument of two bytes in two's complement (LENS_NUDGE). -/
def argSigned (r : Request) (i : Nat) : Int := (BitVec.ofNat 16 (argTwo r i)).toInt

/-- An axis argument: 0 FOCUS, 1 IRIS; any other value is no axis (08 R146). -/
def axisOf : Nat → Option Axis
  | 0 => some .focus
  | 1 => some .iris
  | _ => none

/-- The axes LENS_HOME can name: 0 FOCUS, 1 IRIS, 2 both (12 section 12.5). -/
def homeAxesOf : Nat → Option (List Axis)
  | 0 => some [.focus]
  | 1 => some [.iris]
  | 2 => some [.focus, .iris]
  | _ => none

/-- The drop a request's drop field names, if it is 0 to 3. -/
def requestDrop (r : Request) : Option Drop := Drop.ofNat? r.drop.toNat

/-! ## Fragment words -/

/-- The marker byte of a start or an end word: bits 31 to 24. -/
def wordMarker (w : Word) : Byte := w.extractLsb' 24 8

/-- The tag of a start word: bits 23 to 16. -/
def startTag (w : Word) : Byte := w.extractLsb' 16 8

/-- The fragment index of a start word: bits 15 to 1. -/
def startIndex (w : Word) : Nat := (w.extractLsb' 1 15).toNat

/-- LAST of a start word: bit 0. -/
def startLast (w : Word) : Bool := w.getLsbD 0

/-- The payload word count of an end word: bits 23 to 0. -/
def endCount (w : Word) : Nat := (w.extractLsb' 0 24).toNat

/-- The tag of a trigger number: its low 8 bits (06 R113). -/
def triggerTag (t : Half) : Byte := t.extractLsb' 0 8

end Sys2Proof.Machine
end

