-- ==== Sys2Proof/Machine/Flags.lean ====
section
/-! DEFINITION. The flags the commands compute: marker matches, the hold flags an edge sees, the MOVING flag, the
steady trip level. -/

namespace Sys2Proof.Machine

/-- "A marker byte matches when every bit that is set in the mask has the same value in the marker byte as in the
pattern" (05 R94). -/
def markerMatches (pattern mask marker : Byte) : Bool := ((marker ^^^ pattern) &&& mask) == 0

/-- Some hold flag is on: the own one, or that of a present view entry (04 R74, R82). -/
def State.someHold (s : State) : Bool := s.fmm.hold || s.view.any fun e => e.present && e.hold

/-- The MOVING flag of a part: either axis is in a state other than IDLE (06 R114). -/
def Lens.moving (l : Lens) : Bool := decide (l.focus.mode ≠ .idle) || decide (l.iris.mode ≠ .idle)

/-- A snapshot of an axis: its position if it is homed (06 R114). -/
def AxisRec.snapshot (r : AxisRec) : Option Nat := if r.homed then some r.position else none

/-- Either axis is HOMING or MOVING (08 R156). -/
def Lens.busy (l : Lens) : Bool := l.focus.mode.busy || l.iris.mode.busy

/-- The steady trip level: "the allowance plus a quarter of the allowance, the quarter floored" (01 R8). -/
def steadyLevel (allowance : Nat) : Nat := allowance + allowance / 4

end Sys2Proof.Machine
end

