-- ==== Sys2Proof/Machine/Scoring.lean ====
section
/-! DEFINITION. The Focus Scorer: the running sums of a part and its score (09 R163 to R165). -/

namespace Sys2Proof.Machine

/-- A sum record at its starting values (09 R163). -/
def startSums : SumRecord := { g := 0, n := 0, s := 0, m := 0, carry := none }

/-- The square of the difference of two pixel values. -/
def squaredDifference (a b : Nat) : Nat := (max a b - min a b) ^ 2

/-- One pixel of index `i` with the pixel before it, added to the sums (09 R164). -/
def addPixel (c : DropCfg) (i value : Nat) (left : Option Nat) (r : SumRecord) : SumRecord :=
  let row := i / c.frameWidth
  let column := i % c.frameWidth
  let lastColumn := min c.lastColumn (c.frameWidth - 1)
  if c.firstRow ≤ row ∧ row ≤ c.lastRow ∧ c.firstColumn ≤ column ∧ column ≤ lastColumn then
    let counted := { r with s := r.s + value, m := r.m + 1 }
    match left with
    | some l =>
      if c.firstColumn < column then { counted with g := r.g + squaredDifference value l, n := r.n + 1 } else counted
    | none => counted
  else r

/-- The pixels of a word, byte 0 (the least significant) first (09 section 9.1). -/
def pixelOf (w : Word) (j : Nat) : Nat := (w.extractLsb' (8 * j) 8).toNat

/-- A stored word at position `pos` of the part's data, added to the sums; the carry pixel becomes byte 3
(09 R164). -/
def addWord (c : DropCfg) (pos : Nat) (w : Word) (r : SumRecord) : SumRecord :=
  let r0 := addPixel c (4 * pos) (pixelOf w 0) r.carry r
  let r1 := addPixel c (4 * pos + 1) (pixelOf w 1) (some (pixelOf w 0)) r0
  let r2 := addPixel c (4 * pos + 2) (pixelOf w 2) (some (pixelOf w 1)) r1
  let r3 := addPixel c (4 * pos + 3) (pixelOf w 3) (some (pixelOf w 2)) r2
  { r3 with carry := some (pixelOf w 3) }

/-- The score of sums with at least one pair (09 R165). -/
def scoreOf (r : SumRecord) : Nat :=
  let gpp := r.g / r.n
  let mean := max 1 (r.s / r.m)
  let recip := 65536 / mean
  min 16777215 (gpp * recip / 256)

/-- The score of a part closing with a status: only a COMPLETE part that is not TRUNCATED, of a drop with scoring
enabled, with at least one pair, has one (09 R165). -/
def partScore (c : DropCfg) (status : ClosedStatus) (p : Part) : Option Nat :=
  match p.sums with
  | none => none
  | some r =>
    if c.scoring ∧ status = .complete ∧ p.flags.truncated = false ∧ 1 ≤ r.n then some (scoreOf r) else none

end Sys2Proof.Machine
end

