-- ==== Sys2Proof/Machine/UplinkOps.lean ====
section
/-! DEFINITION. The operations of the Uplink Sender: the free count, the boundary decision (07 R128, R129) and the
words of a record (07 R131, R132; 12 section 12.6). -/

namespace Sys2Proof.Machine

/-- free = (receiver mark − place index) modulo L, with 0 taken as L (07 R128). -/
def ringFree (ring mark place : Nat) : Nat :=
  let f := (mark + ring - place) % ring
  if f = 0 then ring else f

/-- The row of the boundary decision that holds once no restart is under way (07 R129). -/
def State.pauseNow (s : State) : Pause :=
  match s.cfg with
  | none => .restart
  | some c =>
    if s.uplink.restartOwed then .restart
    else if !s.uplink.linkUp then .link
    else
      match s.shots.table with
      | [] => .empty
      | e :: _ =>
        if e.state = .open then .headOpen
        else if ringFree c.station.ringLength s.uplink.mark s.uplink.place < max 2 c.station.pauseThreshold
        then .ring
        else .none

/-- The pause state set by a boundary decision; an entry into RING from another state is counted (07 R129). -/
def State.setPause (s : State) (p : Pause) : State :=
  s.modUplink fun u =>
    { u with
      pause := p
      ringPauses := if p = .ring ∧ u.pause ≠ .ring then bump u.ringPauses else u.ringPauses }

/-- The boundary decision, made while no record is in progress. A restart is ended by its mark alone (07 R129,
R137); where the decision gives NONE the record begins at the command RECORD_START (log 17). -/
def State.boundaryDecision (s : State) : State :=
  if s.uplink.record.isSome then s
  else if s.uplink.pause = .restart then s
  else s.setPause s.pauseNow

/-- A number held by a field of some bits, as a word. -/
def wordOf (n : Nat) : Word := BitVec.ofNat 32 n

/-- The two header words (12 section 12.6). -/
def headerWords (e : Entry) : List Word :=
  [wordOf (e.trigger.toNat * 65536 + e.mask.toNat * 256 + e.origin.val * 16 + e.parts.length % 16),
    wordOf (e.skipped * 65536)]

/-- The words of a part's data that a record carries: none, or the drop's frame size (07 R132). -/
def dataLength (frameSize : Nat) (p : Part) : Nat := if p.words = 0 then 0 else frameSize

/-- The stored words of a part that a record emits (07 R132). -/
def emittedWords (frameSize : Nat) (p : Part) : Nat := min p.words frameSize

/-- A part status as the descriptor carries it; the status in a record is always a closed one (06 R116). -/
def PartStatus.code : PartStatus → Nat
  | .closed c => c.code
  | .pending => 15
  | .receiving => 15

/-- An absent value's field reads 0 where its present bit is clear (12 section 12.6). -/
def orZero : Option Nat → Nat
  | some n => n
  | none => 0

/-- A flag at a bit of a word. -/
def flagAt (b : Bool) (bit : Nat) : Nat := if b then 2 ^ bit else 0

/-- Descriptor word 0 (12 section 12.6); an absent recorded state is the field's all-ones value. -/
def descriptorWord0 (p : Part) : Word :=
  wordOf (p.drop.toNat * 2 ^ 30 + p.status.code * 2 ^ 26 +
    (match p.recorded with | some st => st.code | none => 15) * 2 ^ 22 +
    flagAt p.flags.moving 21 + flagAt p.flags.overlong 20 + flagAt p.flags.sequence 19 +
    flagAt p.flags.lengthError 18 + flagAt p.flags.truncated 17 + flagAt p.score.isSome 16 +
    flagAt p.focus.isSome 15 + flagAt p.iris.isSome 14 + flagAt p.brk.isSome 13 +
    (match p.brk with | some b => b.1.code | none => 0) * 2 ^ 10 + flagAt p.flags.frameCut 9)

/-- The seven descriptor words of a part (07 R131, 12 section 12.6). -/
def descriptorWords (frameSize : Nat) (p : Part) : List Word :=
  [descriptorWord0 p, wordOf (orZero p.focus * 65536 + orZero p.iris % 65536), wordOf p.words, wordOf p.lost,
    wordOf (orZero p.score % 2 ^ 24), wordOf (orZero (p.brk.map Prod.snd)), wordOf (dataLength frameSize p)]

/-- The words of a record before its part data (07 R131). -/
def State.fixedWords (s : State) (e : Entry) : List Word :=
  headerWords e ++ e.parts.flatMap fun p => descriptorWords (s.dropCfg p.drop).frameSize p

/-- The part whose data holds a data word of the record, and the word's place in that part's data: the parts'
data follow one another with no gap (07 R131). -/
def State.dataPlace (s : State) : List Part → Nat → Option (Part × Nat)
  | [], _ => none
  | p :: ps, i =>
    let len := dataLength (s.dropCfg p.drop).frameSize p
    if i < len then some (p, i) else s.dataPlace ps (i - len)

/-- The number of words of an entry's record: two, seven for each part, and the data (07 R131). -/
def State.recordLength (s : State) (e : Entry) : Nat :=
  2 + 7 * e.parts.length + (e.parts.map fun p => dataLength (s.dropCfg p.drop).frameSize p).sum

end Sys2Proof.Machine
end

