-- ==== Sys2Proof/Machine/ShotOps.lean ====
section
/-! DEFINITION. The operations of the Shot Builder on entries and parts (06), the offer of a closed part to a sweep
(09 R169), the ends of a fragment other than its close word (05 R100 to R102), and break results (06 R123). -/

namespace Sys2Proof.Machine

/-! ## Entries and parts -/

/-- Change the entry of a trigger number. -/
def State.modEntry (s : State) (t : Half) (f : Entry → Entry) : State :=
  s.modShots fun b => { b with table := b.table.map fun e => if e.trigger = t then f e else e }

/-- The entry of a trigger number. -/
def State.findEntry (s : State) (t : Half) : Option Entry := s.shots.table.find? fun e => decide (e.trigger = t)

/-- The part of a drop in an entry. -/
def Entry.part (e : Entry) (d : Drop) : Option Part := e.parts.find? fun p => decide (p.drop = d)

/-- Change the part of a drop in an entry. -/
def Entry.modPart (e : Entry) (d : Drop) (f : Part → Part) : Entry :=
  { e with parts := e.parts.map fun p => if p.drop = d then f p else p }

/-- The part of a shot and a drop. -/
def State.part (s : State) (t : Half) (d : Drop) : Option Part := (s.findEntry t).bind (·.part d)

/-- Change the part of a shot and a drop. -/
def State.modPart (s : State) (t : Half) (d : Drop) (f : Part → Part) : State := s.modEntry t (·.modPart d f)

/-- Change the flags of a part. -/
def State.flagPart (s : State) (t : Half) (d : Drop) (f : PartFlags → PartFlags) : State :=
  s.modPart t d fun p => { p with flags := f p.flags }

/-- An entry has an open part. -/
def Entry.hasOpenPart (e : Entry) : Bool := e.parts.any (·.status.isOpen)

/-- A drop has a PENDING or RECEIVING part in some shot. -/
def State.dropHasOpenPart (s : State) (d : Drop) : Bool :=
  s.shots.table.any fun e => e.parts.any fun p => decide (p.drop = d) && p.status.isOpen

/-! ## The offer to a sweep (09 R169) -/

/-- A part is passed over. -/
def Sweep.passOver (w : Sweep) : Sweep := { w with passed := bump w.passed }

/-- What a sweep asks of a part it takes in WAIT: MOVING clear and a focus snapshot equal to the point; the score,
which must be present, is the answer. -/
def Sweep.takes (w : Sweep) (p : Part) : Option Nat :=
  if w.phase = some .wait ∧ p.flags.moving = false ∧ p.focus = some w.point then p.score else none

/-- A point is recorded with a score. -/
def Sweep.record (w : Sweep) (score : Nat) : Sweep :=
  { w with pointTimer := .stopped, table := w.table ++ [(w.point, score)] }

/-- A closed part is offered to the sweep of its drop, if one is RUNNING (06 R121 step 4, 09 R169). -/
def State.offerPart (s : State) (d : Drop) (p : Part) : State :=
  let w := s.sweep d
  if !w.running then s
  else
    match w.takes p with
    | none => s.modSweep d Sweep.passOver
    | some score =>
      let s' := s.modSweep d (·.record score)
      if w.pointIndex + 1 < w.pointCount then
        (s'.modSweep d fun w => { w with pointIndex := w.pointIndex + 1 }).beginPoint d
      else s'.beginBest d

/-! ## Closing (06 R121, R122) -/

/-- The context of a part that closes under its fragment enters SKIP with late owed set (05 R101). -/
def Receiver.partClosed (t : Half) (r : Receiver) : Receiver :=
  if r.mode = .inside t then { r with mode := .skip true } else r

/-- A part with its closed status and its score, its next index and its sums dropped (06 R121, 09 R163). -/
def Part.close (c : DropCfg) (status : ClosedStatus) (p : Part) : Part :=
  { p with status := .closed status, nextIndex := none, score := partScore c status p, sums := none }

/-- An entry whose last open part has closed becomes CLOSED, its age stops, and the Uplink Sender decides again
(06 R122, 07 R129). -/
def State.closeEntry (s : State) (t : Half) : State :=
  match s.findEntry t with
  | none => s
  | some e =>
    if e.state = .open ∧ e.hasOpenPart = false then
      (s.modEntry t fun e => { e with state := .closed, age := .stopped }).boundaryDecision
    else s

/-- An open part closes with a status, in the order of 06 R121; "every event that would close it after it has closed
finds it closed and does nothing to it". -/
def State.closePart (s : State) (t : Half) (d : Drop) (status : ClosedStatus) : State :=
  match s.part t d with
  | none => s
  | some p =>
    if p.status.isOpen then
      let p' := p.close (s.dropCfg d) status
      ((((s.modPart t d fun _ => p').modRx d (·.partClosed t)).offerPart d p').closeEntry t)
    else s

/-- Every open part of a drop closes with a status, the oldest entry first (06 R119, R120). -/
def State.closeOpenParts (s : State) (d : Drop) (status : ClosedStatus) : State :=
  (s.shots.table.map Entry.trigger).foldl (fun s t => s.closePart t d status) s

/-- Every open part of an entry closes TIMEOUT, in drop order (06 R118). -/
def State.timeoutEntry (s : State) (t : Half) : State :=
  Drop.all.foldl (fun s d => s.closePart t d .timeout) s

/-! ## Fragments that end without their close word (05 R100, R102) -/

/-- The context returns to IDLE. -/
def Receiver.toIdle (r : Receiver) : Receiver := { r with mode := .idle }

/-- The fragment in IN ends as a runt (05 R100). -/
def State.runt (s : State) (d : Drop) (t : Half) : State :=
  (s.flagPart t d fun f => { f with lengthError := true }).modRx d fun r =>
    { r.toIdle with runts := bump r.runts, lengthErrors := bump r.lengthErrors }

/-- A beat, a loss of lock or an open word at the context: a fragment in IN ends as a runt, one in SKIP is let go
without a count (05 R100, R102). -/
def State.endFragment (s : State) (d : Drop) : State :=
  match (s.rx.get d).mode with
  | .idle => s
  | .inside t => s.runt d t
  | .skip _ => s.modRx d Receiver.toIdle

/-! ## Break results (06 R123) -/

/-- A part that takes a break result: LINK_LOST with its break fields absent. -/
def Part.wantsBreak (p : Part) : Bool := decide (p.status = .closed .linkLost) && p.brk.isNone

/-- The part of an entry OPEN or CLOSED, with the trigger number the flash carried, takes the result. -/
def State.breakTaken (s : State) (d : Drop) (trigger : Option Half) : Option Half :=
  match trigger with
  | none => none
  | some t =>
    match s.findEntry t with
    | none => none
    | some e =>
      if e.state ≠ .sending ∧ (e.part d).any Part.wantsBreak then some t else none

/-- The result of a flash capture reaches the Shot Builder: it fills a part's break fields, or "in every other case"
is counted unattached (06 R123, log 19). -/
def State.breakResult (s : State) (d : Drop) (trigger : Option Half) (r : Reflection) : State :=
  match s.breakTaken d trigger with
  | some t =>
    (s.modPart t d fun p => { p with brk := some (r.kind, r.distance) }).modShots fun b =>
      { b with breaksAttached := bump b.breaksAttached }
  | none => s.modShots fun b => { b with breaksUnattached := bump b.breaksUnattached }

end Sys2Proof.Machine
end

