-- ==== Sys2Proof/Machine/DropOps.lean ====
section
/-! DEFINITION. The operations of the Drop Power Unit: the transitions of the drop state machine (01). -/

namespace Sys2Proof.Machine

/-- A DROP_STATE event is queued (02 R48). -/
def State.reportState (s : State) (d : Drop) (st : DropState) (cause : Option Cause) : State :=
  s.queueEvent (.dropState d st cause)

/-- Set a drop's state. -/
def State.setDropState (s : State) (d : Drop) (st : DropState) : State := s.modDrop d fun r => { r with state := st }

/-- The timers of a drop that belong to a powered state stop (01 R4). -/
def DropRec.stopPowered (r : DropRec) : DropRec :=
  { r with
    rampWindow := .stopped, warmTimer := .stopped, relockWindow := .stopped, stableTimer := .stopped,
    napTimer := .stopped, steadyTrip := .stopped }

/-- The residual current that the measured current reads with the switch open: a free value (01 R8, log 4). -/
def State.residual (s : State) : Nat := (Config.residualCurrent s.draws).toNat

/-- The switch of a drop opens: its state is the unpowered one, its powered timers stop, and its measured current
reads the residual current (01 R3, R4, R8). -/
def State.openSwitch (s : State) (d : Drop) (next : DropState) : State :=
  { s.modDrop d (fun r => { r.stopPowered with state := next, measured := s.residual }) with
    draws := s.draws + 1 }

/-- A drop that left HUSHED by losing its power: the capture in flight runs on as a DARK one (01 R20, 10 R183). -/
def State.darkenCapture (s : State) : State :=
  s.modLocator fun l =>
    { l with capture := l.capture.map fun c => { c with type := .dark } }

/-- A transition from a powered into an unpowered state (01 R4). -/
def State.powerDown (s : State) (d : Drop) (next : DropState) : State :=
  let was := (s.drops.get d).state
  let s1 := ((s.openSwitch d next).giveUpShare d).modLink d LinkPort.powerOff
  let s2 := if was = .ready then s1.closeOpenParts d .powerLost else s1
  let s3 := s2.endFragment d
  let s4 := if was = .ready then s3.lensLeaveReady d else s3
  let s5 := s4.clearHomed d
  if was = .hushed then s5.darkenCapture else s5

/-- A drop enters CLAIMING and joins the claim queue (01 R5); like every entry into an unpowered state it clears the
homed flags (01 R4). -/
def State.enterClaiming (s : State) (d : Drop) : State :=
  ((s.setDropState d .claiming).clearHomed d).joinClaims d

/-- POWER_ON as it acts on an OFF drop, asked for by a request or by auto-power (01 R25, R30). -/
def State.turnOn (s : State) (d : Drop) : State :=
  (s.modDrop d fun r => { r with onIntent := true }).enterClaiming d

/-- A wake: a NAPPING drop enters CLAIMING, and any other is not changed (01 R23). -/
def State.wakeDrop (s : State) (d : Drop) : State :=
  if (s.drops.get d).state = .napping then s.enterClaiming d else s

/-- A drop enters RAMPING: the switch closes and the ramp window starts (01 R6). -/
def State.enterRamping (s : State) (d : Drop) : State :=
  s.modDrop d fun r => { r with state := .ramping, rampWindow := s.timer Config.rampWindowUs }

/-- A drop enters WARMING: the warm timer starts and the beat run is set to 0 (01 R16). -/
def State.enterWarming (s : State) (d : Drop) : State :=
  (s.modDrop d fun r =>
    { r with state := .warming, rampWindow := .stopped, warmTimer := s.timer Config.warmTimerUs }).modLink d
    fun l => { l with beatRun := 0 }

/-- The nap timer as it starts: stopped for a nap time of 0 (01 R22). -/
def State.napTimer (s : State) (d : Drop) : Timer :=
  let nap := (s.dropCfg d).napSeconds
  if nap = 0 then .stopped else s.timer (nap * 1000000)

/-- The last-relayed trigger number of a drop set or made absent (06 R104). -/
def State.setRelayed (s : State) (d : Drop) (t : Option Half) : State :=
  s.modShots fun b => { b with lastRelayed := b.lastRelayed.set d t }

/-- A drop enters READY (01 R16, R18, R12, R22; 06 R104). -/
def State.enterReady (s : State) (d : Drop) : State :=
  ((s.modDrop d fun r =>
    { r with
      state := .ready
      warmTimer := .stopped
      relockWindow := .stopped
      stableTimer := s.timer Config.stableTimerUs
      napTimer := s.napTimer d }).setRelayed d none).reportState d .ready none

/-- A drop enters FAULT from a powered state with a cause (01 R16, R18, R24). -/
def State.enterFault (s : State) (d : Drop) (c : Cause) : State :=
  ((s.powerDown d .fault).modDrop d fun r => { r with cause := some c }).reportState d .fault (some c)

/-- The backoff after a trip that leaves the series at a number (01 R10). -/
def backoffUs (series : Nat) : Nat := if series = 1 then Config.firstBackoffUs else Config.secondBackoffUs

/-- A trip from a powered state (01 R10). -/
def State.trip (s : State) (d : Drop) (c : TripCause) : State :=
  let series := (s.drops.get d).tripSeries + 1
  let s1 := s.modDrop d fun r =>
    { r with tripCount := bump r.tripCount, lastTripCause := some c, tripSeries := min 3 series }
  if series < 3 then
    ((s1.powerDown d .tripped).modDrop d fun r =>
      { r with cause := some c.toCause, backoffTimer := s.timer (backoffUs series) }).reportState d .tripped
      (some c.toCause)
  else s1.enterFault d .tripLimit

/-- What a current reads as: it saturates, and in RAMPING it does not rise above twice the allowance (01 R3, R8). -/
def measuredOf (st : DropState) (allowance milliamps : Nat) : Nat :=
  if st = .ramping then min (2 * allowance) (min Config.measuredMaxMa milliamps)
  else min Config.measuredMaxMa milliamps

/-- The measured current reaches the hard trip level in a powered state (01 R9). -/
def State.hardTrips (s : State) (d : Drop) (measured : Nat) : Bool :=
  (s.drops.get d).state.powered && decide (Config.hardTripMa ≤ measured)

/-- A measured current as the DPU takes it into the drop record: in a powered state it starts or stops the steady-trip
timer (01 R8). -/
def DropRec.measure (steady : Timer) (level measured : Nat) (r : DropRec) : DropRec :=
  { r with
    measured := measured
    steadyTrip :=
      if !r.state.powered then r.steadyTrip
      else if measured ≤ level then .stopped
      else if r.steadyTrip.isRunning then r.steadyTrip
      else steady }

/-- A sample of the drop current (01 R8, R9): it becomes the measured current and is compared with the steady trip
level; a powered drop whose measured current reaches the hard trip level trips at once. -/
def State.sampleCurrent (s : State) (d : Drop) (milliamps : Nat) : State :=
  let allowance := (s.dropCfg d).allowance
  let m := measuredOf (s.drops.get d).state allowance milliamps
  let s1 := s.modDrop d (·.measure (s.timer Config.steadyTripUs) (steadyLevel allowance) m)
  if s.hardTrips d m then s1.trip d .short else s1

/-- The DPU hushes a READY drop: the stable and nap timers stop, HUSH is handed over, and the lens has left READY
(01 R19, 08 R145). -/
def State.hush (s : State) (d : Drop) : State :=
  (((s.modDrop d fun r =>
    { r with state := .hushed, stableTimer := .stopped, napTimer := .stopped }).handMark d .hush).lensLeaveReady d)

/-- At the end of a quiet capture a drop still HUSHED is unhushed and enters WARMING (01 R19). -/
def State.unhush (s : State) (d : Drop) : State :=
  if (s.drops.get d).state = .hushed then (s.handMark d .unhush).enterWarming d else s

end Sys2Proof.Machine
end

