-- ==== Sys2Proof/Machine/Budget.lean ====
section
/-! DEFINITION. The Budget Unit's commands (03): CLAIM_RECEIVED, CLAIM_ECHO, RELEASE_RECEIVED, RELEASE_ECHO,
RETRY_TIMER_EXPIRY. -/

namespace Sys2Proof.Machine

/-- The held value a CLAIM gives its sender: the resulting total where it is granted here, and the total less the
amount, or 0, where it is void (03 R56). -/
def State.heldFromClaim (s : State) (src : Station) (n : ShareNote) : Nat :=
  if s.claimGranted src.val n.amount.toNat n.total.toNat then n.total.toNat else n.total.toNat - n.amount.toNat

/-- CLAIM_RECEIVED: tested on the view as it stood before the note (03 R56 to R58). -/
def execClaimReceived (src : Station) (n : ShareNote) (s : State) : Host.Outcome State Fault Refusal :=
  .next (s.hear src fun s => s.refreshView src (s.heldFromClaim src n))

/-- A granted claim whose drop is CLAIMING with locate_hold clear: the drop enters RAMPING with its share
(01 R6, 03 R61). -/
def State.takeGrant (s : State) (d : Drop) (amount : Nat) : State :=
  (((s.modBudget fun b =>
    { b with ownHeld := b.ownHeld + amount, claimsGranted := bump b.claimsGranted }).leaveClaims d).enterRamping d)

/-- An unused grant is set right with a RELEASE (03 R63). -/
def State.unusedGrant (s : State) (d : Drop) : State :=
  (s.queueRelease d).modBudget fun b => { b with unusedGrants := bump b.unusedGrants }

/-- A void claim: its drop, if still CLAIMING, waits for its retry (03 R61, R62). -/
def State.voidClaim (s : State) (d : Drop) : State :=
  let s1 := s.modBudget fun b => { b with claimsVoid := bump b.claimsVoid }
  if (s.drops.get d).state = .claiming then s1.waitRetry d else s1

/-- The verdict on the own claim is applied (03 R61). -/
def State.applyVerdict (s : State) (d : Drop) (amount total : Nat) : State :=
  let r := s.drops.get d
  if s.claimGranted s.station amount total then
    if r.state = .claiming ∧ r.locateHold = false then s.takeGrant d amount else s.unusedGrant d
  else s.voidClaim d

/-- CLAIM_ECHO (03 R61). -/
def execClaimEcho (s : State) : Host.Outcome State Fault Refusal :=
  .next <|
    match s.onLine.map QNote.body with
    | some (.claim d amount total) => (s.echoed.applyVerdict d amount (filledTotal total)).lookClaims
    | _ => s

/-- RELEASE_RECEIVED (03 R56, R65). -/
def execReleaseReceived (src : Station) (n : ShareNote) (s : State) : Host.Outcome State Fault Refusal :=
  .next (s.hear src fun s => (s.refreshView src n.total.toNat).releaseHeard)

/-- RELEASE_ECHO (03 R65). -/
def execReleaseEcho (s : State) : Host.Outcome State Fault Refusal :=
  .next <|
    match s.onLine.map QNote.body with
    | some (.release _ _ _) => s.echoed.releaseHeard
    | _ => s

/-- A drop's entry is WAITING with its retry timer running. -/
def State.retryRunning (s : State) (d : Drop) : Bool :=
  s.budget.claims.any fun e => decide (e.drop = d) && decide (e.retry ≠ .sendable)

/-- RETRY_TIMER_EXPIRY (03 R62). -/
def execRetryTimerExpiry (d : Drop) (s : State) : Host.Outcome State Fault Refusal :=
  .next <| if s.retryRunning d then (s.setRetry d fun _ => .sendable).lookClaims else s

end Sys2Proof.Machine
end

