-- ==== Sys2Proof/Machine/RequestOps.lean ====
section
/-! DEFINITION. Taking a REQUEST and answering it (12 R202, R203). -/

namespace Sys2Proof.Machine

/-- The rank a request needs: the controller set, or the controller set and then the service set (12 R202). -/
inductive Rank where
  | controller | service
deriving DecidableEq, Repr

/-- An ANSWER is queued to the requester, with the request kind and the drop field as received (12 R203). -/
def State.answer (s : State) (kind : Byte) (r : Request) (c : AnswerCode) (v : AnswerValue) : State :=
  s.queueNote (.answer { target := r.src, kind := kind, drop := r.drop, code := c, value := v })

/-- The request is addressed to this station; a stray station takes none (02 R44, 12 R202). -/
def State.addressed (s : State) (r : Request) : Bool := !s.stray && decide (r.target.toNat = s.station)

/-- The rank check: the requester's rank suffices (12 R202). -/
def State.ranked (s : State) (rank : Rank) (src : Station) : Bool :=
  match rank with
  | .controller => s.isController src
  | .service => s.isController src && s.isService src

/-- A REQUEST note is heard; addressed to this station and of sufficient rank, it is acted on (12 R202). -/
def State.takeRequest (s : State) (k : RequestKind) (rank : Rank) (r : Request) (act : State → State) : State :=
  s.hear r.src fun s =>
    if !s.addressed r then s
    else if s.ranked rank r.src then act s
    else s.answer k.value r .refusedRank .noValue

/-- A request that names a drop: a drop field above 3 is answered UNKNOWN (12 R202). -/
def State.takeDropRequest (s : State) (k : RequestKind) (rank : Rank) (r : Request) (act : Drop → State → State) :
    State :=
  s.takeRequest k rank r fun s =>
    match requestDrop r with
    | some d => act d s
    | none => s.answer k.value r .unknown .noValue

end Sys2Proof.Machine
end

