-- ==== Sys2Proof/Machine/Lens.lean ====
section
/-! DEFINITION. The Lens Controller's commands (08, 09): LENS_ACK, ACK_TIMER_EXPIRY, BURST_HANDOVER, LENS_HOME,
LENS_MOVE, LENS_NUDGE, LENS_HALT, LENS_PUSH, LENS_POP, QUERY_LENS, LENS_SWEEP, POINT_TIMER_EXPIRY, QUERY_SWEEP. -/

namespace Sys2Proof.Machine

/-! ## Bursts and acknowledgements (08 R142 to R144) -/

/-- The burst that may be handed over: the slot is EMPTY and an axis needs one (08 R142). -/
def Lens.burstDue (l : Lens) : Option Burst := if l.slot.isNone then l.chooseBurst else none

/-- A burst fills the slot and is counted, with the time and axis of its hand-over (08 R142). -/
def Lens.handOver (now : Nat) (b : Burst) (l : Lens) : Lens :=
  { l with
    slot := some (b, l.burstSerial)
    burstsSent := bump l.burstsSent
    lastBurst := some (now, b.axis)
    burstSerial := l.burstSerial + 1 }

/-- BURST_HANDOVER (08 R142); that the burst interval has passed is the sender's to say (log 2). -/
def execBurstHandover (d : Drop) (s : State) : Host.Outcome State Fault Refusal :=
  let l := s.lens.get d
  .next <|
    match l.burstDue with
    | some b => (s.modLens d (·.handOver s.now b)).handMark d (.burst b l.burstSerial)
    | none => s

/-- An acknowledgement taken without an axis to apply it to is stray (08 R143). -/
def Lens.stray (l : Lens) : Lens := { l with strayAcks := bump l.strayAcks }

/-- The axis operation an acknowledgement ends or advances, by state and phase (08 R143). -/
def AxisRec.ack (range : Nat) (b : Burst) (a : LensAck) (r : AxisRec) : Option (AxisRec × Option LensOutcome) :=
  match r.mode with
  | .homing .probe | .homing .search => some (r.ackHoming range b a)
  | .moving .down | .moving .up => some (r.ackMoving b a)
  | .homing .turn | .moving .turn | .idle | .error _ => none

/-- An acknowledgement applied to its burst's axis, with what its end brings about (08 R150, R153, R154, R160). -/
def State.applyAck (s : State) (d : Drop) (b : Burst) (a : LensAck) : State :=
  let r := s.axis d b.axis
  match r.ack ((s.dropCfg d).range b.axis) b a with
  | none => s.modLens d Lens.stray
  | some (r', none) => s.modAxis d b.axis fun _ => r'
  | some (r', some o) =>
    ((s.modAxis d b.axis fun _ => r').modLens d (Lens.countEnd · r.mode.isHoming o)).axisLeft d b.axis o

/-- An acknowledgement at the slot (08 R143). -/
def State.takeAck (s : State) (d : Drop) (a : LensAck) : State :=
  match (s.lens.get d).slot with
  | none => s.modLens d Lens.stray
  | some (b, _) => (s.modLens d fun l => { l.emptySlot with acks := bump l.acks }).applyAck d b a

/-- LENS_ACK (08 R143); an UNLOCKED port hands nothing (05 R92). -/
def execLensAck (d : Drop) (a : LensAck) (s : State) : Host.Outcome State Fault Refusal :=
  .next <| if (s.links.get d).locked then (s.heardItem d).takeAck d a else s

/-- The burst in the slot is given up: its axis enters ERROR with cause NO_ACK (08 R144). -/
def State.loseBurst (s : State) (d : Drop) (b : Burst) : State :=
  ((s.modLens d fun l => { l.emptySlot with ackTimeouts := bump l.ackTimeouts }).modAxis d b.axis
    (AxisRec.fail .noAck)).axisLeft d b.axis .noAck

/-- ACK_TIMER_EXPIRY (08 R144). -/
def execAckTimerExpiry (d : Drop) (s : State) : Host.Outcome State Fault Refusal :=
  .next <|
    match (s.lens.get d).slot with
    | some (b, _) => if (s.lens.get d).ackTimer.isRunning then s.loseBurst d b else s
    | none => s

/-! ## The checks common to the lens requests (08 R146) -/

/-- A lens request passes the common checks: the loader has ended (08 R140), locate_hold is clear, and no sweep runs
where the request would move or home FOCUS or change the stack (08 R146). That while LOADING this check stands before
those of R156 and R158 is DEDUCED (log 37). -/
def State.takeLensRequest (s : State) (k : RequestKind) (r : Request) (needsFocus : Bool)
    (act : Drop → State → State) : State :=
  s.takeDropRequest k .controller r fun d s =>
    if s.loader = .loading then s.answer k.value r .refusedState .noValue
    else if (s.drops.get d).locateHold then s.answer k.value r .refusedState .noValue
    else if needsFocus && (s.sweep d).running then s.answer k.value r .busy .noValue
    else act d s

/-! ## LENS_HOME (08 R147) -/

/-- The named axes enter HOMING: FOCUS in PROBE, and IRIS in TURN where both are named (08 R147). -/
def State.startHoming (s : State) (d : Drop) : List Axis → State
  | [] => s
  | ax :: rest =>
    rest.foldl (fun s a => s.modAxis d a (AxisRec.startHoming .turn)) (s.modAxis d ax (AxisRec.startHoming .probe))

/-- LENS_HOME on a drop (08 R147). -/
def State.homeDrop (s : State) (r : Request) (d : Drop) (axes : List Axis) : State :=
  let k := RequestKind.lensHome.value
  if !s.isReady d then s.answer k r .refusedState .noValue
  else if axes.any fun ax => (s.axis d ax).mode.busy then s.answer k r .busy .noValue
  else (s.startHoming d axes).answer k r .accepted .noValue

/-- An axis argument of LENS_HOME names FOCUS. -/
def homesFocus (r : Request) : Bool := decide (argOne r 0 = 0 ∨ argOne r 0 = 2)

/-- LENS_HOME (08 R147). -/
def execLensHome (r : Request) (s : State) : Host.Outcome State Fault Refusal :=
  .next (s.takeLensRequest .lensHome r (homesFocus r) fun d s =>
    match homeAxesOf (argOne r 0) with
    | some axes => s.homeDrop r d axes
    | none => s.answer RequestKind.lensHome.value r .unknown .noValue)

/-! ## LENS_MOVE and LENS_NUDGE (08 R151, R155) -/

/-- A target brought into 0 to the axis range. -/
def clampTarget (range : Nat) (t : Int) : Nat := min range t.toNat

/-- The code of a move that is taken (08 R151). -/
def moveCode (clamped moves : Bool) : AnswerCode := if clamped then .clamped else if moves then .accepted else .done

/-- A move of a homed IDLE axis of a READY drop to a target, clamped to the range (08 R151, R155). -/
def State.moveDrop (s : State) (k : RequestKind) (r : Request) (d : Drop) (ax : Axis) (asked : Int) (verify : Bool) :
    State :=
  let a := s.axis d ax
  let c := s.dropCfg d
  let t := clampTarget (c.range ax) asked
  let code := moveCode (decide ((t : Int) ≠ asked)) (decide (t ≠ a.position))
  if !s.isReady d then s.answer k.value r .refusedState .noValue
  else if !a.homed then s.answer k.value r .notHomed .noValue
  else if a.mode ≠ .idle then s.answer k.value r .busy .noValue
  else if t = a.position then s.answer k.value r code (.target t)
  else (s.modAxis d ax (AxisRec.startMove (c.backlash ax) t verify)).answer k.value r code (.target t)

/-- LENS_MOVE (08 R151). -/
def execLensMove (r : Request) (s : State) : Host.Outcome State Fault Refusal :=
  .next (s.takeLensRequest .lensMove r (decide (axisOf (argOne r 0) = some .focus)) fun d s =>
    match axisOf (argOne r 0) with
    | some ax => s.moveDrop .lensMove r d ax (argTwo r 1) (decide (argOne r 3 ≠ 0))
    | none => s.answer RequestKind.lensMove.value r .unknown .noValue)

/-- LENS_NUDGE (08 R155). -/
def execLensNudge (r : Request) (s : State) : Host.Outcome State Fault Refusal :=
  .next (s.takeLensRequest .lensNudge r (decide (axisOf (argOne r 0) = some .focus)) fun d s =>
    match axisOf (argOne r 0) with
    | some ax => s.moveDrop .lensNudge r d ax ((s.axis d ax).position + argSigned r 1) false
    | none => s.answer RequestKind.lensNudge.value r .unknown .noValue)

/-! ## LENS_HALT (08 R156, 09 R172) -/

/-- The axes of a drop are stopped, FOCUS first; a running sweep ends HALTED with its FOCUS (08 R156, 09 R172). -/
def State.haltLens (s : State) (d : Drop) : State :=
  let s1 := if (s.sweep d).running then s.stopSweep d .halted else s.haltAxis d .focus
  s1.haltAxis d .iris

/-- LENS_HALT (08 R156): the answer first, then the stops (log 22). -/
def execLensHalt (r : Request) (s : State) : Host.Outcome State Fault Refusal :=
  .next (s.takeLensRequest .lensHalt r false fun d s =>
    (s.answer RequestKind.lensHalt.value r (if (s.lens.get d).busy then .accepted else .done) .noValue).haltLens d)

/-! ## The setting stack (08 R157 to R159) -/

/-- The value an axis pushes: its position where homed and IDLE, its target where MOVING, absent otherwise
(08 R158). -/
def AxisRec.pushed (r : AxisRec) : Option Nat :=
  match r.mode with
  | .moving _ => some r.target
  | .idle => if r.homed then some r.position else none
  | .homing _ => none
  | .error _ => none

/-- A setting joins at the top of the stack. -/
def Lens.push (l : Lens) : Lens := { l with stack := ⟨l.focus.pushed, l.iris.pushed⟩ :: l.stack }

/-- LENS_PUSH (08 R158). -/
def execLensPush (r : Request) (s : State) : Host.Outcome State Fault Refusal :=
  .next (s.takeLensRequest .lensPush r true fun d s =>
    let depth := (s.lens.get d).stack.length
    if Config.stackSize ≤ depth then s.answer RequestKind.lensPush.value r .full .noValue
    else (s.modLens d Lens.push).answer RequestKind.lensPush.value r .done (.count (depth + 1)))

/-- A present value of a setting belongs to a homed axis (08 R159). -/
def AxisRec.accepts (r : AxisRec) (v : Option Nat) : Bool := v.isNone || r.homed

/-- An axis is set moving by a value that is present and differs from its position (08 R159). -/
def AxisRec.movedBy (r : AxisRec) : Option Nat → Option Nat
  | none => none
  | some v => if v = r.position then none else some v

/-- The axes a popped setting sets moving: FOCUS takes its first leg, and IRIS waits in TURN behind it or takes its
own (08 R159). -/
def Lens.applySetting (c : DropCfg) (v : Setting) (l : Lens) : Lens :=
  let f := l.focus.movedBy v.focus
  let focus := match f with | some t => l.focus.startMove c.focusBacklash t false | none => l.focus
  let iris :=
    match l.iris.movedBy v.iris with
    | some t => if f.isSome then l.iris.turnMove t else l.iris.startMove c.irisBacklash t false
    | none => l.iris
  { l with focus := focus, iris := iris }

/-- LENS_POP on a drop (08 R159). -/
def State.popDrop (s : State) (r : Request) (d : Drop) : State :=
  let k := RequestKind.lensPop.value
  let l := s.lens.get d
  if !s.isReady d then s.answer k r .refusedState .noValue
  else if l.focus.mode ≠ .idle ∨ l.iris.mode ≠ .idle then s.answer k r .busy .noValue
  else
    match l.stack with
    | [] => s.answer k r .empty .noValue
    | v :: rest =>
      if !(l.focus.accepts v.focus && l.iris.accepts v.iris) then s.answer k r .notHomed .noValue
      else
        let moves := (l.focus.movedBy v.focus).isSome || (l.iris.movedBy v.iris).isSome
        (s.modLens d fun l => Lens.applySetting (s.dropCfg d) v { l with stack := rest }).answer k r
          (if moves then .accepted else .done) (.count rest.length)

/-- LENS_POP (08 R159). -/
def execLensPop (r : Request) (s : State) : Host.Outcome State Fault Refusal :=
  .next (s.takeLensRequest .lensPop r true fun d s => s.popDrop r d)

/-! ## QUERY_LENS (08 R161) -/

/-- The fields a selector of QUERY_LENS reads (08 R161). -/
def Lens.queryValue (l : Lens) : Nat → Option AnswerValue
  | 0 => some (.lensAxis l.focus.mode l.focus.homed l.focus.position)
  | 1 => some (.lensAxis l.iris.mode l.iris.homed l.iris.position)
  | 2 => some (.lensTargets l.focus.target l.iris.target l.stack.length)
  | 3 => some (.lensCounters l.burstsSent l.acks l.ackTimeouts l.strayAcks)
  | 4 => some (.lensCounters l.homings l.homeFailures l.moves l.verifyFailures)
  | _ => none

/-- QUERY_LENS (08 R161); answered while LOADING too (12 R202; DEDUCED, log 37). -/
def execQueryLens (r : Request) (s : State) : Host.Outcome State Fault Refusal :=
  .next (s.takeDropRequest .queryLens .controller r fun d s =>
    match (s.lens.get d).queryValue (argOne r 0) with
    | some v => s.answer RequestKind.queryLens.value r .done v
    | none => s.answer RequestKind.queryLens.value r .unknown .noValue)

/-! ## LENS_SWEEP (09 R167) -/

/-- The points that a sweep's arguments ask for, before the limit of 32 (09 R167). -/
def plannedPoints (start stop stride : Nat) : Nat := if stop < start then 1 else (stop - start) / stride + 1

/-- The sweep record as a sweep that is taken sets it up (09 R167). -/
def Sweep.setUp (start stop stride position : Nat) (w : Sweep) : Sweep :=
  { w with
    phase := some .move
    start := start
    stride := stride
    pointCount := min Config.maxPoints (plannedPoints start stop stride)
    pointIndex := 0
    preSweep := position
    passed := 0
    lastOutcome := none
    table := []
    endOwed := none }

/-- LENS_SWEEP on a drop (09 R167). -/
def State.sweepDrop (s : State) (r : Request) (d : Drop) : State :=
  let k := RequestKind.lensSweep.value
  let c := s.dropCfg d
  let f := s.axis d .focus
  let start := min c.focusRange (argTwo r 0)
  let stop := min c.focusRange (argTwo r 2)
  let stride := max 1 (argOne r 4)
  let clamped := decide (start ≠ argTwo r 0 ∨ stop ≠ argTwo r 2 ∨ stride ≠ argOne r 4) ||
    decide (Config.maxPoints < plannedPoints start stop stride)
  if !s.isReady d then s.answer k r .refusedState .noValue
  else if !c.scoring then s.answer k r .refusedState .noValue
  else if !f.homed then s.answer k r .notHomed .noValue
  else if f.mode ≠ .idle then s.answer k r .busy .noValue
  else
    let s1 := (s.modSweep d (Sweep.setUp start stop stride f.position)).beginPoint d
    s1.answer k r (if clamped then .clamped else .accepted) (.count (s1.sweep d).pointCount)

/-- LENS_SWEEP (09 R167). -/
def execLensSweep (r : Request) (s : State) : Host.Outcome State Fault Refusal :=
  .next (s.takeLensRequest .lensSweep r true fun d s => s.sweepDrop r d)

/-- POINT_TIMER_EXPIRY: the sweep has stalled (09 R170). -/
def execPointTimerExpiry (d : Drop) (s : State) : Host.Outcome State Fault Refusal :=
  let w := s.sweep d
  .next <| if w.phase = some .wait ∧ w.pointTimer.isRunning then s.beginReturn d else s

/-- The fields an index of QUERY_SWEEP reads: an index above the entries in the table is unknown (09 R173). -/
def Sweep.queryValue (w : Sweep) : Nat → Option AnswerValue
  | 0 => some (.sweepRecord w.phase w.lastOutcome w.pointCount w.table.length w.passed)
  | i + 1 => (w.table[i]?).map fun p => .sweepPoint p.1 p.2

/-- QUERY_SWEEP (09 R173). -/
def execQuerySweep (r : Request) (s : State) : Host.Outcome State Fault Refusal :=
  .next (s.takeDropRequest .querySweep .controller r fun d s =>
    match (s.sweep d).queryValue (argOne r 0) with
    | some v => s.answer RequestKind.querySweep.value r .done v
    | none => s.answer RequestKind.querySweep.value r .unknown .noValue)

end Sys2Proof.Machine
end

