-- ==== Sys2Proof/Machine/Reflection.lean ====
section
/-! DEFINITION. Reflection analysis (11 R189 to R193): from the averaged samples of a capture to a kind, a distance
and q. Every intermediate is an exact integer. -/

namespace Sys2Proof.Machine

/-- The baseline: the floor of the mean of samples 0 to 7 (11 R189). -/
def baseline (samples : List Nat) : Nat := (samples.take 8).sum / 8

/-- dᵢ: sample i less the baseline (11 R189). -/
def deviation (samples : List Nat) (i : Nat) : Int := (samples.getD i 0 : Int) - (baseline samples : Int)

/-- The largest of a list of integers; 0 of none. -/
def maxOf : List Int → Int
  | [] => 0
  | x :: xs => xs.foldl max x

/-- The launch height H: the largest dᵢ over samples 8 to 11 (11 R189). -/
def launchHeight (samples : List Nat) : Int := maxOf ([8, 9, 10, 11].map (deviation samples))

/-- The crossing: the first sample from 24 to 511 at which |dᵢ| is T or more (11 R190). -/
def crossing (samples : List Nat) (t : Nat) : Option Nat :=
  (List.range' 24 488).find? fun i => decide (t ≤ (deviation samples i).natAbs)

/-- The sign of a crossing is + (11 R190). -/
def positiveAt (samples : List Nat) (i : Nat) : Bool := decide (0 < deviation samples i)

/-- eⱼ: dⱼ with the crossing's sign applied (11 R190). -/
def signedDeviation (samples : List Nat) (positive : Bool) (j : Nat) : Int :=
  if positive then deviation samples j else -(deviation samples j)

/-- The fraction f: the floor, taken as 1 where it is 0 (11 R191). -/
def crossingFraction (samples : List Nat) (t i : Nat) : Int :=
  let e := signedDeviation samples (positiveAt samples i)
  max 1 (16 * ((t : Int) - e (i - 1)) / (e i - e (i - 1)))

/-- Δ = ticks − 128 − cal (11 R191). -/
def crossingDelta (samples : List Nat) (t cal i : Nat) : Int :=
  16 * ((i : Int) - 1) + crossingFraction samples t i - 128 - (cal : Int)

/-- The distance in mm of a positive Δ (11 R192). -/
def distanceOf (delta vf : Nat) : Nat := (delta * vf * 2342 + 50000) / 100000

/-- The reach of a capture (11 R192). -/
def reachOf (cal vf : Nat) : Nat := distanceOf (8048 - cal) vf

/-- P: the largest |dⱼ| over j from i to the smaller of i + 7 and 511 (11 R193). -/
def echoHeight (samples : List Nat) (i : Nat) : Nat :=
  ((List.range' i (min 8 (512 - i))).map fun j => (deviation samples j).natAbs).foldl max 0

/-- q: the smaller of 255 and floor(256 × P / H) (11 R193). -/
def qOf (samples : List Nat) (i : Nat) : Nat :=
  min 255 (256 * echoHeight samples i / (launchHeight samples).toNat)

/-- The kind of a crossing that is not NEAR, by its sign and q (11 R193). -/
def kindOf (positive : Bool) (q : Nat) : ReflectionKind :=
  match positive, decide (192 ≤ q) with
  | true, true => .open
  | true, false => .stepUp
  | false, true => .short
  | false, false => .stepDown

/-- A crossing found at sample i: NEAR where the reflection is one with the launch or lies at or before the
connector, otherwise placed and measured (11 R190 to R193). -/
def reflectionAt (samples : List Nat) (t vf cal i : Nat) : Reflection :=
  let positive := positiveAt samples i
  let q := qOf samples i
  let delta := crossingDelta samples t cal i
  if (t : Int) ≤ signedDeviation samples positive 23 then { kind := .near, distance := 0, q := q }
  else if delta ≤ 0 then { kind := .near, distance := 0, q := q }
  else { kind := kindOf positive q, distance := distanceOf delta.toNat vf, q := q }

/-- The analysis of averaged samples under T, VF and cal: absent where the launch height is below 1 (11 R189). -/
def analyse (samples : List Nat) (t vf cal : Nat) : Option Reflection :=
  if launchHeight samples < 1 then none
  else
    match crossing samples t with
    | none => some { kind := .none, distance := reachOf cal vf, q := 0 }
    | some i => some (reflectionAt samples t vf cal i)

/-- The averaged samples: each sum divided by 2^k, the remainder dropped (10 R183). -/
def averaged (k : Nat) (sums : List Nat) : List Nat := sums.map fun v => v / 2 ^ k

end Sys2Proof.Machine
end

