-- ==== Sys2Proof/Machine/Sites.lean ====
section
/-! DEFINITION. The site table of a drop (11 R194 to R199): gathering, combination, founding, eviction, and the
changes each reports. -/

namespace Sys2Proof.Machine

/-- A record as it is entered (11 R194). -/
structure SiteRecord where
  kind : SiteKind
  distance : Nat
  sequence : BitVec 32
  flash : Bool
  trigger : Option Half
deriving DecidableEq, Repr

/-- A change to a slot, as SITE_CHANGED reports it (11 R199). -/
structure SiteChange where
  slot : Nat
  kind : SiteKind
  count : Nat
  center : Nat
deriving DecidableEq, Repr

/-- How far apart two places are. -/
def apart (a b : Nat) : Nat := max a b - min a b

/-- The more severe of two kinds of one polarity: OPEN over STEP_UP, SHORT over STEP_DOWN (11 R195). -/
def moreSevere (a b : SiteKind) : SiteKind :=
  if a = .open ∨ b = .open then .open else if a = .short ∨ b = .short then .short else a

/-- Of two sequences, `a` is the earlier: its distance behind the next sequence is larger (11 R194). -/
def earlierThan (next a b : BitVec 32) : Bool := decide ((next - b).toNat < (next - a).toNat)

/-- The site of a slot. -/
def SiteTable.site (t : SiteTable) (i : Nat) : Option Site := (t.slots.getD i none)

/-- Replace a slot. -/
def SiteTable.setSlot (t : SiteTable) (i : Nat) (v : Option Site) : SiteTable := { t with slots := t.slots.set i v }

/-- A site of a polarity within 150 mm of a place (11 R196). -/
def Site.near (negative : Bool) (x : Nat) (v : Site) : Bool :=
  (v.kind.negative == negative) && decide (apart v.center x ≤ Config.siteReachMm)

/-- The occupied slots with their sites, in slot order. -/
def SiteTable.occupied (t : SiteTable) : List (Nat × Site) :=
  (List.range 4).filterMap fun i => (t.site i).map fun v => (i, v)

/-- The slot of a list's first best, for a test that says that a later one is strictly better. -/
def firstBest (better : Site → Site → Bool) : List (Nat × Site) → Option (Nat × Site)
  | [] => none
  | p :: ps => some (ps.foldl (fun a b => if better b.2 a.2 then b else a) p)

/-- The candidate a record is gathered into: the nearest; of two equally near, the lower slot (11 R196). -/
def SiteTable.candidate (t : SiteTable) (negative : Bool) (x : Nat) : Option (Nat × Site) :=
  firstBest (fun b a => decide (apart b.center x < apart a.center x))
    (t.occupied.filter fun p => p.2.near negative x)

/-- The weight of a site: its count, at most 255 (11 R196). -/
def Site.weight (v : Site) : Nat := min 255 v.count

/-- A record gathered into a site (11 R196). -/
def Site.gather (r : SiteRecord) (v : Site) : Site :=
  { v with
    center := (v.center * v.weight + r.distance) / (v.weight + 1)
    count := bump v.count
    lastSeq := r.sequence
    kind := moreSevere v.kind r.kind
    flashCount := if r.flash then bump v.flashCount else v.flashCount
    lastTrigger := if r.flash && r.trigger.isSome then r.trigger else v.lastTrigger }

/-- Two sites combined (11 R197). -/
def Site.combine (next : BitVec 32) (a b : Site) : Site :=
  let later := if earlierThan next a.lastSeq b.lastSeq then b else a
  let other := if earlierThan next a.lastSeq b.lastSeq then a else b
  { kind := moreSevere a.kind b.kind
    center := (a.center * a.weight + b.center * b.weight) / (a.weight + b.weight)
    count := satAdd 65535 a.count b.count
    firstSeq := if earlierThan next b.firstSeq a.firstSeq then b.firstSeq else a.firstSeq
    lastSeq := later.lastSeq
    flashCount := satAdd 65535 a.flashCount b.flashCount
    lastTrigger := if later.lastTrigger.isSome then later.lastTrigger else other.lastTrigger }

/-- A site as a change reports it. -/
def Site.change (slot : Nat) (v : Site) : SiteChange := ⟨slot, v.kind, v.count, v.center⟩

/-- A slot that empties, as its change reports it: count 0, with the kind and center held before (11 R199). -/
def Site.emptied (slot : Nat) (v : Site) : SiteChange := ⟨slot, v.kind, 0, v.center⟩

/-- Another site of the polarity within 150 mm of the updated one (11 R197). -/
def SiteTable.neighbour (t : SiteTable) (slot : Nat) (v : Site) : Option (Nat × Site) :=
  t.occupied.find? fun p => (p.1 != slot) && p.2.near v.kind.negative v.center

/-- Two sites brought within reach are combined into the lower slot, and the higher empties (11 R197, R199). -/
def SiteTable.combineSlots (t : SiteTable) (a b : Nat × Site) : SiteTable × List SiteChange :=
  let low := if a.1 < b.1 then a else b
  let high := if a.1 < b.1 then b else a
  let c := Site.combine t.nextSeq low.2 high.2
  ((t.setSlot low.1 (some c)).setSlot high.1 none, [c.change low.1, high.2.emptied high.1])

/-- A record is gathered into a slot, and a site brought within reach is combined with it (11 R196, R197). -/
def SiteTable.gatherInto (t : SiteTable) (r : SiteRecord) (slot : Nat) (v : Site) : SiteTable × List SiteChange :=
  let u := v.gather r
  let t' := t.setSlot slot (some u)
  match t'.neighbour slot u with
  | none => (t', [u.change slot])
  | some n => t'.combineSlots (slot, u) n

/-- The site a record founds (11 R198). -/
def SiteRecord.found (r : SiteRecord) : Site :=
  { kind := r.kind, center := r.distance, count := 1, firstSeq := r.sequence, lastSeq := r.sequence,
    flashCount := if r.flash then 1 else 0, lastTrigger := if r.flash then r.trigger else none }

/-- The lowest empty slot (11 R198). -/
def SiteTable.emptySlot (t : SiteTable) : Option Nat := (List.range 4).find? fun i => (t.site i).isNone

/-- The slot to evict: the lowest count; of equal counts, the least recently updated (11 R198). -/
def SiteTable.evictSlot (t : SiteTable) : Nat :=
  match firstBest (fun b a => decide (b.count < a.count) ||
      (decide (b.count = a.count) && earlierThan t.nextSeq b.lastSeq a.lastSeq)) t.occupied with
  | some p => p.1
  | none => 0

/-- A record with no candidate founds a site, by eviction where no slot is empty (11 R198). -/
def SiteTable.foundSite (t : SiteTable) (r : SiteRecord) : SiteTable × List SiteChange :=
  match t.emptySlot with
  | some i => (t.setSlot i (some r.found), [r.found.change i])
  | none =>
    let i := t.evictSlot
    ({ t.setSlot i (some r.found) with evictions := bump t.evictions }, [r.found.change i])

/-- A record is entered (11 R196). -/
def SiteTable.enter (t : SiteTable) (r : SiteRecord) : SiteTable × List SiteChange :=
  match t.candidate r.kind.negative r.distance with
  | some p => t.gatherInto r p.1 p.2
  | none => t.foundSite r

/-- The kinds of which a record is entered: NONE and NEAR are not (11 R196). -/
def ReflectionKind.siteKind : ReflectionKind → Option SiteKind
  | .open => some .open
  | .short => some .short
  | .stepUp => some .stepUp
  | .stepDown => some .stepDown
  | .near => .none
  | .none => .none

/-- The sequence of a drop moves on (11 R194). -/
def SiteTable.takeSequence (t : SiteTable) : SiteTable := { t with nextSeq := t.nextSeq + 1 }

/-- A record is made of a reflection: it takes the next sequence and is entered, unless its kind is NONE or NEAR or it
is marked crosstalk-risk (11 R194, R196). -/
def SiteTable.makeRecord (t : SiteTable) (flash crosstalk : Bool) (trigger : Option Half) (r : Reflection) :
    SiteTable × List SiteChange :=
  match r.kind.siteKind with
  | some k =>
    if crosstalk then (t.takeSequence, [])
    else t.takeSequence.enter ⟨k, r.distance, t.nextSeq, flash, trigger⟩
  | none => (t.takeSequence, [])

/-- CLEAR_SITES: every slot empties, and each that held a site is reported in slot order (11 R199, R201). -/
def SiteTable.clear (t : SiteTable) : SiteTable × List SiteChange :=
  ({ t with slots := List.replicate 4 none }, t.occupied.map fun p => p.2.emptied p.1)

/-- The SITE_CHANGED events of changes. -/
def siteEvent (d : Drop) (c : SiteChange) : Event := .siteChanged d c.slot c.kind c.count c.center

end Sys2Proof.Machine
end

