-- ==== Sys2Proof/Machine/LocatorOps.lean ====
section
/-! DEFINITION. The operations of the Line Locator (10): flash requests, the bundle phase, the ends of requests and
captures, and what an analysed capture hands on. -/

namespace Sys2Proof.Machine

/-! ## Access -/

/-- The entries of the pending queue, flash entries and request entries together (10 R175). -/
def Locator.queued (l : Locator) : Nat := l.flashes.length + l.requests.length

/-- The launcher is free while no capture is in flight (10 R174). -/
def Locator.free (l : Locator) : Bool := l.capture.isNone

/-- Change the active request. -/
def State.modActive (s : State) (f : ActiveRequest → ActiveRequest) : State :=
  s.modLocator fun l => { l with active := l.active.map f }

/-- The active request is in a phase. -/
def Locator.inPhase (l : Locator) (p : LocatePhase) : Bool :=
  match l.active with
  | some a => decide (a.phase = p)
  | none => false

/-- The bundle of a drop (10 R181). -/
def State.bundle (s : State) (d : Drop) : Nat := (s.dropCfg d).bundle

/-- The holder of a bundle 1 to 15. -/
def Locator.holder (l : Locator) (b : Nat) : Option Holder := if b = 0 then none else l.holders.getD (b - 1) none

/-- Set the holder of a bundle 1 to 15; no entry has another number. -/
def Locator.setHolder (b : Nat) (h : Option Holder) (l : Locator) : Locator :=
  if b = 0 then l else { l with holders := l.holders.set (b - 1) h }

/-- The station that holds a bundle is this one. -/
def State.ownHolds (s : State) (b : Nat) : Bool :=
  match s.locator.holder b with
  | some h => h.station.val == s.station
  | none => false

/-! ## Notes and events -/

/-- Whether a note is a LOCATE_START for a bundle. -/
def NoteBody.isStartFor (b : Nat) : NoteBody → Bool
  | .locateStart c _ => c == b
  | _ => false

/-- Whether a note is a LOCATE_END for a bundle. -/
def NoteBody.isEndFor (b : Nat) : NoteBody → Bool
  | .locateEnd c _ => c == b
  | _ => false

/-- A LOCATE_DONE is queued (10 R184). -/
def State.reportLocate (s : State) (d : Drop) (o : Origin) (crosstalk : Bool) (out : LocateOutcome)
    (r : Option Reflection) : State :=
  s.queueEvent (.locateDone d o crosstalk out r)

/-- A LOCATE_END is queued where the bundle is HELD and none for it is already queued (10 R182, R184). -/
def State.queueLocateEnd (s : State) (a : ActiveRequest) : State :=
  let b := s.bundle a.drop
  if a.bundleState = .held ∧ s.cli.queue.any (·.body.isEndFor b) = false then s.queueNote (.locateEnd b a.drop) else s

/-! ## The end of a request (10 R184 step 3) -/

/-- The active request ends: the END owed is queued, locate_hold is cleared, and a claim that waited is looked for
(10 R184, 03 R60). -/
def State.endRequest (s : State) (a : ActiveRequest) : State :=
  let s1 := (s.queueLocateEnd a).modDrop a.drop fun r => { r with locateHold := false }
  (s1.modLocator fun l => { l with active := none }).lookClaims

/-- A request that ends before its capture, with its LOCATE_DONE (10 R184). -/
def State.finishRequest (s : State) (a : ActiveRequest) (out : LocateOutcome) : State :=
  (s.endRequest a).reportLocate a.drop .request false out none

/-! ## The bundle phase (10 R181) -/

/-- A deferral: the ninth ends the request BUNDLE_BUSY (10 R181). -/
def State.defer (s : State) (a : ActiveRequest) : State :=
  if Config.maxDeferrals ≤ a.deferrals then
    (s.modLocator fun l => { l with bundleFailures := bump l.bundleFailures }).finishRequest a .bundleBusy
  else
    (s.modActive fun a => { a with deferrals := a.deferrals + 1 }).modLocator fun l =>
      { l with bundleDeferrals := bump l.bundleDeferrals }

/-- The request in BUNDLE looks at its bundle's entry: a LOCATE_START is queued, the request waits for its own END,
or it defers (10 R181). -/
def State.lookBundle (s : State) (a : ActiveRequest) : State :=
  let b := s.bundle a.drop
  if (s.locator.holder b).isNone then
    (s.queueNote (.locateStart b a.drop)).modActive fun a => { a with bundleState := .queued }
  else if s.ownHolds b then s
  else s.defer a

/-- The request goes to its bundle phase with a capture type: to LAUNCH at once for bundle 0 (10 R179, R181). -/
def State.enterBundle (s : State) (a : ActiveRequest) (type : CaptureType) : State :=
  if s.bundle a.drop = 0 then s.modActive fun a => { a with type := type, phase := .launch }
  else (s.modActive fun a => { a with type := type, phase := .bundle }).lookBundle { a with type := type, phase := .bundle }

/-- A bundle's entry has been left without a holder: a request that waits for it looks at it again (10 R181). -/
def State.holderGone (s : State) (b : Nat) : State :=
  match s.locator.active with
  | none => s
  | some a =>
    if a.phase = .bundle ∧ a.bundleState ≠ .queued ∧ s.bundle a.drop = b ∧ b ≠ 0 then s.lookBundle a else s

/-- A LOCATE_START from a station: it becomes the holder where the bundle has none (10 R180). -/
def State.startHeard (s : State) (st : Station) (b : Nat) : State :=
  if (s.locator.holder b).isNone then s.modLocator (Locator.setHolder b (some ⟨st, s.now⟩)) else s

/-- A LOCATE_END from a station: the holder's own clears the entry, and a waiting request looks again (10 R180,
R181). -/
def State.endHeard (s : State) (st : Station) (b : Nat) : State :=
  match s.locator.holder b with
  | none => s
  | some h =>
    if h.station = st then (s.modLocator (Locator.setHolder b none)).holderGone b else s

/-- The own LOCATE_END for a bundle has ended, by its echo or its drop: a hold that the request gave up in LAUNCH is
over (10 R182). -/
def State.ownEndOver (s : State) (b : Nat) : State :=
  s.modActive fun a =>
    if a.bundleState = .held ∧ (a.phase = .quiesce ∨ a.phase = .bundle) ∧ s.bundle a.drop = b then
      { a with bundleState := .none }
    else a

/-- A rival's LOCATE_START while the own one is QUEUED: the own note is withdrawn and the request defers (10 R181). -/
def State.rivalStart (s : State) (b : Nat) : State :=
  match s.locator.active with
  | none => s
  | some a =>
    if a.bundleState = .queued ∧ s.bundle a.drop = b then
      ((s.withdraw (·.isStartFor b)).modActive fun a => { a with bundleState := .none }).defer
        { a with bundleState := .none }
    else s

/-! ## Flash requests (10 R177) -/

/-- A flash of a drop waits in the queue or is in flight. -/
def Locator.flashing (l : Locator) (d : Drop) : Bool :=
  l.flashes.any (fun f => decide (f.drop = d)) ||
    (match l.capture with
      | some c => decide (c.type = .flash ∧ c.drop = d)
      | none => false)

/-- The DPU's flash request: ignored as a duplicate or for a full queue, or a flash entry joins (10 R177). -/
def State.requestFlash (s : State) (d : Drop) : State :=
  s.modLocator fun l =>
    if l.flashing d || decide (Config.locatorQueueSize ≤ l.queued) then
      { l with flashesIgnored := bump l.flashesIgnored }
    else { l with flashes := l.flashes ++ [⟨d, s.now, s.shots.lastRelayed.get d⟩] }

/-! ## The hold (10 R179, 01 R21) -/

/-- locate_hold is set on a drop; a sweep that runs on it is stopped with outcome LOCATE (10 R179, 09 R172). -/
def State.setHold (s : State) (d : Drop) : State :=
  let s1 := s.modDrop d fun r => { r with locateHold := true }
  if (s1.sweep d).running then s1.stopSweep d .locate else s1

/-- The drop is at rest for a quiet capture: READY, with no open part and neither axis HOMING or MOVING (10 R179). -/
def State.quiesced (s : State) (d : Drop) : Bool :=
  decide ((s.drops.get d).state = .ready) && !(s.dropHasOpenPart d) && !((s.lens.get d).busy)

/-! ## Captures (10 R183, R184) -/

/-- A capture as it takes the launcher. -/
def newCapture (type : CaptureType) (d : Drop) (k : Nat) (crosstalk : Bool) (trigger : Option Half) : Capture :=
  { type := type, drop := d, k := k, shotsDone := 0, sums := List.replicate Config.sampleCount 0,
    crosstalk := crosstalk, trigger := trigger, stopOwed := false }

/-- The crosstalk-risk of a flash: its bundle is not 0 and another station holds it (10 R178). -/
def State.crosstalkRisk (s : State) (d : Drop) : Bool :=
  let b := s.bundle d
  decide (b ≠ 0) && (s.locator.holder b).isSome && !(s.ownHolds b)

/-- The origin of a capture (10 R184). -/
def Capture.origin (c : Capture) : Origin := if c.type = .flash then .flash else .request

/-- The samples of a shot added to the sums (10 R183). -/
def Capture.addShot (samples : List (BitVec 10)) (c : Capture) : Capture :=
  { c with
    shotsDone := c.shotsDone + 1
    sums := c.sums.zipIdx.map fun p => p.1 + (samples.getD p.2 0).toNat }

/-- A shot of the capture is in progress: of a requested one in phase CAPTURE alone (10 R182, R183). -/
def Locator.firing (l : Locator) (c : Capture) : Bool := decide (c.type = .flash) || l.inPhase .capture

/-- The capture ends: the launcher is free, the drop is unhushed, a requested capture's request ends, and a
LOCATE_DONE is queued (10 R184). -/
def State.endCapture (s : State) (c : Capture) (out : LocateOutcome) (r : Option Reflection) : State :=
  let s1 := s.modLocator fun l => { l with capture := none, settle := .stopped }
  let s2 := s1.unhush c.drop
  let s3 :=
    match c.type, s2.locator.active with
    | .flash, _ => s2
    | .quiet, some a => s2.endRequest a
    | .dark, some a => s2.endRequest a
    | _, none => s2
  s3.reportLocate c.drop c.origin c.crosstalk out r

/-- The events of changes to a site table join the transmit queue, in order (11 R199). -/
def State.reportSites (s : State) (d : Drop) (cs : List SiteChange) : State :=
  cs.foldl (fun s c => s.queueEvent (siteEvent d c)) s

/-- A record is made of an analysed capture: it is entered, its changes are reported, and a flash's result goes to the
Shot Builder (11 R194). -/
def State.makeRecord (s : State) (c : Capture) (r : Reflection) : State :=
  let flash := decide (c.type = .flash)
  let m := (s.sites.get c.drop).makeRecord flash c.crosstalk c.trigger r
  let s1 := (s.modSites c.drop fun _ => m.1).reportSites c.drop m.2
  if flash then s1.breakResult c.drop c.trigger r else s1

/-- The last shot is complete: the capture is analysed and ends (10 R184). -/
def State.finishCapture (s : State) (c : Capture) : State :=
  let g := s.dropCfg c.drop
  match analyse (averaged c.k c.sums) g.threshold g.velocity g.calibration with
  | none => (s.modLocator fun l => { l with noLaunch := bump l.noLaunch }).endCapture c .noLaunch none
  | some r =>
    ((s.modLocator fun l => { l with analysed := bump l.analysed }).makeRecord c r).endCapture c .done (some r)

/-- The request of a drop that LOCATE_HALT finds in the queue. -/
def Locator.queuedRequest (l : Locator) (d : Drop) : Option RequestEntry :=
  l.requests.find? fun e => decide (e.drop = d)

/-- The active request is of a drop. -/
def Locator.activeOf (l : Locator) (d : Drop) : Option ActiveRequest :=
  match l.active with
  | some a => if a.drop = d then some a else none
  | none => none

end Sys2Proof.Machine
end

