-- ==== Sys2Proof/Machine/TriggerOps.lean ====
section
/-! DEFINITION. The operations of the Trigger Unit (04) and the opening of a shot (06 R108 to R114). -/

namespace Sys2Proof.Machine

/-! ## Opening a shot -/

/-- The involved drops, in drop order: enabled, and their group's bit set in the mask (06 R108). -/
def State.involved (s : State) (mask : Byte) : List Drop :=
  Drop.all.filter fun d => (s.dropCfg d).enabled && mask.getLsbD (s.dropCfg d).group

/-- Wakes, in drop order (06 R109, R112). -/
def State.wakeAll (s : State) (ds : List Drop) : State := ds.foldl State.wakeDrop s

/-- The flags of a part at its opening. -/
def openingFlags (moving : Bool) : PartFlags :=
  { truncated := false, lengthError := false, sequence := false, overlong := false, frameCut := false,
    moving := moving }

/-- A part that is closed from its opening (06 R112). -/
def closedPart (d : Drop) (c : ClosedStatus) (recorded : Option DropState) : Part :=
  { drop := d, status := .closed c, recorded := recorded, flags := openingFlags false, focus := none, iris := none,
    words := 0, lost := 0, chain := [], score := none, brk := none, nextIndex := none, sums := none }

/-- A PENDING part, with its snapshots, next index 0 and, where scoring is enabled, its sum record (06 R112 to R114,
09 R163). -/
def State.pendingPart (s : State) (d : Drop) : Part :=
  let l := s.lens.get d
  { drop := d, status := .pending, recorded := none, flags := openingFlags l.moving, focus := l.focus.snapshot,
    iris := l.iris.snapshot, words := 0, lost := 0, chain := [], score := none, brk := none, nextIndex := some 0,
    sums := if (s.dropCfg d).scoring then some startSums else none }

/-- The part of an involved drop at the trigger: the first row of 06 R112 that holds. -/
def State.openingPart (s : State) (d : Drop) : Part :=
  let r := s.drops.get d
  if r.state = .hushed then closedPart d .locating none
  else if r.locateHold then closedPart d .locating none
  else if r.state = .ready then s.pendingPart d
  else if r.state = .napping then closedPart d .asleep none
  else closedPart d .notReady (some r.state)

/-- The trigger mark of a PENDING part is relayed, and the nap timer, if it runs, starts again (06 R113). -/
def State.relay (s : State) (t : Half) (d : Drop) : State :=
  ((s.handMark d (.trigger (triggerTag t))).setRelayed d (some t)).modDrop d fun r =>
    { r with napTimer := if r.napTimer.isRunning then s.napTimer d else .stopped }

/-- A trigger that involves a drop and opens no shot: it is counted, and napping drops are woken (06 R109, R110). -/
def State.skipShot (s : State) (involved : List Drop) (duplicate : Bool) : State :=
  (s.modShots fun b =>
    { b with
      skipped := bump b.skipped
      shotsSkipped := bump b.shotsSkipped
      duplicates := if duplicate then bump b.duplicates else b.duplicates }).wakeAll involved

/-- The entry a trigger opens: OPEN with its age running if a part is PENDING, otherwise CLOSED at once (06 R111). -/
def State.newEntry (s : State) (t : Half) (mask : Byte) (src : Station) (parts : List Part) : Entry :=
  let anyOpen := parts.any (·.status.isOpen)
  let timeoutMs := match s.cfg with | some c => c.station.shotTimeoutMs | none => 0
  { trigger := t, origin := src, mask := mask, state := if anyOpen then .open else .closed,
    age := if anyOpen then s.timer (timeoutMs * 1000) else .stopped, skipped := s.shots.skipped, parts := parts }

/-- A new entry joins the tail of the table (06 R111). -/
def Shots.add (b : Shots) (e : Entry) : Shots :=
  { b with table := b.table ++ [e], skipped := 0, opened := bumpLong b.opened }

/-- What one part asks for when its entry opens: a PENDING part has its mark relayed; any other part goes through
the steps of a close, of which only the offer to a sweep acts (06 R113, R121). -/
def State.startPart (t : Half) (s : State) (p : Part) : State :=
  if p.status.isOpen then s.relay t p.drop else s.offerPart p.drop p

/-- A trigger opens a shot (06 R111 to R114); the Uplink Sender decides again where the entry is the first of the
table or CLOSED at once (07 R129). -/
def State.openShot (s : State) (t : Half) (mask : Byte) (src : Station) (involved : List Drop) : State :=
  let parts := involved.map s.openingPart
  let s1 := s.modShots (·.add (s.newEntry t mask src parts))
  let s2 := parts.foldl (State.startPart t) s1
  let s3 := s2.wakeAll involved
  if s.shots.table.isEmpty || !(parts.any (·.status.isOpen)) then s3.boundaryDecision else s3

/-- A trigger is handed to the Shot Builder (06 R108). -/
def State.handTrigger (s : State) (t : Half) (mask : Byte) (src : Station) : State :=
  let involved := s.involved mask
  if involved = [] then s
  else if Config.shotTableSize ≤ s.shots.table.length then s.skipShot involved false
  else if (s.findEntry t).isSome then s.skipShot involved true
  else s.openShot t mask src involved

/-! ## The Trigger Unit -/

/-- A TRIGGER note is numbered (04 R77). -/
def TriggerUnit.number (u : TriggerUnit) (n : Half) : TriggerUnit :=
  { u with
    expected := n + 1
    synced := true
    slipCount := if u.synced && decide (n ≠ u.expected) then bump u.slipCount else u.slipCount
    triggerCount := bumpLong u.triggerCount }

/-- A TRIGGER note is taken: numbered, reported if it slipped, and handed to the Shot Builder (04 R77 to R79). -/
def State.takeTrigger (s : State) (n : Half) (mask : Byte) (src : Station) : State :=
  let slipped := s.trig.synced && decide (n ≠ s.trig.expected)
  let s1 := s.modTrig (·.number n)
  let s2 := if slipped then s1.queueEvent (.slip s.trig.expected n) else s1
  s2.handTrigger n mask src

/-- The pending note ends (04 R76). -/
def TriggerUnit.endPending (u : TriggerUnit) : TriggerUnit := { u with pendingMask := none }

/-- An edge is withheld while a pending note exists, or while holds are respected and some hold flag is on
(04 R74). -/
def State.withholds (s : State) (c : StationCfg) : Bool := s.trig.pendingMask.isSome || (c.respectHolds && s.someHold)

/-- A rise is taken as an edge (04 R74): it is acted on only at an origin hub after loading. -/
def State.takeEdge (s : State) : State :=
  match s.cfg with
  | none => s
  | some c =>
    if !s.isOrigin then s
    else
      let s1 := s.modTrig fun u => { u with edgeCount := bumpLong u.edgeCount }
      if s.withholds c.station then s1.modTrig fun u => { u with withheldCount := bump u.withheldCount }
      else
        (s1.queueNote (.trigger none c.station.localMask)).modTrig fun u =>
          { u with pendingMask := some c.station.localMask }

/-- The qualify time in microseconds; until loading ends it has no value and is a free one (04 R72, log 7). -/
def State.qualifyTime (s : State) : Nat :=
  match s.cfg with
  | some c => c.station.qualifyUs
  | none => (Config.unloadedValue s.draws).toNat

end Sys2Proof.Machine
end

