-- ==== Sys2Proof/Machine/Line.lean ====
section
/-! DEFINITION. The cell line's own commands (02): NOTE_START, ARBITRATION_LOSS, SEND_ERROR, NOTE_ECHO,
NOTE_DISCARDED, OWN_NUMBER_HEARD, NOTE_HEARD, PRESENCE_RECEIVED, PRESENCE_TIMER_EXPIRY, VIEW_AGE_EXPIRY. -/

namespace Sys2Proof.Machine

/-! ## Starting a note (02 R33, R40, R42, R45) -/

/-- The lowest class in a queue. -/
def lowestClass (q : List QNote) : Nat := (q.map fun n => n.body.cls).foldl min 3

/-- The head is the first joined of the lowest class (02 R40); it goes on the line with its fields filled. -/
def State.startHead (s : State) : List QNote → List QNote :=
  modifyFirst (fun n => n.body.cls == lowestClass s.cli.queue) fun n =>
    { n with body := s.fillNote n.body, onLine := true }

/-- A note may start: the station is not stray, the start-up wait is over and the loader has ended, the queue holds a
note, and none is on the line (02 R33, R44, R45). -/
def State.mayStart (s : State) : Bool :=
  !s.stray && decide (s.cli.startWait = .stopped) && decide (s.loader ≠ .loading) && !s.cli.queue.isEmpty &&
    s.onLine.isNone

/-- The bits of the note on the line. -/
def State.driveNote (s : State) : State :=
  match s.onLine with
  | some n => s.modCli fun c => { c with drive := (frameOf s.station n.body).lineBits, waitGaps := 1 }
  | none => s

/-- NOTE_START (02 R33, R42). -/
def execNoteStart (s : State) : Host.Outcome State Fault Refusal :=
  .next <| if s.mayStart then (s.modCli fun c => { c with queue := s.startHead c.queue }).driveNote else s

/-- The sender has lost: it stops driving, its note keeps its place, and the loss is counted (02 R33). -/
def State.loseArbitration (s : State) : State :=
  (s.modCli fun c => { c.keepOnLine with drive := [] }).modCounters fun c =>
    { c with arbitrationLosses := bump c.arbitrationLosses }

/-- ARBITRATION_LOSS (02 R33). -/
def execArbitrationLoss (s : State) : Host.Outcome State Fault Refusal :=
  .next <| if s.onLine.isSome then s.loseArbitration else s

/-! ## Send errors (02 R38, R39) -/

/-- The class of a send error, by its first differing bit (02 R38). An inserted bit that differs counts in the field
that the command names for it: R31 gives an inserted bit to no field, while the worked sequence of section 2.6 counts
one inside the payload (DESIGN CHOICE, log 38). -/
def errorClass (e : BitError) : ErrorClass :=
  if !e.sentDominant && !e.heardAbort && (e.field == .kind || e.field == .length || e.field == .payload) then
    .contention
  else .corrupt

/-- A recessive bit read as dominant in the arbitration field is a loss and no send error (02 R33, R38). -/
def isArbitrationLoss (e : BitError) : Bool := e.field == .arbitration && !e.sentDominant

/-- The block that queued a note is told that it was dropped (02 R39; 03 R66; 04 R76; 10 R180, R181). -/
def State.tellDropped (s : State) : NoteBody → State
  | .trigger _ _ => s.modTrig TriggerUnit.endPending
  | .claim d _ _ =>
    let s1 := s.modBudget fun b => { b with claimsDropped := bump b.claimsDropped }
    (if (s.drops.get d).state = .claiming then s1.waitRetry d else s1).lookClaims
  | .release _ _ _ => s
  | .locateStart b _ =>
    match s.locator.active with
    | some a => if a.bundleState = .queued ∧ s.bundle a.drop = b then s.finishRequest a .noLine else s
    | none => s
  | .locateEnd b _ =>
    let s1 := s.ownEndOver b
    if s1.ownHolds b then (s1.modLocator (Locator.setHolder b none)).holderGone b else s1
  | .answer _ => s
  | .presence _ => s
  | .event _ => s

/-- A note with its eighth failure leaves the queue and is counted; eight contentions suspect a duplicate
(02 R39). -/
def State.dropNote (s : State) (failures : List ErrorClass) : State :=
  (s.modCli fun c => { c with queue := c.queue.eraseP (·.onLine), waitGaps := 1 }).modCounters fun c =>
    { c with
      notesDropped := bump c.notesDropped
      duplicateSuspected :=
        if failures.all (· == .contention) then bump c.duplicateSuspected else c.duplicateSuspected }

/-- A note with fewer failures keeps its place; the next start waits for the station number + 1 gaps (02 R39). -/
def State.keepNote (s : State) (failures : List ErrorClass) : State :=
  s.modCli fun c =>
    { c with
      queue := modifyFirst (·.onLine) (fun n => { n with onLine := false, failures := failures }) c.queue
      waitGaps := s.station + 1 }

/-- The sender stops its note, drives an abort run and counts the error (02 R38). -/
def State.abortNote (s : State) : State :=
  (s.modCli fun c => { c with drive := abortRun }).modCounters fun c => { c with sendErrors := bump c.sendErrors }

/-- SEND_ERROR (02 R38, R39). -/
def execSendError (e : BitError) (s : State) : Host.Outcome State Fault Refusal :=
  .next <|
    match s.onLine with
    | none => s
    | some n =>
      let failures := n.failures ++ [errorClass e]
      if isArbitrationLoss e then s.loseArbitration
      else if failures.length < Config.maxAttempts then s.abortNote.keepNote failures
      else (s.abortNote.dropNote failures).tellDropped n.body

/-! ## Echoes and receipts -/

/-- Whether a note's echo is delivered to no block: PRESENCE, ANSWER, EVENT (02 R36). -/
def NoteBody.echoesToNone : NoteBody → Bool
  | .presence _ | .answer _ | .event _ => true
  | .trigger _ _ | .claim _ _ _ | .release _ _ _ | .locateStart _ _ | .locateEnd _ _ => false

/-- NOTE_ECHO: the own PRESENCE, ANSWER or EVENT completes (02 R35). -/
def execNoteEcho (s : State) : Host.Outcome State Fault Refusal :=
  .next <|
    match s.onLine with
    | some n => if n.body.echoesToNone then s.echoed else s
    | none => s

/-- The counter of a failed check (02 R34). -/
def countFailure (f : ReceiveFailure) (c : LineCounters) : LineCounters :=
  match f with
  | .dominantRun => { c with abortsHeard := bump c.abortsHeard }
  | .recessiveRun | .crc | .endField => { c with receiveErrors := bump c.receiveErrors }
  | .lengthAboveEight | .unknownKind | .lengthNotAllowed | .stationFifteen =>
    { c with formatErrors := bump c.formatErrors }

/-- NOTE_DISCARDED (02 R34). -/
def execNoteDiscarded (f : ReceiveFailure) (s : State) : Host.Outcome State Fault Refusal :=
  .next (s.modCounters (countFailure f))

/-- OWN_NUMBER_HEARD (02 R37). -/
def execOwnNumberHeard (s : State) : Host.Outcome State Fault Refusal := .next s.ownNumber

/-- NOTE_HEARD: an ANSWER or EVENT of another station, delivered to no block (02 R34, R36). -/
def execNoteHeard (src : Station) (s : State) : Host.Outcome State Fault Refusal := .next (s.hear src id)

/-! ## PRESENCE and the view (02 R49 to R51) -/

/-- A view entry takes a PRESENCE: its held value and its hold flag (02 R50, 03 R67). -/
def State.takePresence (s : State) (src : Station) (p : PresenceFields) : State :=
  let s1 := s.refreshView src p.held.toNat
  s1.setView src { s1.viewEntry src with hold := p.hold }

/-- PRESENCE_RECEIVED (02 R50). -/
def execPresenceReceived (src : Station) (p : PresenceFields) (s : State) : Host.Outcome State Fault Refusal :=
  .next (s.hear src fun s => s.takePresence src p)

/-- PRESENCE_TIMER_EXPIRY (02 R49). -/
def execPresenceTimerExpiry (s : State) : Host.Outcome State Fault Refusal :=
  .next <| if s.cli.presenceTimer.isRunning then s.announce else s

/-- VIEW_AGE_EXPIRY: a present entry becomes absent (02 R51). -/
def execViewAgeExpiry (st : Station) (s : State) : Host.Outcome State Fault Refusal :=
  .next <| if (s.viewEntry st).present then s.setView st absentView else s

end Sys2Proof.Machine
end

