-- ==== Sys2Proof/Machine/Link.lean ====
section
/-! DEFINITION. The Link Port's commands (01 R14, R15): LOCK_GAIN, LOCK_LOSS, LOCK_TIMEOUT, BEAT, MARK_SENT. -/

namespace Sys2Proof.Machine

/-- LOCK_GAIN: the camera of a powered drop is recovered, and the beat run is 0 (01 R14). -/
def execLockGain (d : Drop) (s : State) : Host.Outcome State Fault Refusal :=
  .next <|
    if (s.drops.get d).state.powered ∧ (s.links.get d).locked = false then
      (s.modLink d fun l => { l with locked := true, beatRun := 0 }).heardItem d
    else s

/-! ## Loss of lock (01 R17; 05 R100; 06 R119; 08 R145; 10 R177) -/

/-- The drop record of a READY drop that goes LOST (01 R17). -/
def DropRec.lose (relock : Timer) (r : DropRec) : DropRec :=
  { r with
    state := .lost
    lockLossCount := bump r.lockLossCount
    stableTimer := .stopped
    napTimer := .stopped
    relockWindow := relock }

/-- The Fragment Receiver and the closing of the drop's open parts take the loss in the order the command gives
(05 R100, 06 R119). -/
def State.closeLost (s : State) (d : Drop) : LossOrder → State
  | .receiverFirst => (s.endFragment d).closeOpenParts d .linkLost
  | .closingFirst => (s.closeOpenParts d .linkLost).endFragment d

/-- A READY drop loses lock: it goes LOST, its open parts close, a flash is asked for, and the lens has left READY
(01 R17, log 20). -/
def State.readyLost (s : State) (d : Drop) (order : LossOrder) : State :=
  let s1 := s.modDrop d (·.lose (s.timer Config.relockWindowUs))
  ((s1.closeLost d order).requestFlash d).lensLeaveReady d

/-- A LOCKED port loses lock (01 R14): in READY the drop goes LOST; in every other state only the receive context
takes it (05 R100, R102). -/
def State.loseLock (s : State) (d : Drop) (order : LossOrder) : State :=
  let s1 := s.modLink d LinkPort.unlock
  if (s.drops.get d).state = .ready then s1.readyLost d order else s1.endFragment d

/-- LOCK_LOSS (01 R14, R17). -/
def execLockLoss (d : Drop) (order : LossOrder) (s : State) : Host.Outcome State Fault Refusal :=
  .next <| if (s.links.get d).locked then s.loseLock d order else s

/-- LOCK_TIMEOUT: 4 ms with lock held and no item (01 R14). -/
def execLockTimeout (d : Drop) (order : LossOrder) (s : State) : Host.Outcome State Fault Refusal :=
  .next <| if (s.links.get d).locked ∧ (s.links.get d).silence.isRunning then s.loseLock d order else s

/-! ## Beats (01 R14, R16, R18) -/

/-- The sixth beat in lock takes a WARMING drop, or a LOST one with its relock window running, to READY (01 R16,
R18). -/
def State.beatSeen (s : State) (d : Drop) : State :=
  let r := s.drops.get d
  if 6 ≤ (s.links.get d).beatRun then
    if r.state = .warming then s.enterReady d
    else if r.state = .lost ∧ r.relockWindow.isRunning then
      (s.modDrop d fun r => { r with dropoutCount := bump r.dropoutCount }).enterReady d
    else s
  else s

/-- BEAT (01 R14; 05 R92, R100, R102). -/
def execBeat (d : Drop) (s : State) : Host.Outcome State Fault Refusal :=
  .next <|
    if (s.links.get d).locked then
      (((s.heardItem d).modLink d fun l => { l with beatRun := satAdd 255 l.beatRun 1 }).endFragment d).beatSeen d
    else s

/-! ## Marks (01 R15) -/

/-- What a sent mark starts: the acknowledgement timer of the burst that is still in the slot (08 R143), or the settle
wait of the quiet capture (10 R182). -/
def State.markStarts (s : State) (d : Drop) : Mark → State
  | .trigger _ => s
  | .unhush => s
  | .hush =>
    match s.locator.activeOf d with
    | some a =>
      if a.phase = .settle then s.modLocator fun l => { l with settle := s.timer Config.settleUs } else s
    | none => s
  | .burst _ serial =>
    match (s.lens.get d).slot with
    | some p =>
      if p.2 = serial then s.modLens d fun l => { l with ackTimer := s.timer Config.ackTimerUs } else s
    | none => s

/-- MARK_SENT (01 R15): the transmitter's mark has been sent, and the next begins. -/
def execMarkSent (d : Drop) (s : State) : Host.Outcome State Fault Refusal :=
  .next <|
    match (s.links.get d).sending with
    | some m => (s.markStarts d m.mark).modLink d LinkPort.next
    | none => s

end Sys2Proof.Machine
end

