-- ==== Sys2Proof/Machine/Trigger.lean ====
section
/-! DEFINITION. The Trigger Unit's commands (04): TRIGGER_NOTE, TRIGGER_INPUT_RISE, TRIGGER_INPUT_FALL,
QUALIFY_TIMER_EXPIRY; and the Shot Builder's SHOT_TIMEOUT (06 R118). -/

namespace Sys2Proof.Machine

/-- The own station number as a note carries it; a stray station sends none. -/
def State.ownStation (s : State) : Option Station :=
  if h : s.station < 15 then some ⟨s.station, h⟩ else none

/-- The echo of the own TRIGGER: the pending note ends and the trigger is taken (04 R76). -/
def State.triggerEcho (s : State) : State :=
  match s.onLine.map QNote.body, s.ownStation with
  | some (.trigger (some n) mask), some st => (s.echoed.modTrig TriggerUnit.endPending).takeTrigger n mask st
  | _, _ => s

/-- TRIGGER_NOTE (04 R77). -/
def execTriggerNote (note : TriggerArrival) (s : State) : Host.Outcome State Fault Refusal :=
  .next <|
    match note with
    | .received src n mask => s.hear src fun s => s.takeTrigger n mask src
    | .echo => s.triggerEcho

/-- The input level after a rise in LOW: with a qualify time of 0 the rise is an edge at once, otherwise the qualify
timer starts (04 R73). -/
def State.riseSeen (s : State) : State :=
  let q := s.qualifyTime
  let s1 := match s.cfg with | some _ => s | none => { s with draws := s.draws + 1 }
  if q = 0 then (s1.modTrig fun u => { u with inputLevel := .high }).takeEdge
  else s1.modTrig fun u => { u with inputLevel := .qualifying, qualifyTimer := s.timer q }

/-- TRIGGER_INPUT_RISE (04 R73). -/
def execTriggerInputRise (s : State) : Host.Outcome State Fault Refusal :=
  .next <| if s.trig.inputLevel = .low then s.riseSeen else s

/-- TRIGGER_INPUT_FALL (04 R73). -/
def execTriggerInputFall (s : State) : Host.Outcome State Fault Refusal :=
  .next (s.modTrig fun u => { u with inputLevel := .low, qualifyTimer := .stopped })

/-- QUALIFY_TIMER_EXPIRY (04 R73). -/
def execQualifyTimerExpiry (s : State) : Host.Outcome State Fault Refusal :=
  .next <|
    if s.trig.inputLevel = .qualifying ∧ s.trig.qualifyTimer.isRunning then
      (s.modTrig fun u => { u with inputLevel := .high, qualifyTimer := .stopped }).takeEdge
    else s

/-- SHOT_TIMEOUT (06 R118). -/
def execShotTimeout (t : Half) (s : State) : Host.Outcome State Fault Refusal :=
  .next <|
    match s.findEntry t with
    | some e => if e.state = .open ∧ e.age.isRunning then s.timeoutEntry t else s
    | none => s

end Sys2Proof.Machine
end

