-- ==== Sys2Proof/Machine/Locator.lean ====
section
/-! DEFINITION. The Line Locator's commands (10): LOCATE_START_NOTE, LOCATE_END_NOTE, LOCATE, LOCATE_HALT,
FLASH_START, FLASH_STALE, REQUEST_ACTIVATE, QUIESCE_END, HOLDER_EXPIRY, LAUNCH_START, SETTLE_END, SHOT_COMPLETE; and
the Reflection Analyser's QUERY_SITES and CLEAR_SITES (11). -/

namespace Sys2Proof.Machine

/-! ## Bundle notes (10 R180, R181) -/

/-- The own LOCATE_START is echoed: this station becomes the holder, and the request is HELD and goes to LAUNCH
(10 R180, R181). -/
def State.ownStart (s : State) (st : Station) (b : Nat) : State :=
  let s1 := s.startHeard st b
  match s1.locator.active with
  | some a =>
    if a.bundleState = .queued ∧ s.bundle a.drop = b then
      s1.modActive fun a => { a with bundleState := .held, phase := .launch }
    else s1
  | none => s1

/-- The echo of the own LOCATE_START. -/
def State.startEcho (s : State) : State :=
  match s.onLine.map QNote.body, s.ownStation with
  | some (.locateStart b _), some st => s.echoed.ownStart st b
  | _, _ => s

/-- LOCATE_START_NOTE (10 R180, R181). -/
def execLocateStartNote (note : BundleArrival) (s : State) : Host.Outcome State Fault Refusal :=
  .next <|
    match note with
    | .received src b _ => s.hear src fun s => (s.startHeard src b).rivalStart b
    | .echo => s.startEcho

/-- The echo of the own LOCATE_END. -/
def State.endEcho (s : State) : State :=
  match s.onLine.map QNote.body, s.ownStation with
  | some (.locateEnd b _), some st => (s.echoed.ownEndOver b).endHeard st b
  | _, _ => s

/-- LOCATE_END_NOTE (10 R180). -/
def execLocateEndNote (note : BundleArrival) (s : State) : Host.Outcome State Fault Refusal :=
  .next <|
    match note with
    | .received src b _ => s.hear src fun s => s.endHeard src b
    | .echo => s.endEcho

/-- HOLDER_EXPIRY: 50 ms after its START the holder is forgotten (10 R180). -/
def execHolderExpiry (b : Nat) (s : State) : Host.Outcome State Fault Refusal :=
  .next <|
    if (s.locator.holder b).isSome then (s.modLocator (Locator.setHolder b none)).holderGone b else s

/-! ## LOCATE and LOCATE_HALT (10 R176, R186) -/

/-- A request entry joins the tail of the queue (10 R176). -/
def Locator.addRequest (e : RequestEntry) (l : Locator) : Locator :=
  { l with requests := l.requests ++ [e], requestsTaken := bump l.requestsTaken }

/-- LOCATE on a drop (10 R176). -/
def State.locateDrop (s : State) (r : Request) (d : Drop) : State :=
  let code := RequestKind.locate.value
  let k := min 6 (argOne r 0)
  if !(s.dropCfg d).enabled then s.answer code r .refusedState .noValue
  else if (s.locator.queuedRequest d).isSome || (s.locator.activeOf d).isSome then
    s.answer code r .alreadyQueued .noValue
  else if Config.locatorQueueSize ≤ s.locator.queued then s.answer code r .queueFull .noValue
  else
    (s.modLocator (Locator.addRequest ⟨d, k, r.src⟩)).answer code r
      (if k = argOne r 0 then .accepted else .clamped) (.count (s.locator.queued + 1))

/-- LOCATE (10 R176). -/
def execLocate (r : Request) (s : State) : Host.Outcome State Fault Refusal :=
  .next (s.takeDropRequest .locate .controller r fun d s => s.locateDrop r d)

/-- A halt is counted (10 R186). -/
def State.countHalt (s : State) : State := s.modLocator fun l => { l with halts := bump l.halts }

/-- A request entry is halted in the queue (10 R186). -/
def State.haltQueued (s : State) (d : Drop) : State :=
  (s.modLocator fun l => { l with requests := l.requests.filter fun e => decide (e.drop ≠ d) }).reportLocate d
    .request false .halted none

/-- A QUEUED LOCATE_START is withdrawn (10 R186). -/
def State.withdrawStart (s : State) (a : ActiveRequest) : State :=
  if a.bundleState = .queued then s.withdraw (·.isStartFor (s.bundle a.drop)) else s

/-- The active request is halted, by its phase (10 R186). In CAPTURE the request's halt owed is set with the capture's
stop owed: R174 lists it and no rule sets it (DEDUCED, log 40). -/
def State.haltActive (s : State) (a : ActiveRequest) : State × AnswerCode :=
  match a.phase with
  | .quiesce | .bundle | .launch => ((s.withdrawStart a).finishRequest a .halted, .done)
  | .settle =>
    match s.locator.capture with
    | some c => (s.endCapture c .halted none, .done)
    | none => (s.finishRequest a .halted, .done)
  | .capture =>
    ((s.modLocator fun l =>
      { l with
        capture := l.capture.map fun c => { c with stopOwed := true }
        active := l.active.map fun a => { a with haltOwed := true } }), .accepted)

/-- LOCATE_HALT on a drop (10 R186): the stop first, then the answer (log 22). -/
def State.locateHaltDrop (s : State) (r : Request) (d : Drop) : State :=
  let code := RequestKind.locateHalt.value
  match s.locator.queuedRequest d, s.locator.activeOf d with
  | none, none => s.answer code r .done .noValue
  | some e, _ =>
    if e.requester = r.src ∨ s.isService r.src then (s.countHalt.haltQueued d).answer code r .done .noValue
    else s.answer code r .refusedRank .noValue
  | none, some a =>
    if a.requester = r.src ∨ s.isService r.src then
      (s.countHalt.haltActive a).1.answer code r (s.countHalt.haltActive a).2 .noValue
    else s.answer code r .refusedRank .noValue

/-- LOCATE_HALT (10 R186). -/
def execLocateHalt (r : Request) (s : State) : Host.Outcome State Fault Refusal :=
  .next (s.takeDropRequest .locateHalt .controller r fun d s => s.locateHaltDrop r d)

/-! ## Flashes (10 R177, R178) -/

/-- A flash entry takes the launcher (10 R178). -/
def State.startFlash (s : State) (f : FlashEntry) (rest : List FlashEntry) : State :=
  s.modLocator fun l =>
    { l with
      flashes := rest
      capture := some (newCapture .flash f.drop 0 (s.crosstalkRisk f.drop) f.trigger)
      flashesRun := bump l.flashesRun }

/-- FLASH_START: the launcher is free and no active request is in LAUNCH (10 R175, R178). -/
def execFlashStart (s : State) : Host.Outcome State Fault Refusal :=
  .next <|
    match s.locator.flashes with
    | f :: rest => if s.locator.free && !(s.locator.inPhase .launch) then s.startFlash f rest else s
    | [] => s

/-- FLASH_STALE (10 R177). -/
def execFlashStale (d : Drop) (s : State) : Host.Outcome State Fault Refusal :=
  .next <|
    if s.locator.flashes.any fun f => decide (f.drop = d) then
      s.modLocator fun l =>
        { l with
          flashes := l.flashes.eraseP fun f => decide (f.drop = d)
          flashesStale := bump l.flashesStale }
    else s

/-! ## The phases of a request (10 R179, R182) -/

/-- A request entry as it becomes active (10 R179). -/
def RequestEntry.activate (type : CaptureType) (e : RequestEntry) : ActiveRequest :=
  { drop := e.drop, k := e.k, requester := e.requester, phase := .quiesce, type := type, bundleState := .none,
    deferrals := 0, haltOwed := false }

/-- The first request entry becomes the active request, with locate_hold set: on a READY drop in QUIESCE, on an
unpowered one straight in its bundle phase (10 R179). -/
def State.activate (s : State) (e : RequestEntry) (rest : List RequestEntry) : State :=
  let ready := s.isReady e.drop
  let a := e.activate (if ready then .quiet else .dark)
  let s1 := (s.modLocator fun l => { l with requests := rest, active := some a }).setHold e.drop
  if ready then s1 else s1.enterBundle a .dark

/-- REQUEST_ACTIVATE: no request is active and the first entry's drop is READY or unpowered (10 R175, R179). -/
def execRequestActivate (s : State) : Host.Outcome State Fault Refusal :=
  .next <|
    match s.locator.active, s.locator.requests with
    | none, e :: rest =>
      let st := (s.drops.get e.drop).state
      if st = .ready ∨ st.powered = false then s.activate e rest else s
    | _, _ => s

/-- QUIESCE_END (10 R179). -/
def execQuiesceEnd (s : State) : Host.Outcome State Fault Refusal :=
  .next <|
    match s.locator.active with
    | some a =>
      if a.phase ≠ .quiesce then s
      else if s.quiesced a.drop then s.enterBundle a .quiet
      else if (s.drops.get a.drop).state.powered then s
      else s.enterBundle a .dark
    | none => s

/-- A READY drop is hushed, and the quiet capture takes the launcher (10 R182). -/
def State.launchQuiet (s : State) (a : ActiveRequest) : State :=
  (s.hush a.drop).modLocator fun l =>
    { l with
      capture := some (newCapture .quiet a.drop a.k false none)
      active := l.active.map fun a => { a with phase := .settle } }

/-- The hush was not taken: the END owed is queued and the request returns to QUIESCE (10 R182). -/
def State.launchLost (s : State) (a : ActiveRequest) : State :=
  (s.queueLocateEnd a).modActive fun a => { a with phase := .quiesce }

/-- A dark capture takes the launcher (10 R182, R185). -/
def State.launchDark (s : State) (a : ActiveRequest) : State :=
  s.modLocator fun l =>
    { l with
      capture := some (newCapture .dark a.drop a.k false none)
      active := l.active.map fun a => { a with type := .dark, phase := .capture } }

/-- The request in LAUNCH looks at its drop (10 R182). -/
def State.launch (s : State) (a : ActiveRequest) : State :=
  let st := (s.drops.get a.drop).state
  if st.powered = false then s.launchDark a
  else if a.type = .quiet ∧ st = .ready then s.launchQuiet a
  else if a.type = .quiet ∧ st = .lost then s.launchLost a
  else s

/-- LAUNCH_START: in LAUNCH with the launcher free (10 R182). -/
def execLaunchStart (s : State) : Host.Outcome State Fault Refusal :=
  .next <|
    match s.locator.active with
    | some a => if a.phase = .launch ∧ s.locator.free then s.launch a else s
    | none => s

/-- The settle wait may end: it runs, or the HUSH was cut off with the power and the capture runs on as DARK
(10 R182, R183; log 23). -/
def Locator.settled (l : Locator) : Bool :=
  l.settle.isRunning || (match l.capture with | some c => decide (c.type = .dark) | none => false)

/-- SETTLE_END: the first shot is fired (10 R182). -/
def execSettleEnd (s : State) : Host.Outcome State Fault Refusal :=
  .next <|
    if s.locator.inPhase .settle && s.locator.settled then
      s.modLocator fun l =>
        { l with settle := .stopped, active := l.active.map fun a => { a with phase := .capture } }
    else s

/-! ## Shots (10 R183, R184) -/

/-- A shot of the capture has completed: the capture stops, goes on, or ends (10 R183, R184). -/
def State.shotDone (s : State) (c : Capture) : State :=
  if c.stopOwed then s.endCapture c .halted none
  else if 2 ^ c.k ≤ c.shotsDone then s.finishCapture c
  else s.modLocator fun l => { l with capture := some c }

/-- SHOT_COMPLETE (10 R183). -/
def execShotComplete (samples : List (BitVec 10)) (s : State) : Host.Outcome State Fault Refusal :=
  .next <|
    match s.locator.capture with
    | some c => if s.locator.firing c then s.shotDone (c.addShot samples) else s
    | none => s

/-! ## QUERY_SITES and CLEAR_SITES (11 R200, R201) -/

/-- The fields a selector of QUERY_SITES reads of one slot (11 R200). -/
def siteValue (sel : Nat) (p : Nat × Site) : AnswerValue :=
  match sel with
  | 0 => .sitePlace p.1 p.2.kind p.2.center
  | 1 => .siteCounts p.2.count p.2.flashCount
  | 2 => .siteSequence p.2.firstSeq
  | 3 => .siteSequence p.2.lastSeq
  | _ => .siteTrigger p.1 p.2.lastTrigger

/-- QUERY_SITES on a drop (11 R200). -/
def State.querySitesDrop (s : State) (r : Request) (d : Drop) : State :=
  let k := RequestKind.querySites.value
  let sel := argOne r 0
  if 4 < sel then s.answer k r .unknown .noValue
  else
    match (s.sites.get d).occupied with
    | [] => s.answer k r .done .noValue
    | ps => ps.foldl (fun s p => s.answer k r .done (siteValue sel p)) s

/-- QUERY_SITES (11 R200). -/
def execQuerySites (r : Request) (s : State) : Host.Outcome State Fault Refusal :=
  .next (s.takeDropRequest .querySites .controller r fun d s => s.querySitesDrop r d)

/-- CLEAR_SITES (11 R201). -/
def execClearSites (r : Request) (s : State) : Host.Outcome State Fault Refusal :=
  .next (s.takeDropRequest .clearSites .service r fun d s =>
    let m := (s.sites.get d).clear
    ((s.modSites d fun _ => m.1).reportSites d m.2).answer RequestKind.clearSites.value r .done (.count m.2.length))

end Sys2Proof.Machine
end

