-- ==== Sys2Proof/Machine/Power.lean ====
section
/-! DEFINITION. The Drop Power Unit's commands (01): POWER_ON, POWER_OFF, WAKE, CLEAR, QUERY_DROP, POWER_GOOD,
RAMP_WINDOW_EXPIRY, CURRENT_ABOVE_STEADY, CURRENT_BELOW_STEADY, STEADY_TRIP_EXPIRY, HARD_TRIP, BACKOFF_EXPIRY,
STABLE_TIMER_EXPIRY, NAP_TIMER_EXPIRY, WARM_TIMER_EXPIRY, RELOCK_WINDOW_EXPIRY. -/

namespace Sys2Proof.Machine

/-! ## Requests (01 section 1.11) -/

/-- An answer of the DPU carries the drop's state after the request (01 section 1.11). -/
def State.answerDrop (s : State) (k : RequestKind) (r : Request) (d : Drop) (c : AnswerCode) : State :=
  s.answer k.value r c (.dropState (s.drops.get d).state)

/-- POWER_ON on a drop (01 R25). -/
def State.powerOnDrop (s : State) (r : Request) (d : Drop) : State :=
  if !(s.dropCfg d).enabled then s.answerDrop .powerOn r d .refusedState
  else
    match (s.drops.get d).state with
    | .off => (s.turnOn d).answerDrop .powerOn r d .accepted
    | .fault => s.answerDrop .powerOn r d .refusedState
    | .claiming | .ramping | .warming | .ready | .hushed | .lost | .tripped | .napping =>
      s.answerDrop .powerOn r d .done

/-- POWER_ON (01 R25). -/
def execPowerOn (r : Request) (s : State) : Host.Outcome State Fault Refusal :=
  .next (s.takeDropRequest .powerOn .service r fun d s => s.powerOnDrop r d)

/-- The drop enters OFF from an unpowered state (01 R4, R26). -/
def State.settleOff (s : State) (d : Drop) : State :=
  (s.modDrop d fun r => { r with state := .off, cause := none, backoffTimer := .stopped }).clearHomed d

/-- What POWER_OFF does to a drop, its on-intent already clear (01 R24, R26). -/
def State.turnOff (s : State) (d : Drop) : State :=
  match (s.drops.get d).state with
  | .fault => s
  | .claiming => (s.leaveClaims d).settleOff d
  | .off | .tripped | .napping => s.settleOff d
  | .ramping | .warming | .ready | .hushed | .lost =>
    (s.powerDown d .off).modDrop d fun r => { r with cause := none }

/-- POWER_OFF (01 R26). -/
def execPowerOff (r : Request) (s : State) : Host.Outcome State Fault Refusal :=
  .next (s.takeDropRequest .powerOff .service r fun d s =>
    ((s.modDrop d fun r => { r with onIntent := false }).turnOff d).answerDrop .powerOff r d .done)

/-- WAKE (01 R27). -/
def execWake (r : Request) (s : State) : Host.Outcome State Fault Refusal :=
  .next (s.takeDropRequest .wake .controller r fun d s =>
    if (s.drops.get d).state = .napping then (s.wakeDrop d).answerDrop .wake r d .accepted
    else s.answerDrop .wake r d .refusedState)

/-- A drop in FAULT is cleared (01 R28). -/
def State.clearFault (s : State) (d : Drop) : State :=
  (s.modDrop d fun r =>
    { r with state := .off, onIntent := false, tripSeries := 0, cause := none, lastTripCause := none }).clearHomed d

/-- CLEAR (01 R28). -/
def execClear (r : Request) (s : State) : Host.Outcome State Fault Refusal :=
  .next (s.takeDropRequest .clear .service r fun d s =>
    if (s.drops.get d).state = .fault then (s.clearFault d).answerDrop .clear r d .done
    else s.answerDrop .clear r d .refusedState)

/-- The allowance that a query reads; until loading ends it has no value and is a free one (log 7). -/
def State.readAllowance (s : State) (d : Drop) : Nat :=
  match s.cfg with
  | some c => (c.drops.get d).allowance
  | none => (Config.unloadedValue s.draws).toNat % 65536

/-- The fields a selector of QUERY_DROP reads (01 R29). -/
def State.dropValue (s : State) (d : Drop) : Nat → Option AnswerValue
  | 0 =>
    let r := s.drops.get d
    some (.dropStatus r.state r.cause r.lastTripCause (s.dropCfg d).enabled r.onIntent r.locateHold
      (s.links.get d).locked)
  | 1 => some (.dropCurrent (s.drops.get d).measured (s.readAllowance d))
  | 2 => some (.dropLosses (s.drops.get d).lockLossCount (s.drops.get d).dropoutCount)
  | 3 => some (.dropTrips (s.drops.get d).tripSeries (s.drops.get d).tripCount)
  | _ => none

/-- A free value is used up where a query reads a field without a value (log 3, 7). -/
def State.drawIfUnloaded (s : State) : State :=
  match s.cfg with
  | some _ => s
  | none => { s with draws := s.draws + 1 }

/-- QUERY_DROP (01 R29). -/
def execQueryDrop (r : Request) (s : State) : Host.Outcome State Fault Refusal :=
  .next (s.takeDropRequest .queryDrop .controller r fun d s =>
    match s.dropValue d (argOne r 0) with
    | some v => s.drawIfUnloaded.answer RequestKind.queryDrop.value r .done v
    | none => s.answer RequestKind.queryDrop.value r .unknown .noValue)

/-! ## Ramping (01 R7) -/

/-- POWER_GOOD (01 R7); with an allowance of 0 power good is not reached (01 R3). -/
def execPowerGood (d : Drop) (s : State) : Host.Outcome State Fault Refusal :=
  let r := s.drops.get d
  .next <|
    if r.state = .ramping ∧ r.rampWindow.isRunning ∧ (s.dropCfg d).allowance ≠ 0 then s.enterWarming d else s

/-- RAMP_WINDOW_EXPIRY (01 R7). -/
def execRampWindowExpiry (d : Drop) (s : State) : Host.Outcome State Fault Refusal :=
  let r := s.drops.get d
  .next <| if r.state = .ramping ∧ r.rampWindow.isRunning then s.trip d .rampFail else s

/-! ## Current and trips (01 R8 to R11) -/

/-- CURRENT_ABOVE_STEADY: a sample of the drop current (01 R8). -/
def execCurrentAboveSteady (d : Drop) (milliamps : Nat) (s : State) : Host.Outcome State Fault Refusal :=
  .next (s.sampleCurrent d milliamps)

/-- CURRENT_BELOW_STEADY: a sample of the drop current (01 R8). -/
def execCurrentBelowSteady (d : Drop) (milliamps : Nat) (s : State) : Host.Outcome State Fault Refusal :=
  .next (s.sampleCurrent d milliamps)

/-- STEADY_TRIP_EXPIRY (01 R8). -/
def execSteadyTripExpiry (d : Drop) (s : State) : Host.Outcome State Fault Refusal :=
  let r := s.drops.get d
  .next <| if r.state.powered ∧ r.steadyTrip.isRunning then s.trip d .overcurrent else s

/-- HARD_TRIP: the measured current reaches 2000 mA in a powered state (01 R9); in RAMPING only where the ramp limit
lets it (01 R3). -/
def execHardTrip (d : Drop) (s : State) : Host.Outcome State Fault Refusal :=
  .next <|
    if s.hardTrips d (measuredOf (s.drops.get d).state (s.dropCfg d).allowance Config.hardTripMa) then
      s.trip d .short
    else s

/-- BACKOFF_EXPIRY (01 R11). -/
def execBackoffExpiry (d : Drop) (s : State) : Host.Outcome State Fault Refusal :=
  let r := s.drops.get d
  .next <|
    if r.state = .tripped ∧ r.backoffTimer.isRunning then
      (s.modDrop d fun r => { r with cause := none, backoffTimer := .stopped }).enterClaiming d
    else s

/-! ## Timers of READY, WARMING and LOST -/

/-- STABLE_TIMER_EXPIRY (01 R12). -/
def execStableTimerExpiry (d : Drop) (s : State) : Host.Outcome State Fault Refusal :=
  .next <|
    if (s.drops.get d).stableTimer.isRunning then
      s.modDrop d fun r => { r with tripSeries := 0, stableTimer := .stopped }
    else s

/-- NAP_TIMER_EXPIRY (01 R22). -/
def execNapTimerExpiry (d : Drop) (s : State) : Host.Outcome State Fault Refusal :=
  let r := s.drops.get d
  .next <|
    if r.state = .ready ∧ r.napTimer.isRunning then (s.powerDown d .napping).reportState d .napping none else s

/-- WARM_TIMER_EXPIRY (01 R16). -/
def execWarmTimerExpiry (d : Drop) (s : State) : Host.Outcome State Fault Refusal :=
  let r := s.drops.get d
  .next <| if r.state = .warming ∧ r.warmTimer.isRunning then s.enterFault d .noLink else s

/-- RELOCK_WINDOW_EXPIRY (01 R18). -/
def execRelockWindowExpiry (d : Drop) (s : State) : Host.Outcome State Fault Refusal :=
  let r := s.drops.get d
  .next <| if r.state = .lost ∧ r.relockWindow.isRunning then s.enterFault d .linkDead else s

end Sys2Proof.Machine
end

