-- ==== Sys2Proof/Machine/Receive.lean ====
section
/-! DEFINITION. The Fragment Receiver's commands (05): OPEN_WORD, DATA_WORD, CLOSE_WORD. -/

namespace Sys2Proof.Machine

/-! ## Start words (05 R95, R96) -/

/-- A shot's trigger number has a tag as its low 8 bits and the shot has a part for the drop that a test picks. -/
def Entry.answers (e : Entry) (d : Drop) (tag : Byte) (p : PartStatus → Bool) : Bool :=
  decide (triggerTag e.trigger = tag) && (e.part d).any fun q => p q.status

/-- The shot a start word's tag names: the one opened first with an open part for the drop (05 R95). -/
def State.fragmentShot (s : State) (d : Drop) (tag : Byte) : Option Half :=
  (s.shots.table.find? fun e => e.answers d tag PartStatus.isOpen).map Entry.trigger

/-- A shot with the tag has a closed part for the drop (05 R95). -/
def State.lateFor (s : State) (d : Drop) (tag : Byte) : Bool :=
  s.shots.table.any fun e => e.answers d tag fun st => !st.isOpen

/-- A part to which a fragment of an index is bound (05 R96). -/
def Part.bind (index : Nat) (p : Part) : Part :=
  { p with
    flags := { p.flags with sequence := p.flags.sequence || decide (p.nextIndex ≠ some index) }
    nextIndex := some ((index + 1) % 32768)
    status := if p.status = .pending then .receiving else p.status }

/-- A fragment is bound to a part (05 R96). -/
def State.bindFragment (s : State) (d : Drop) (t : Half) (w : Word) : State :=
  let broken := (s.part t d).any fun p => decide (p.nextIndex ≠ some (startIndex w))
  (s.modPart t d (Part.bind (startIndex w))).modRx d fun r =>
    { r with
      mode := .inside t
      last := startLast w
      arrived := 0
      bound := bumpLong r.bound
      sequenceErrors := if broken then bump r.sequenceErrors else r.sequenceErrors }

/-- A start word at a context that is between fragments (05 R95). -/
def State.startFragment (s : State) (d : Drop) (w : Word) : State :=
  let c := s.dropCfg d
  if !markerMatches c.startPattern c.startMask (wordMarker w) then
    s.modRx d fun r => { r with mode := .skip false, badMarkers := bump r.badMarkers }
  else
    match s.fragmentShot d (startTag w) with
    | some t => s.bindFragment d t w
    | none =>
      if s.lateFor d (startTag w) then s.modRx d fun r => { r with mode := .skip false, late := bump r.late }
      else s.modRx d fun r => { r with mode := .skip false, stray := bump r.stray }

/-- OPEN_WORD (05 R95): an UNLOCKED port hands nothing (05 R92). -/
def execOpenWord (d : Drop) (w : Word) (s : State) : Host.Outcome State Fault Refusal :=
  .next <|
    if (s.links.get d).locked then ((s.heardItem d).endFragment d).startFragment d w else s

/-! ## Payload words (05 R97, R98) -/

/-- A word beyond the 4096th of its fragment is discarded (05 R97). -/
def State.overlongWord (s : State) (d : Drop) (t : Half) (arrived : Nat) : State :=
  (s.flagPart t d fun f => { f with overlong := true }).modRx d fun r =>
    { r with overlong := if arrived = Config.fragmentWords + 1 then bump r.overlong else r.overlong }

/-- A word that finds no page is lost (05 R98). -/
def State.loseWord (s : State) (d : Drop) (t : Half) : State :=
  (s.modPart t d fun p =>
    { p with flags := { p.flags with truncated := true }, lost := bumpLong p.lost }).modRx d fun r =>
    { r with lostWords := bumpLong r.lostWords }

/-- The part's chain is empty, or its last page is full (05 R86). -/
def Part.needsPage (p : Part) : Bool := decide (p.chain.length * Config.pageWords ≤ p.words)

/-- A part with a word stored: the word counted, and handed to the scorer with its position (05 R97, 09 R164). -/
def Part.store (c : DropCfg) (w : Word) (p : Part) : Part :=
  { p with words := p.words + 1, sums := p.sums.map (addWord c p.words w) }

/-- A word is written at the next free place of a chain's last page. -/
def State.storeWord (s : State) (d : Drop) (t : Half) (page words : Nat) (w : Word) :
    Host.Outcome State Fault Refusal :=
  let offset := words % Config.pageWords
  if frameAddressExists page offset then
    .next ((s.modFmm fun f => { f with mem := writeWord page offset w f.mem }).modPart t d
      (Part.store (s.dropCfg d) w))
  else .fault (.noSuchFrameAddress page offset)

/-- A payload word of a part (05 R97): overlong, lost or stored, taking a page first where the chain needs one. -/
def State.payloadWord (s : State) (d : Drop) (t : Half) (p : Part) (arrived : Nat) (w : Word) :
    Host.Outcome State Fault Refusal :=
  if Config.fragmentWords < arrived then .next (s.overlongWord d t arrived)
  else if p.flags.truncated then .next (s.loseWord d t)
  else if p.needsPage then
    match s.takePage with
    | (some page, s1) =>
      (s1.modPart t d fun q => { q with chain := q.chain ++ [page] }).storeWord d t page p.words w
    | (none, s1) => .next (s1.loseWord d t)
  else s.storeWord d t (p.chain.getLastD Config.pageCount) p.words w

/-- A data word at the context (05 R97, R102). -/
def State.dataAt (s : State) (d : Drop) (w : Word) : Host.Outcome State Fault Refusal :=
  match (s.rx.get d).mode with
  | .idle => .next (s.modRx d fun r => { r with mode := .skip false, badMarkers := bump r.badMarkers })
  | .skip _ => .next s
  | .inside t =>
    let arrived := satAdd 16777215 (s.rx.get d).arrived 1
    let s1 := s.modRx d fun r => { r with arrived := arrived }
    match s1.part t d with
    | some p => s1.payloadWord d t p arrived w
    | none => .next s1

/-- DATA_WORD (05 R97). -/
def execDataWord (d : Drop) (w : Word) (s : State) : Host.Outcome State Fault Refusal :=
  if (s.links.get d).locked then (s.heardItem d).dataAt d w else .next s

/-! ## End words (05 R99) -/

/-- A fragment ends with an error of length: LENGTH_ERROR on the part, and the drop's count (05 R99). -/
def State.lengthError (s : State) (d : Drop) (t : Half) : State :=
  (s.flagPart t d fun f => { f with lengthError := true }).modRx d fun r =>
    { r with lengthErrors := bump r.lengthErrors }

/-- The end word of the fragment in IN (05 R99). -/
def State.endWord (s : State) (d : Drop) (t : Half) (w : Word) : State :=
  let c := s.dropCfg d
  let r := s.rx.get d
  if !markerMatches c.endPattern c.endMask (wordMarker w) then
    (s.lengthError d t).modRx d fun r => { r.toIdle with badMarkers := bump r.badMarkers }
  else
    let s1 := if endCount w ≠ r.arrived then s.lengthError d t else s
    let s2 := s1.modRx d Receiver.toIdle
    if r.last then s2.closePart t d .complete else s2

/-- A close word at the context (05 R99, R102). -/
def State.closeAt (s : State) (d : Drop) (w : Word) : State :=
  match (s.rx.get d).mode with
  | .idle => s.modRx d fun r => { r with badMarkers := bump r.badMarkers }
  | .skip owed => s.modRx d fun r => { r.toIdle with late := if owed then bump r.late else r.late }
  | .inside t => s.endWord d t w

/-- CLOSE_WORD (05 R99). -/
def execCloseWord (d : Drop) (w : Word) (s : State) : Host.Outcome State Fault Refusal :=
  .next <| if (s.links.get d).locked then (s.heardItem d).closeAt d w else s

end Sys2Proof.Machine
end

