-- ==== Sys2Proof/Machine/StartUp.lean ====
section
/-! DEFINITION. Resets and loading: POWER_ON_RESET, CELL_RESET, LOAD_END, STARTUP_WAIT_END. -/

namespace Sys2Proof.Machine

/-- A drop record after a reset, its measured current reading the residual current of an open switch (01 R1, R8). -/
def resetDropAt (draw : Nat) : DropRec := { resetDrop with measured := (Config.residualCurrent draw).toNat }

/-- Every block at its value after the power-on or pin reset. Time goes on, the link status follows the link, and the
model's own fields are kept (log 2, 3, 5). -/
def State.resetAll (s : State) (pins : Pins) : State :=
  { State.reset with
    now := s.now
    draws := s.draws + 4
    pins := pins
    station := latchStation pins
    drops := ⟨resetDropAt s.draws, resetDropAt (s.draws + 1), resetDropAt (s.draws + 2), resetDropAt (s.draws + 3)⟩
    cli := resetCli s.now
    uplink := resetUplink s.uplink.linkUp
    pending := s.pending }

/-- POWER_ON_RESET (01 R1 and the reset rule of every chapter). -/
def execPowerOnReset (pins : Pins) (s : State) : Host.Outcome State Fault Refusal := .next (s.resetAll pins)

/-- A CELL_RESET that acts: the power-on reset, but for the site tables (12 R208). -/
def State.cellReset (s : State) (pins : Pins) : State := { s.resetAll pins with sites := s.sites }

/-- CELL_RESET: to this station or to 15, from a sender of the service set, it acts; from any other sender it is
refused and counted; to another station it changes nothing else (02 R53, 12 R208). -/
def execCellReset (src : Station) (target : Byte) (pins : Pins) (s : State) : Host.Outcome State Fault Refusal :=
  .next <| s.hear src fun s =>
    if target.toNat = s.station ∨ target.toNat = 15 then
      if s.isService src then s.cellReset pins else { s with resetsRefused := bump s.resetsRefused }
    else s

/-- What a read of the EEPROM loads: the image's configuration, or nothing where it is rejected (12 R206). -/
def loadedImage : EepromRead → Option (List Byte)
  | .noAcknowledge => none
  | .image bytes => if imagePasses bytes then some bytes else none

/-- The configuration takes its values, and the loader state changes (12 R206, R207). -/
def State.load (s : State) (read : EepromRead) : State :=
  match loadedImage read with
  | some img =>
    { s with
      loader := .loaded
      cfg := some (imageConfiguration img)
      clampedFields := satAdd 255 s.clampedFields (imageClamps img) }
  | none => { s with loader := .defaulted, cfg := some defaultedConfiguration }

/-- A drop of auto-power acts as though POWER_ON had been taken, unless the station is stray (01 R2, R30). -/
def State.autoPower (s : State) (d : Drop) : State :=
  let c := s.dropCfg d
  if c.enabled && c.autoPower && !s.stray then s.turnOn d else s

/-- LOAD_END (12 R206, R207): the configuration, the first PRESENCE, the auto-power drops in drop order. -/
def execLoadEnd (read : EepromRead) (s : State) : Host.Outcome State Fault Refusal :=
  .next <| if s.loader = .loading then Drop.all.foldl State.autoPower (s.load read).announce else s

/-- STARTUP_WAIT_END (02 R45): 300 ms have passed and the loader has ended. -/
def execStartupWaitEnd (s : State) : Host.Outcome State Fault Refusal :=
  .next <|
    if s.loader = .loading then s else s.modCli fun c => { c with startWait := .stopped }

end Sys2Proof.Machine
end

