-- ==== Sys2Proof/Machine/Station.lean ====
section
/-! DEFINITION. QUERY_STATION and the answer to an unknown request kind (12 R202, R205). -/

namespace Sys2Proof.Machine

/-- A flag in the low byte of a value. -/
def flagValue (b : Bool) : Nat := b.toNat

/-- The cell budget; until loading ends it has no value and is a free one (03 R58, log 7). -/
def State.readBudget (s : State) : Nat :=
  match s.cfg with
  | some c => c.station.cellBudget
  | none => (Config.unloadedValue s.draws).toNat

/-- The free count; until loading ends the ring length, and so the free count, has no value (07 R128, log 7). -/
def State.readRingFree (s : State) : Nat :=
  match s.cfg with
  | some c => ringFree c.station.ringLength s.uplink.mark s.uplink.place
  | none => (Config.unloadedValue s.draws).toNat

/-- The line counters in the order of 02 R52. -/
def LineCounters.values (c : LineCounters) : List Nat :=
  [c.notesSent, c.notesHeard, c.arbitrationLosses, c.sendErrors, c.notesDropped, c.receiveErrors, c.formatErrors,
    c.abortsHeard, c.classThreeRefusals, c.answerRefusals, c.duplicateSuspected]

/-- The budget counters in the order of 03 R70. -/
def Budget.values (b : Budget) : List Nat := [b.claimsGranted, b.claimsVoid, b.unusedGrants, b.claimsDropped]

/-- The Trigger Unit's values, indices 21 to 26. -/
def TriggerUnit.values (u : TriggerUnit) : List Nat :=
  [u.expected.toNat, flagValue u.synced, u.edgeCount, u.withheldCount, u.slipCount, u.triggerCount]

/-- The Frame Memory Manager's values, indices 27 to 30. -/
def FrameMemory.values (f : FrameMemory) : List Nat := [f.freeCount, flagValue f.hold, f.lowWater, f.takeFailures]

/-- The Shot Builder's values, indices 31 to 38. -/
def Shots.values (b : Shots) : List Nat :=
  [b.table.length, (b.table.filter fun e => decide (e.state = .open)).length, b.skipped, b.opened, b.shotsSkipped,
    b.duplicates, b.breaksAttached, b.breaksUnattached]

/-- The Uplink Sender's values, indices 39 to 49, with the free count as computed. -/
def Uplink.values (ringFree : Nat) (u : Uplink) : List Nat :=
  [u.place, u.mark, ringFree, u.pause.code, flagValue (!u.linkUp), u.recordsSent, u.fillWords, u.overlongParts,
    u.ringPauses, u.linkLosses, u.badMarks]

/-- The Line Locator's values, indices 50 to 60. -/
def Locator.values (l : Locator) : List Nat :=
  [l.queued, codeOr255 (l.active.map fun a => a.phase.code), l.requestsTaken, l.flashesRun, l.flashesStale,
    l.flashesIgnored, l.bundleDeferrals, l.bundleFailures, l.noLaunch, l.analysed, l.halts]

/-- The values of indices 0 to 60, in order (12 R205). -/
def State.stationValues (s : State) : List Nat :=
  [s.station, s.loader.code, s.clampedFields, s.resetsRefused, s.readBudget, s.budget.ownHeld] ++
    s.cli.counters.values ++ s.budget.values ++ s.trig.values ++ s.fmm.values ++ s.shots.values ++
    s.uplink.values s.readRingFree ++ s.locator.values

/-- A receive context's counters in the order of 05 R103. -/
def Receiver.values (r : Receiver) : List Nat :=
  [r.bound, r.badMarkers, r.stray, r.late, r.runts, r.lengthErrors, r.sequenceErrors, r.overlong, r.lostWords]

/-- The values of indices 61 to 80 for a drop, in order (12 R205). -/
def State.dropValues (s : State) (d : Drop) : List Nat :=
  let t := s.sites.get d
  let l := s.lens.get d
  (s.rx.get d).values ++ [t.evictions, t.nextSeq.toNat] ++
    [l.burstsSent, l.acks, l.ackTimeouts, l.strayAcks, l.homings, l.homeFailures, l.moves, l.verifyFailures,
      l.sweep.passed]

/-- The value of an index: below 61 of the station, 61 to 80 of the drop that the drop field names (12 R205). -/
def State.stationValue (s : State) (r : Request) (i : Nat) : Option Nat :=
  if i < 61 then s.stationValues[i]?
  else
    match requestDrop r with
    | some d => (s.dropValues d)[i - 61]?
    | none => none

/-- QUERY_STATION (12 R205). -/
def execQueryStation (r : Request) (s : State) : Host.Outcome State Fault Refusal :=
  .next (s.takeRequest .queryStation .controller r fun s =>
    match s.stationValue r (argOne r 0) with
    | some v => s.drawIfUnloaded.answer RequestKind.queryStation.value r .done (.station v)
    | none => s.answer RequestKind.queryStation.value r .unknown .noValue)

/-- A request kind of the table of 12 section 12.5. -/
def knownKind (kind : Byte) : Bool := RequestKind.all.any fun k => k.value == kind

/-- UNKNOWN_REQUEST_KIND: the kind check comes before every other and is answered UNKNOWN (12 R202). -/
def execUnknownRequestKind (kind : Byte) (r : Request) (s : State) : Host.Outcome State Fault Refusal :=
  .next <|
    if knownKind kind then s
    else s.hear r.src fun s => if s.addressed r then s.answer kind r .unknown .noValue else s

end Sys2Proof.Machine
end

