-- ==== Sys2Proof/Machine/Uplink.lean ====
section
/-! DEFINITION. The Uplink Sender's commands (07): SLOT_MARK, RECORD_START, UPLINK_WORD_SENT, LINK_DOWN, LINK_UP,
RESTART_SEND. -/

namespace Sys2Proof.Machine

/-! ## Slot marks (07 R128, R137) -/

/-- A slot mark during the restart: a mark of 0, after the RESTART symbol was sent, ends it; any other is discarded
without a count (07 R137). -/
def State.restartMark (s : State) (m : Nat) : State :=
  if m = 0 ∧ s.uplink.restartOwed = false then
    let s1 := s.modUplink fun u => { u with mark := 0, place := 0 }
    s1.setPause s1.pauseNow
  else s

/-- A slot mark outside the restart (07 R128). -/
def State.takeMark (s : State) (ring m : Nat) : State :=
  if ring ≤ m then s.modUplink fun u => { u with badMarks := bump u.badMarks }
  else (s.modUplink fun u => { u with mark := m }).boundaryDecision

/-- SLOT_MARK (07 R128). No mark arrives while the link is DOWN (07 R136). -/
def execSlotMark (m : Nat) (s : State) : Host.Outcome State Fault Refusal :=
  .next <|
    if s.uplink.linkUp = false then s
    else if s.uplink.pause = .restart then s.restartMark m
    else
      match s.cfg with
      | some c => s.takeMark c.station.ringLength m
      | none => s

/-! ## Records (07 R130 to R134) -/

/-- The part's received words are above its drop's frame size (07 R130). -/
def State.isCut (s : State) (p : Part) : Bool := decide ((s.dropCfg p.drop).frameSize < p.words)

/-- The oldest entry as its record begins: SENDING, with FRAME_CUT set where a part is cut (07 R130). -/
def State.sendingEntry (s : State) (e : Entry) : Entry :=
  { e with
    state := .sending
    parts := e.parts.map fun p =>
      if s.isCut p then { p with flags := { p.flags with frameCut := true } } else p }

/-- The oldest entry's record begins (07 R130). -/
def State.beginRecord (s : State) (ring : Nat) (e : Entry) (rest : List Entry) : State :=
  (s.modShots fun b => { b with table := s.sendingEntry e :: rest }).modUplink fun u =>
    { u with
      record := some 0
      place := (u.place + 1) % ring
      overlongParts := satAdd 65535 u.overlongParts (e.parts.filter s.isCut).length }

/-- RECORD_START: the boundary decision is NONE and no record is in progress (07 R129, R130; log 17). -/
def execRecordStart (s : State) : Host.Outcome State Fault Refusal :=
  .next <|
    match s.cfg, s.shots.table with
    | some c, e :: rest =>
      if s.uplink.record = none ∧ s.uplink.pause = .none ∧ s.pauseNow = .none then
        s.beginRecord c.station.ringLength e rest
      else s
    | _, _ => s

/-- A word of a record: of the header or a descriptor, a stored word of a part, or a fill word (07 R131, R132). -/
inductive RecordWord where
  /-- A word of the header or of a descriptor. -/
  | fixed (w : Word)
  /-- The part's stored word at a place of its data. -/
  | stored (p : Part) (place : Nat)
  /-- A fill word. -/
  | fill
deriving DecidableEq, Repr

/-- The word at a place of an entry's record (07 R131, R132). -/
def State.recordWord (s : State) (e : Entry) (i : Nat) : RecordWord :=
  match (s.fixedWords e)[i]? with
  | some w => .fixed w
  | none =>
    match s.dataPlace e.parts (i - (s.fixedWords e).length) with
    | some (p, place) => if place < p.words then .stored p place else .fill
    | none => .fill

/-- The pages of a part's chain that are returned when its stored word at a place has been sent: the page whose last
emitted word it is, and, at the part's last emitted word, every page that is left (07 R133). Pages returned before
have left the chain's head. -/
def pagesDue (frameSize : Nat) (p : Part) (place : Nat) : List Nat :=
  if place + 1 = emittedWords frameSize p then p.chain
  else if (place + 1) % Config.pageWords = 0 then p.chain.take 1
  else []

/-- Pages leave a part's chain for the free list, in chain order (07 R133, 05 R87). -/
def State.returnDue (s : State) (d : Drop) (due : List Nat) : State :=
  (s.modShots fun b =>
    { b with
      table :=
        match b.table with
        | [] => []
        | e :: rest =>
          { e with
            parts := e.parts.map fun p =>
              if p.drop = d then { p with chain := p.chain.drop due.length } else p } :: rest }).returnPages due

/-- The link layer has taken a word. -/
def State.sent (s : State) (w : Word) : State := s.modUplink fun u => { u with lastWord := some w }

/-- The word of a record is taken, and the pages whose last emitted word it was return (07 R132, R133). -/
def State.sendWord (s : State) (fill : Word) : RecordWord → Host.Outcome State Fault Refusal
  | .fixed w => .next (s.sent w)
  | .fill => .next ((s.sent fill).modUplink fun u => { u with fillWords := bumpLong u.fillWords })
  | .stored p place =>
    let page := p.chain.headD Config.pageCount
    let offset := place % Config.pageWords
    if frameAddressExists page offset then
      .next ((s.sent (readWord s.fmm.mem page offset)).returnDue p.drop
        (pagesDue (s.dropCfg p.drop).frameSize p place))
    else .fault (.noSuchFrameAddress page offset)

/-- The last word of a record has been sent: the entry leaves the table, and the next decision is made (07 R134). -/
def State.endRecord (s : State) : State :=
  ((s.modShots fun b => { b with table := b.table.tail }).modUplink fun u =>
    { u with record := none, recordsSent := bumpLong u.recordsSent }).boundaryDecision

/-- After a word the record goes on or ends (07 R134). -/
def State.afterWord (s : State) (i length : Nat) : State :=
  if i + 1 < length then s.modUplink fun u => { u with record := some (i + 1) } else s.endRecord

/-- The outcome of a step with more to do on its next state. -/
def andThen (o : Host.Outcome State Fault Refusal) (f : State → State) : Host.Outcome State Fault Refusal :=
  match o with
  | .next s => .next (f s)
  | .fault r => .fault r
  | .refused r => .refused r

/-- UPLINK_WORD_SENT (07 R133): a record is in progress and the link is UP. -/
def execUplinkWordSent (s : State) : Host.Outcome State Fault Refusal :=
  match s.cfg, s.shots.table, s.uplink.record with
  | some c, e :: _, some i =>
    if s.uplink.linkUp then
      andThen (s.sendWord c.station.fillWord (s.recordWord e i)) fun s' => s'.afterWord i (s.recordLength e)
    else .next s
  | _, _, _ => .next s

/-! ## The link and the restart (07 R136, R137) -/

/-- What the loss of the link does: during the restart, a RESTART already sent is owed again; otherwise the pause
state is LINK (07 R136, R137; log 21). -/
def Uplink.down (u : Uplink) : Uplink :=
  { u with
    linkUp := false
    linkLosses := bump u.linkLosses
    restartOwed := if u.pause = .restart then true else u.restartOwed
    pause := if u.pause = .restart then .restart else .link }

/-- LINK_DOWN (07 R136). -/
def execLinkDown (s : State) : Host.Outcome State Fault Refusal :=
  .next <| if s.uplink.linkUp then s.modUplink Uplink.down else s

/-- LINK_UP: a stopped record goes on, or the boundary decision is made (07 R136). -/
def execLinkUp (s : State) : Host.Outcome State Fault Refusal :=
  .next <|
    if s.uplink.linkUp then s
    else
      let s1 := s.modUplink fun u => { u with linkUp := true }
      if s1.uplink.record.isSome then s1.modUplink fun u => { u with pause := .none } else s1.boundaryDecision

/-- RESTART_SEND (07 R137). -/
def execRestartSend (s : State) : Host.Outcome State Fault Refusal :=
  .next <|
    if s.uplink.restartOwed ∧ s.loader ≠ .loading ∧ s.uplink.linkUp then
      s.modUplink fun u => { u with restartOwed := false }
    else s

end Sys2Proof.Machine
end

