-- ==== Sys2Proof/Machine/Dispatch.lean ====
section
/-! DEFINITION. The meaning of every command: one arm per row of spec/opcode_table.json. -/

namespace Sys2Proof.Machine

/-- A command's effect on everything but the queue of commands. -/
def exec (i : Instr) (s : State) : Host.Outcome State Fault Refusal :=
  match i with
  | .powerOnReset pins => Sys2Proof.Machine.execPowerOnReset pins s
  | .cellReset src target pins => Sys2Proof.Machine.execCellReset src target pins s
  | .loadEnd read => Sys2Proof.Machine.execLoadEnd read s
  | .startupWaitEnd => Sys2Proof.Machine.execStartupWaitEnd s
  | .noteStart => Sys2Proof.Machine.execNoteStart s
  | .arbitrationLoss => Sys2Proof.Machine.execArbitrationLoss s
  | .sendError e => Sys2Proof.Machine.execSendError e s
  | .noteEcho => Sys2Proof.Machine.execNoteEcho s
  | .noteDiscarded failure => Sys2Proof.Machine.execNoteDiscarded failure s
  | .ownNumberHeard => Sys2Proof.Machine.execOwnNumberHeard s
  | .noteHeard src => Sys2Proof.Machine.execNoteHeard src s
  | .triggerNote note => Sys2Proof.Machine.execTriggerNote note s
  | .claimReceived src note => Sys2Proof.Machine.execClaimReceived src note s
  | .claimEcho => Sys2Proof.Machine.execClaimEcho s
  | .releaseReceived src note => Sys2Proof.Machine.execReleaseReceived src note s
  | .releaseEcho => Sys2Proof.Machine.execReleaseEcho s
  | .presenceReceived src note => Sys2Proof.Machine.execPresenceReceived src note s
  | .locateStartNote note => Sys2Proof.Machine.execLocateStartNote note s
  | .locateEndNote note => Sys2Proof.Machine.execLocateEndNote note s
  | .presenceTimerExpiry => Sys2Proof.Machine.execPresenceTimerExpiry s
  | .viewAgeExpiry station => Sys2Proof.Machine.execViewAgeExpiry station s
  | .retryTimerExpiry drop => Sys2Proof.Machine.execRetryTimerExpiry drop s
  | .powerOn r => Sys2Proof.Machine.execPowerOn r s
  | .powerOff r => Sys2Proof.Machine.execPowerOff r s
  | .wake r => Sys2Proof.Machine.execWake r s
  | .clear r => Sys2Proof.Machine.execClear r s
  | .queryDrop r => Sys2Proof.Machine.execQueryDrop r s
  | .powerGood drop => Sys2Proof.Machine.execPowerGood drop s
  | .rampWindowExpiry drop => Sys2Proof.Machine.execRampWindowExpiry drop s
  | .currentAboveSteady drop milliamps => Sys2Proof.Machine.execCurrentAboveSteady drop milliamps s
  | .currentBelowSteady drop milliamps => Sys2Proof.Machine.execCurrentBelowSteady drop milliamps s
  | .steadyTripExpiry drop => Sys2Proof.Machine.execSteadyTripExpiry drop s
  | .hardTrip drop => Sys2Proof.Machine.execHardTrip drop s
  | .backoffExpiry drop => Sys2Proof.Machine.execBackoffExpiry drop s
  | .stableTimerExpiry drop => Sys2Proof.Machine.execStableTimerExpiry drop s
  | .napTimerExpiry drop => Sys2Proof.Machine.execNapTimerExpiry drop s
  | .warmTimerExpiry drop => Sys2Proof.Machine.execWarmTimerExpiry drop s
  | .relockWindowExpiry drop => Sys2Proof.Machine.execRelockWindowExpiry drop s
  | .lockGain drop => Sys2Proof.Machine.execLockGain drop s
  | .lockLoss drop order => Sys2Proof.Machine.execLockLoss drop order s
  | .lockTimeout drop order => Sys2Proof.Machine.execLockTimeout drop order s
  | .beat drop => Sys2Proof.Machine.execBeat drop s
  | .openWord drop word => Sys2Proof.Machine.execOpenWord drop word s
  | .dataWord drop word => Sys2Proof.Machine.execDataWord drop word s
  | .closeWord drop word => Sys2Proof.Machine.execCloseWord drop word s
  | .shotTimeout trigger => Sys2Proof.Machine.execShotTimeout trigger s
  | .lensAck drop ack => Sys2Proof.Machine.execLensAck drop ack s
  | .ackTimerExpiry drop => Sys2Proof.Machine.execAckTimerExpiry drop s
  | .burstHandover drop => Sys2Proof.Machine.execBurstHandover drop s
  | .markSent drop => Sys2Proof.Machine.execMarkSent drop s
  | .lensHome r => Sys2Proof.Machine.execLensHome r s
  | .lensMove r => Sys2Proof.Machine.execLensMove r s
  | .lensNudge r => Sys2Proof.Machine.execLensNudge r s
  | .lensHalt r => Sys2Proof.Machine.execLensHalt r s
  | .lensPush r => Sys2Proof.Machine.execLensPush r s
  | .lensPop r => Sys2Proof.Machine.execLensPop r s
  | .queryLens r => Sys2Proof.Machine.execQueryLens r s
  | .lensSweep r => Sys2Proof.Machine.execLensSweep r s
  | .pointTimerExpiry drop => Sys2Proof.Machine.execPointTimerExpiry drop s
  | .querySweep r => Sys2Proof.Machine.execQuerySweep r s
  | .triggerInputRise => Sys2Proof.Machine.execTriggerInputRise s
  | .triggerInputFall => Sys2Proof.Machine.execTriggerInputFall s
  | .qualifyTimerExpiry => Sys2Proof.Machine.execQualifyTimerExpiry s
  | .slotMark mark => Sys2Proof.Machine.execSlotMark mark s
  | .recordStart => Sys2Proof.Machine.execRecordStart s
  | .uplinkWordSent => Sys2Proof.Machine.execUplinkWordSent s
  | .linkDown => Sys2Proof.Machine.execLinkDown s
  | .linkUp => Sys2Proof.Machine.execLinkUp s
  | .restartSend => Sys2Proof.Machine.execRestartSend s
  | .locate r => Sys2Proof.Machine.execLocate r s
  | .locateHalt r => Sys2Proof.Machine.execLocateHalt r s
  | .flashStart => Sys2Proof.Machine.execFlashStart s
  | .flashStale drop => Sys2Proof.Machine.execFlashStale drop s
  | .requestActivate => Sys2Proof.Machine.execRequestActivate s
  | .quiesceEnd => Sys2Proof.Machine.execQuiesceEnd s
  | .holderExpiry bundle => Sys2Proof.Machine.execHolderExpiry bundle s
  | .launchStart => Sys2Proof.Machine.execLaunchStart s
  | .settleEnd => Sys2Proof.Machine.execSettleEnd s
  | .shotComplete samples => Sys2Proof.Machine.execShotComplete samples s
  | .querySites r => Sys2Proof.Machine.execQuerySites r s
  | .clearSites r => Sys2Proof.Machine.execClearSites r s
  | .queryStation r => Sys2Proof.Machine.execQueryStation r s
  | .unknownRequestKind kind r => Sys2Proof.Machine.execUnknownRequestKind kind r s

end Sys2Proof.Machine
end

