-- ==== Sys2Proof/Machine/Step.lean ====
section
/-! DEFINITION. One step of the block: the front command, or a microsecond of idling (log 2). -/

namespace Sys2Proof.Machine

/-- The state without its front command. -/
def State.withoutFront (s : State) : State := { s with pending := s.pending.tail }

/-- A microsecond passes with no command (log 2). -/
def State.tick (s : State) : State := { s with now := s.now + 1 }

/-- The front command acts on the state with the queue's rest; on an empty queue time passes. -/
def step (s : State) : Host.Outcome State Fault Refusal :=
  match s.pending with
  | [] => .next s.tick
  | c :: _ => exec c s.withoutFront

/-- The state with the command that a table word spells put at the front of its queue; no word spells one (log 13). -/
def State.withFetchWord (s : State) (nbits w : Nat) : State :=
  match decodeTableWord nbits w with
  | some c => { s with pending := c :: s.pending }
  | none => s

end Sys2Proof.Machine
end

