-- ==== Sys2Proof/Safety.lean ====
section
/-! DEFINITION. What counts as a sound state of the hub, in the terms the statements use: the laws of the spec that
every step keeps, what the tables and layouts of chapter 12 give, and the premises under which a request is taken. -/

namespace Sys2Proof.Machine

/-! ## Laws of single blocks -/

/-- A page number of the frame memory (05 section 5.1). -/
def isPage (p : Nat) : Prop := p < Config.pageCount

/-- The pages in the chains of the shot table's parts, oldest entry first. -/
def State.chained (s : State) : List Nat := s.shots.table.flatMap fun e => e.parts.flatMap Part.chain

/-- The frame memory keeps its canonical form, the free count is the length of the free list, every page of the free list
and of a part's chain exists, "the free-list length plus the number of pages in the chains of shot-table parts always
equals 4096, and no page stands twice among them" (05 R85). -/
structure State.MemoryLaw (s : State) : Prop where
  wf : Memory.wf s.fmm.mem = true
  count : s.fmm.freeCount = s.fmm.freeList.length
  pages : ∀ p ∈ s.fmm.freeList ++ s.chained, isPage p
  once : (s.fmm.freeList ++ s.chained).Nodup
  all : s.fmm.freeList.length + s.chained.length = 4096

/-- The shot table: at most 16 entries with trigger numbers that differ, each with at most one part of a drop; an entry
is OPEN, with its age running, exactly while it has an open part (06 R104, R105, R110, R122). -/
structure State.ShotLaw (s : State) : Prop where
  size : s.shots.table.length ≤ Config.shotTableSize
  numbers : (s.shots.table.map Entry.trigger).Nodup
  drops : ∀ e ∈ s.shots.table, (e.parts.map Part.drop).Nodup
  opened : ∀ e ∈ s.shots.table, e.state = .open ↔ e.hasOpenPart = true
  aged : ∀ e ∈ s.shots.table, e.age.isRunning = true ↔ e.state = .open

/-- A receive context in IN is bound to an open part of its drop (05 R93, R101). -/
def State.RxLaw (s : State) : Prop :=
  ∀ d n, (s.rx.get d).mode = .inside n → ∃ p, s.part n d = some p ∧ p.status.isOpen = true

/-- The pages that stored words fill: one for each 16384 begun (05 R86). -/
def pagesFor (words : Nat) : Nat := (words + 16383) / 16384

/-- The words of an entry's record before the data of the part that follows some of its parts (07 R131). -/
def State.dataStart (s : State) (e : Entry) (before : List Part) : Nat :=
  2 + 7 * e.parts.length + (before.map fun p => if p.words = 0 then 0 else (s.dropCfg p.drop).frameSize).sum

/-- The pages left in a part's chain when words of its data have been sent: the ones whose last emitted word is still to
be sent (07 R133). -/
def State.pagesLeft (s : State) (p : Part) (sent : Nat) : Nat :=
  if min p.words (s.dropCfg p.drop).frameSize ≤ sent then 0 else pagesFor p.words - sent / 16384

/-- An entry of the shot table whose record has not begun: every part's chain has the pages of its stored words. -/
def Entry.Unsent (e : Entry) : Prop := e.state ≠ .sending ∧ ∀ p ∈ e.parts, p.chain.length = pagesFor p.words

/-- The record in progress and the chains (05 R86; 07 R126, R130, R133, R134): the oldest entry is SENDING exactly while a
record is in progress, at a word of that record; its parts have the pages still owed, every other part those of its
stored words. Until loading ends no shot is open and no record in progress (06 R107, R125), and a frame size is 1 or more
(07 R127). -/
structure State.RecordLaw (s : State) : Prop where
  loading : s.loader = .loading ↔ s.cfg = none
  unloaded : s.cfg = none → s.shots.table = [] ∧ s.uplink.record = none
  frames : ∀ d, 1 ≤ (s.dropCfg d).frameSize
  between : s.uplink.record = none → ∀ e ∈ s.shots.table, e.Unsent
  within : ∀ i, s.uplink.record = some i → ∃ e rest, s.shots.table = e :: rest ∧ e.state = .sending ∧
    i < s.dataStart e e.parts ∧ (∀ x ∈ rest, x.Unsent) ∧
    ∀ before p after, e.parts = before ++ p :: after → p.chain.length = s.pagesLeft p (i - s.dataStart e before)

/-- "With the switch open the camera is unpowered, so the port is UNLOCKED" (01 R14). -/
def State.PortLaw (s : State) : Prop :=
  ∀ d, (s.drops.get d).state.powered = false → (s.links.get d).locked = false

/-- A timer of the drop record runs only in the state it belongs to (01 R1, R4, R12, R22). -/
structure DropRec.TimerLaw (r : DropRec) : Prop where
  ramp : r.rampWindow.isRunning = true → r.state = .ramping
  warm : r.warmTimer.isRunning = true → r.state = .warming
  relock : r.relockWindow.isRunning = true → r.state = .lost
  backoff : r.backoffTimer.isRunning = true → r.state = .tripped
  stable : r.stableTimer.isRunning = true → r.state = .ready
  nap : r.napTimer.isRunning = true → r.state = .ready
  steady : r.steadyTrip.isRunning = true → r.state.powered = true

/-- Every drop's timers keep their law. -/
def State.TimerLaw (s : State) : Prop := ∀ d, (s.drops.get d).TimerLaw

/-- The in-flight capture is a quiet capture of a drop. -/
def Locator.quietOn (l : Locator) (d : Drop) : Prop := ∃ c, l.capture = some c ∧ c.type = .quiet ∧ c.drop = d

/-- "A drop is in HUSHED exactly when the Line Locator's in-flight capture is a quiet capture of that drop"
(10 R182). -/
def State.HushLaw (s : State) : Prop := ∀ d, (s.drops.get d).state = .hushed ↔ s.locator.quietOn d

/-- locate_hold is set on exactly the drop of the active request (01 R21, 10 R179, R184). -/
def State.HoldLaw (s : State) : Prop :=
  ∀ d, (s.drops.get d).locateHold = true ↔ ∃ a, s.locator.active = some a ∧ a.drop = d

/-- "A drop has a PENDING or RECEIVING part only while it is READY" (06 R115), with what it rests on: the shot table's law,
locate_hold, and that the quiet request past its quiesce phase found no open part on its drop (10 R179). -/
structure State.PartLaw (s : State) : Prop where
  shots : s.ShotLaw
  hold : s.HoldLaw
  ready : ∀ d, s.dropHasOpenPart d = true → (s.drops.get d).state = .ready
  queued : ∀ a, s.locator.active = some a → a.bundleState = .queued → a.phase = .bundle
  quiet : ∀ a, s.locator.active = some a → a.type = .quiet → (a.phase = .bundle ∨ a.phase = .launch) →
    s.dropHasOpenPart a.drop = false

/-! ## The own held total (03 R54) -/

/-- The share of a drop: its allowance while it is powered. -/
def State.share (s : State) (d : Drop) : Nat :=
  if (s.drops.get d).state.powered then (s.dropCfg d).allowance else 0

/-- "The sum of the allowances of its drops in RAMPING, WARMING, READY, HUSHED or LOST" (03 R54). -/
def State.shares (s : State) : Nat := (Drop.all.map s.share).sum

/-- A CLAIM in the transmit queue carries its drop's allowance (03 R60). -/
def State.claimCarriesAllowance (s : State) : NoteBody → Prop
  | .claim d amount _ => amount = (s.dropCfg d).allowance
  | _ => True

/-- The law of the own held total, with what it rests on: the CLAIMING drops stand in the claim queue, each once; at most
one CLAIM note is held, with its drop's allowance; and until loading ends the hub has no drop out of OFF, no claim and no
CLAIM note (03 R54, R59, R60; 06 R107). -/
structure State.BudgetLaw (s : State) : Prop where
  held : s.budget.ownHeld = s.shares
  claimants : ∀ d, s.budget.claims.any (fun e => decide (e.drop = d)) = true ↔ (s.drops.get d).state = .claiming
  distinct : (s.budget.claims.map ClaimEntry.drop).Nodup
  oneClaim : (s.cli.queue.filter (·.body.isClaim)).length ≤ 1
  amounts : ∀ n ∈ s.cli.queue, s.claimCarriesAllowance n.body
  loading : s.loader = .loading ↔ s.cfg = none
  offUntilLoaded : s.cfg = none → ∀ d, (s.drops.get d).state = .off
  noClaimNotes : s.cfg = none → ∀ n ∈ s.cli.queue, n.body.isClaim = false

/-! ## The view table (02 R51, 03 R56) -/

/-- The view table has an entry for each of the 15 stations; a held value is at most 5000; an absent entry holds nothing;
the entry of the own number is absent. -/
structure State.ViewLaw (s : State) : Prop where
  entries : s.view.length = 15
  held : ∀ e ∈ s.view, e.held ≤ 5000
  absent : ∀ e ∈ s.view, e.present = false → e = absentView
  own : ∀ e, s.view[s.station]? = some e → e.present = false

/-! ## Site tables (11 R195) -/

/-- Two sites of one polarity stand more than 150 mm apart. -/
def Site.clear (a b : Site) : Prop :=
  a.kind.negative = b.kind.negative → Config.siteReachMm < apart a.center b.center

/-- "Each site table holds at most 4 sites, no two of one polarity with centers 150 mm or less apart, each with a count
from 1 to 65535" (11 R195). -/
structure SiteTable.Law (t : SiteTable) : Prop where
  slots : t.slots.length = 4
  counts : ∀ i v, t.site i = some v → 1 ≤ v.count ∧ v.count ≤ 65535
  apart : ∀ i j v w, i ≠ j → t.site i = some v → t.site j = some w → v.clear w

/-- Every drop's site table keeps its law. -/
def State.SiteLaw (s : State) : Prop := ∀ d, (s.sites.get d).Law

/-! ## Frames -/

/-- The fields of the state, as a frame names them. -/
inductive Block where
  | now | draws | pins | station | loader | clampedFields | resetsRefused | cfg | drops | links | cli | view
  | budget | trig | fmm | rx | shots | uplink | lens | locator | sites | pending
deriving DecidableEq, Repr

/-- Two states agree on a field. -/
def Block.same (b : Block) (s t : State) : Prop :=
  match b with
  | .now => t.now = s.now
  | .draws => t.draws = s.draws
  | .pins => t.pins = s.pins
  | .station => t.station = s.station
  | .loader => t.loader = s.loader
  | .clampedFields => t.clampedFields = s.clampedFields
  | .resetsRefused => t.resetsRefused = s.resetsRefused
  | .cfg => t.cfg = s.cfg
  | .drops => t.drops = s.drops
  | .links => t.links = s.links
  | .cli => t.cli = s.cli
  | .view => t.view = s.view
  | .budget => t.budget = s.budget
  | .trig => t.trig = s.trig
  | .fmm => t.fmm = s.fmm
  | .rx => t.rx = s.rx
  | .shots => t.shots = s.shots
  | .uplink => t.uplink = s.uplink
  | .lens => t.lens = s.lens
  | .locator => t.locator = s.locator
  | .sites => t.sites = s.sites
  | .pending => t.pending = s.pending

/-- Two states agree on everything that belongs to a drop alone: its drop record, Link Port, receive context, Lens
Controller and site table. -/
structure State.SameDrop (s t : State) (d : Drop) : Prop where
  drop : t.drops.get d = s.drops.get d
  link : t.links.get d = s.links.get d
  rx : t.rx.get d = s.rx.get d
  lens : t.lens.get d = s.lens.get d
  sites : t.sites.get d = s.sites.get d

/-- From `s` to `t` nothing changes but the fields named, and of what belongs to single drops nothing but what belongs
to the drops named. -/
structure State.ChangesOnly (s t : State) (touched : List Block) (ds : List Drop) : Prop where
  fields : ∀ b, b ∉ touched → b.same s t
  drops : ∀ d, d ∉ ds → s.SameDrop t d

/-- What a transition from a powered into an unpowered state can touch (01 R4). -/
def powerFields : List Block := [.draws, .drops, .links, .budget, .cli, .shots, .rx, .lens, .uplink, .locator]

/-- What an entry into CLAIMING can touch (01 R5). -/
def claimFields : List Block := [.drops, .lens, .budget, .cli]

/-- What a trigger can touch beyond the Trigger Unit (06 R108 to R114). -/
def shotFields : List Block := [.drops, .links, .lens, .budget, .cli, .shots, .uplink]

/-- What the end of a request can touch (10 R184). -/
def requestFields : List Block := [.cli, .drops, .locator]

/-- Whether a note is an EVENT. -/
def NoteBody.isEvent : NoteBody → Bool
  | .event _ => true
  | _ => false

/-- From `s` to `t` the Cell Line Interface changes only by notes that would join its queue, each of a kind that a test
picks (02 R41). -/
def State.Queues (p : NoteBody → Bool) (s t : State) : Prop :=
  ∃ bs : List NoteBody, (∀ b ∈ bs, p b = true) ∧ t.cli = bs.foldl Cli.enqueue s.cli

/-! ## The lens -/

/-- The burst that an axis asks for: in HOMING one step for the probe and 16 for the search, in MOVING up to 16 steps
toward the leg goal; with a halt owed, in TURN or at rest none (08 R142, R148, R152). -/
def AxisRec.Needs (ax : Axis) (x : AxisRec) (b : Burst) : Prop :=
  let goal := x.legGoal.getD x.target
  x.haltOwed = false ∧
    ((x.mode = .homing .probe ∧ b = { axis := ax, up := false, steps := 1, stopAtHome := true }) ∨
      (x.mode = .homing .search ∧ b = { axis := ax, up := false, steps := 16, stopAtHome := true }) ∨
      (x.mode = .moving .down ∧
        b = { axis := ax, up := false, steps := min 16 (x.position - goal), stopAtHome := false }) ∨
      (x.mode = .moving .up ∧
        b = { axis := ax, up := true, steps := min 16 (goal - x.position), stopAtHome := false }))

/-- An axis set going to a target on its first leg, by the table of 08 R152. -/
def AxisRec.movedTo (backlash target : Nat) (verify : Bool) (x : AxisRec) : AxisRec :=
  { x with
    target := target
    verify := verify
    mode := if x.position < target then .moving .up else .moving .down
    legGoal := some (if x.position < target then target else target - backlash) }

/-- An axis in IDLE where it stands (08 R154, R156). -/
def AxisRec.idled (x : AxisRec) : AxisRec :=
  { x with mode := .idle, target := x.position, legGoal := none, verify := false, haltOwed := false }

/-- An axis in ERROR where it stands (08 R144, R145). -/
def AxisRec.failedBy (c : AxisError) (x : AxisRec) : AxisRec :=
  { x with mode := .error c, target := x.position, legGoal := none, homed := false, haltOwed := false }

/-- A sweep record as an end leaves it (09 R172). -/
def Sweep.ended (o : SweepOutcome) (w : Sweep) : Sweep :=
  { w with phase := none, pointTimer := .stopped, lastOutcome := some o, endOwed := none }

/-- A lens whose drop has left READY (08 R145, 09 R172): an axis in HOMING or MOVING is in ERROR with cause LINK and its
homed flag clear, the slot is EMPTY, and a running sweep has ended LINK. -/
def Lens.leftReady (l : Lens) : Lens :=
  let left (x : AxisRec) : AxisRec := if x.mode.busy = true then x.failedBy .link else x
  { l with
    focus := left l.focus
    iris := left l.iris
    slot := none
    ackTimer := .stopped
    sweep := if l.sweep.phase = none then l.sweep else l.sweep.ended .link }

/-- The events of a lens whose drop leaves READY, in order: LENS_DONE with LINK for an axis in HOMING or MOVING, FOCUS
first, but not for a FOCUS that a sweep moves, and SWEEP_DONE of a running sweep (08 R145, R160; 09 R172). -/
def Lens.leavingNotes (d : Drop) (l : Lens) : List NoteBody :=
  (if l.focus.mode.busy = true ∧ l.sweep.phase = none then
      [.event (.lensDone d .focus .link l.focus.position)]
    else []) ++
    (if l.iris.mode.busy = true then [.event (.lensDone d .iris .link l.iris.position)] else []) ++
    if l.sweep.phase = none then [] else [.event (.sweepDone d .link l.focus.position none)]

/-- The parts a drop has open, the oldest entry's first. -/
def State.openParts (s : State) (d : Drop) : List Part :=
  s.shots.table.flatMap fun e => e.parts.filter fun p => decide (p.drop = d) && p.status.isOpen

/-- A drop's lens `x` after it has left READY with its open parts closed: a running sweep has passed each of them over
(06 R121, 09 R169), and then the lens has left READY. -/
def State.LensLeft (s : State) (d : Drop) (x : Lens) : Prop :=
  let l := s.lens.get d
  ∃ n, x = Lens.leftReady { l with sweep := { l.sweep with passed := n } } ∧
    (l.sweep.phase = none → n = l.sweep.passed) ∧
    (l.sweep.phase ≠ none → s.ShotLaw → n = (s.openParts d).foldl (fun k _ => bump k) l.sweep.passed)

/-! ## Transitions of a drop -/

/-- Both homed flags of a lens cleared (01 R4). -/
def Lens.unhomed (l : Lens) : Lens :=
  { l with focus := { l.focus with homed := false }, iris := { l.iris with homed := false } }

/-- A drop has entered CLAIMING from `s` (01 R5): its record is `r`, it stands at the tail of the claim queue, both
homed flags are clear, and of notes at most one CLAIM has been queued. -/
structure State.Claims (s u : State) (d : Drop) (r : DropRec) : Prop where
  frame : s.ChangesOnly u claimFields [d]
  record : u.drops.get d = r
  queue : u.budget = { s.budget with claims := (s.budget.claims.filter fun e => decide (e.drop ≠ d)) ++ [⟨d, .sendable⟩] }
  homed : u.lens.get d = (s.lens.get d).unhomed
  notes : u.cli = s.cli ∨ ∃ e, u.cli = s.cli.enqueue (.claim e (s.dropCfg e).allowance none)

/-- What every transition of a powered drop into an unpowered state does, whatever else it does to the drop record
(01 R4): the share is given up and its RELEASE queued unless one already is (03 R64), the powered timers stop, the port is
unlocked and its marks are gone, the receive context is free, both homed flags are clear; from READY the drop has no open
part any more and the lens has left READY with its events, which stand behind the RELEASE (log 20); from HUSHED the
capture runs on as a dark one (01 R20). -/
structure State.PowersDown (s u : State) (d : Drop) : Prop where
  frame : s.ChangesOnly u powerFields [d]
  unpowered : (u.drops.get d).state.powered = false
  timers : (u.drops.get d).rampWindow = .stopped ∧ (u.drops.get d).warmTimer = .stopped ∧
    (u.drops.get d).relockWindow = .stopped ∧ (u.drops.get d).stableTimer = .stopped ∧
    (u.drops.get d).napTimer = .stopped ∧ (u.drops.get d).steadyTrip = .stopped
  share : u.budget = { s.budget with ownHeld := s.budget.ownHeld - (s.dropCfg d).allowance }
  notes :
    let released :=
      if s.cli.queue.any (·.body.isReleaseOf d) = true then s else s.queueNote (.release d (s.dropCfg d).allowance none)
    let events := if (s.drops.get d).state = .ready then (s.lens.get d).leavingNotes d else []
    u.cli = (events.foldl State.queueNote released).cli
  release : s.stray = false → u.cli.queue.any (·.body.isReleaseOf d) = true
  port : u.links.get d = { locked := false, beatRun := 0, silence := .stopped, sending := none, waiting := [] }
  context : (u.rx.get d).mode = .idle
  homed : (u.lens.get d).focus.homed = false ∧ (u.lens.get d).iris.homed = false
  parts : s.ShotLaw → (s.drops.get d).state = .ready → u.dropHasOpenPart d = false
  lens : (s.drops.get d).state = .ready → ∃ x, s.LensLeft d x ∧ u.lens.get d = x.unhomed
  other : (s.drops.get d).state ≠ .ready → u.lens.get d = (s.lens.get d).unhomed
  capture : (s.drops.get d).state = .hushed →
    u.locator = { s.locator with capture := s.locator.capture.map fun c => { c with type := .dark } }
  locator : (s.drops.get d).state ≠ .hushed → u.locator = s.locator

/-- Every part that a drop had open in `s` has closed with a status in `u`, with the words, pages and flags it had and
without a score (06 R119 to R121), LENGTH_ERROR set too on the part whose fragment was cut off (05 R100); and no part of
another drop has changed. -/
def State.PartsLost (s u : State) (d : Drop) (c : ClosedStatus) (cutOff : Half → Bool) : Prop :=
  s.ShotLaw →
    (∀ n p, s.part n d = some p → p.status.isOpen = true →
      u.part n d = some
        { p with
          status := .closed c
          flags := { p.flags with lengthError := p.flags.lengthError || cutOff n }
          score := none
          nextIndex := none
          sums := none }) ∧
    ∀ n e, e ≠ d → u.part n e = s.part n e

/-- The drop has been powered down, and from READY its open parts have closed POWER_LOST (01 R4, 06 R120). -/
def State.LosesPower (s u : State) (d : Drop) : Prop :=
  s.PowersDown u d ∧ ((s.drops.get d).state = .ready → s.PartsLost u d .powerLost fun _ => false)

/-- A trip with a cause (01 R10), `o` being the outcome: TRIPPED with its backoff after the first and second trip of a
series, FAULT at the third; the DROP_STATE event is the last note queued. -/
def State.TripsTo (s : State) (d : Drop) (c : TripCause) (o : Host.Outcome State Fault Refusal) : Prop :=
  let r := s.drops.get d
  let tripped := { r.stopPowered with tripCount := bump r.tripCount, lastTripCause := some c }
  if r.tripSeries < 2 then
    ∃ u, o = .next (u.reportState d .tripped (some c.toCause)) ∧ s.LosesPower u d ∧
      u.drops.get d =
        { tripped with
          state := .tripped
          tripSeries := r.tripSeries + 1
          cause := some c.toCause
          backoffTimer := .running s.now (if r.tripSeries = 0 then 1000000 else 2000000)
          measured := (u.drops.get d).measured }
  else
    ∃ u, o = .next (u.reportState d .fault (some .tripLimit)) ∧ s.LosesPower u d ∧
      u.drops.get d =
        { tripped with
          state := .fault, tripSeries := 3, cause := some .tripLimit, measured := (u.drops.get d).measured }

/-- A drop enters FAULT with a cause other than a trip's (01 R16, R18, R24). -/
def State.FaultsTo (s : State) (d : Drop) (c : Cause) (o : Host.Outcome State Fault Refusal) : Prop :=
  ∃ u, o = .next (u.reportState d .fault (some c)) ∧ s.LosesPower u d ∧
    u.drops.get d =
      { (s.drops.get d).stopPowered with state := .fault, cause := some c, measured := (u.drops.get d).measured }

/-- The drop record of a drop that has entered READY (01 R12, R16, R18, R22). -/
def State.readied (s : State) (d : Drop) : DropRec :=
  { s.drops.get d with
    state := .ready
    warmTimer := .stopped
    relockWindow := .stopped
    stableTimer := .running s.now 60000000
    napTimer := if (s.dropCfg d).napSeconds = 0 then .stopped else .running s.now ((s.dropCfg d).napSeconds * 1000000) }

/-! ## Triggers, fragments and parts -/

/-- What an edge of the local trigger input comes to (04 R74): it is acted on only at an origin hub after loading, and
there counted, and withheld or sent as a TRIGGER note. -/
def State.EdgeTaken (s t : State) : Prop :=
  let u := s.trig
  match s.cfg with
  | none => t = s
  | some c =>
    if c.station.origin = false ∨ s.stray = true then t = s
    else if u.pendingMask.isSome = true ∨
        (c.station.respectHolds = true ∧ (s.fmm.hold = true ∨ ∃ e ∈ s.view, e.present = true ∧ e.hold = true)) then
      t = { s with trig := { u with edgeCount := bumpLong u.edgeCount, withheldCount := bump u.withheldCount } }
    else
      t =
        { s with
          cli := s.cli.enqueue (.trigger none c.station.localMask)
          trig := { u with edgeCount := bumpLong u.edgeCount, pendingMask := some c.station.localMask } }

/-- The end of a fragment at a drop's context by anything but its close word (05 R100, R102): a fragment in IN is a runt
and sets LENGTH_ERROR on its part, one in SKIP is let go without a count. -/
def State.FragmentEnded (s : State) (d : Drop) : State :=
  let r := s.rx.get d
  match r.mode with
  | .idle => s
  | .skip _ => { s with rx := s.rx.set d { r with mode := .idle } }
  | .inside t =>
    { s.modPart t d fun p => { p with flags := { p.flags with lengthError := true } } with
      rx := s.rx.set d { r with mode := .idle, runts := bump r.runts, lengthErrors := bump r.lengthErrors } }

/-- The part of a READY drop with locate_hold clear as a trigger opens it (06 R112, R114). -/
def State.freshPart (s : State) (d : Drop) : Part :=
  let l := s.lens.get d
  { drop := d
    status := .pending
    recorded := none
    flags :=
      { truncated := false, lengthError := false, sequence := false, overlong := false, frameCut := false
        moving := !(decide (l.focus.mode = .idle) && decide (l.iris.mode = .idle)) }
    focus := if l.focus.homed then some l.focus.position else none
    iris := if l.iris.homed then some l.iris.position else none
    words := 0
    lost := 0
    chain := []
    score := none
    brk := none
    nextIndex := some 0
    sums := if (s.dropCfg d).scoring then some { g := 0, n := 0, s := 0, m := 0, carry := none } else none }

/-- A part that is closed from its opening (06 R112). -/
def shutPart (d : Drop) (c : ClosedStatus) (recorded : Option DropState) : Part :=
  { drop := d
    status := .closed c
    recorded := recorded
    flags :=
      { truncated := false, lengthError := false, sequence := false, overlong := false, frameCut := false
        moving := false }
    focus := none
    iris := none
    words := 0
    lost := 0
    chain := []
    score := none
    brk := none
    nextIndex := none
    sums := none }

/-- The part of an involved drop at a trigger (06 R112). -/
def State.partAtTrigger (s : State) (d : Drop) : Part :=
  let r := s.drops.get d
  match r.state, r.locateHold with
  | .hushed, _ => shutPart d .locating none
  | _, true => shutPart d .locating none
  | .ready, false => s.freshPart d
  | .napping, false => shutPart d .asleep none
  | st, false => shutPart d .notReady (some st)

/-- A part as its shot's timeout closes it (06 R118, R121): what it has received and its flags stay. -/
def Part.timedOut (p : Part) : Part :=
  if p.status.isOpen then { p with status := .closed .timeout, nextIndex := none, sums := none, score := none } else p

/-! ## Records (12 section 12.6) -/

/-- The bits of a value in a field of a number of bits. -/
def fieldOf (bits n : Nat) : BitVec bits := BitVec.ofNat bits n

/-- The header words, field by field: trigger number, group mask, origin station, part count; skipped count. -/
def Entry.headerFields (e : Entry) : List Word :=
  [e.trigger ++ e.mask ++ fieldOf 4 e.origin.val ++ fieldOf 4 e.parts.length, fieldOf 16 e.skipped ++ fieldOf 16 0]

/-- Descriptor word 0, field by field: drop; status; recorded state, all ones where absent; MOVING, OVERLONG, SEQUENCE,
LENGTH_ERROR, TRUNCATED; score, focus, iris and break present; break kind; FRAME_CUT. A status counts from COMPLETE in the
order of 06 R106, a drop state follows 01 R1, a reflection kind 11 R194. -/
def Part.firstFields (p : Part) : Word :=
  let flag (b : Bool) : BitVec 1 := BitVec.ofBool b
  let status : Nat :=
    match p.status with
    | .closed c => [ClosedStatus.complete, .timeout, .linkLost, .powerLost, .asleep, .notReady, .locating].idxOf c
    | .pending | .receiving => 15
  let recorded : Nat :=
    match p.recorded with
    | some st =>
      [DropState.off, .claiming, .ramping, .warming, .ready, .hushed, .lost, .tripped, .napping, .fault].idxOf st
    | none => 15
  let kind : Nat :=
    match p.brk with
    | some b => [ReflectionKind.open, .short, .stepUp, .stepDown, .near, .none].idxOf b.1
    | none => 0
  fieldOf 2 p.drop.toNat ++ fieldOf 4 status ++ fieldOf 4 recorded ++ flag p.flags.moving ++ flag p.flags.overlong ++
    flag p.flags.sequence ++ flag p.flags.lengthError ++ flag p.flags.truncated ++ flag p.score.isSome ++
    flag p.focus.isSome ++ flag p.iris.isSome ++ flag p.brk.isSome ++ fieldOf 3 kind ++ flag p.flags.frameCut ++ fieldOf 9 0

/-- The seven descriptor words of a part, field by field; a field whose present bit is clear reads 0. -/
def Part.descriptorFields (frameSize : Nat) (p : Part) : List Word :=
  [p.firstFields, fieldOf 16 (p.focus.getD 0) ++ fieldOf 16 (p.iris.getD 0), fieldOf 32 p.words, fieldOf 32 p.lost,
    fieldOf 8 0 ++ fieldOf 24 (p.score.getD 0), fieldOf 32 ((p.brk.map Prod.snd).getD 0),
    fieldOf 32 (if p.words = 0 then 0 else frameSize)]

/-- The words of an entry's record before its part data (07 R131). -/
def State.recordFields (s : State) (e : Entry) : List Word :=
  e.headerFields ++ e.parts.flatMap fun p => p.descriptorFields (s.dropCfg p.drop).frameSize

/-! ## Requests (12 section 12.5, R205) -/

/-- The requests: the command, its kind, whether it needs service rank, whether it names a drop. QUERY_STATION reads its
drop field for some of its indices alone. -/
def requestTable : List ((Request → Instr) × RequestKind × Bool × Bool) :=
  [(.powerOn, .powerOn, true, true), (.powerOff, .powerOff, true, true), (.wake, .wake, false, true),
    (.clear, .clear, true, true), (.queryDrop, .queryDrop, false, true), (.lensHome, .lensHome, false, true),
    (.lensMove, .lensMove, false, true), (.lensNudge, .lensNudge, false, true), (.lensHalt, .lensHalt, false, true),
    (.lensPush, .lensPush, false, true), (.lensPop, .lensPop, false, true), (.queryLens, .queryLens, false, true),
    (.lensSweep, .lensSweep, false, true), (.querySweep, .querySweep, false, true), (.locate, .locate, false, true),
    (.locateHalt, .locateHalt, false, true), (.querySites, .querySites, false, true),
    (.clearSites, .clearSites, true, true), (.queryStation, .queryStation, false, false)]

/-- The values of indices 0 to 60 of QUERY_STATION, in order, with the cell budget and the ring's free count given
(12 R205). -/
def State.stationTable (s : State) (cellBudget free : Nat) : List Nat :=
  let k := s.cli.counters
  let b := s.budget
  let t := s.trig
  let f := s.fmm
  let h := s.shots
  let u := s.uplink
  let l := s.locator
  [s.station, [LoaderState.loading, .loaded, .defaulted].idxOf s.loader, s.clampedFields, s.resetsRefused, cellBudget,
    b.ownHeld,
    k.notesSent, k.notesHeard, k.arbitrationLosses, k.sendErrors, k.notesDropped, k.receiveErrors, k.formatErrors,
    k.abortsHeard, k.classThreeRefusals, k.answerRefusals, k.duplicateSuspected,
    b.claimsGranted, b.claimsVoid, b.unusedGrants, b.claimsDropped,
    t.expected.toNat, t.synced.toNat, t.edgeCount, t.withheldCount, t.slipCount, t.triggerCount,
    f.freeCount, f.hold.toNat, f.lowWater, f.takeFailures,
    h.table.length, h.table.countP (fun e => decide (e.state = .open)), h.skipped, h.opened, h.shotsSkipped, h.duplicates,
    h.breaksAttached, h.breaksUnattached,
    u.place, u.mark, free, [Pause.none, .empty, .headOpen, .ring, .link, .restart].idxOf u.pause,
    (if u.linkUp then 0 else 1), u.recordsSent, u.fillWords, u.overlongParts, u.ringPauses, u.linkLosses, u.badMarks,
    l.flashes.length + l.requests.length,
    (match l.active with
    | some a => [LocatePhase.quiesce, .bundle, .launch, .settle, .capture].idxOf a.phase
    | none => 255),
    l.requestsTaken, l.flashesRun, l.flashesStale, l.flashesIgnored, l.bundleDeferrals, l.bundleFailures, l.noLaunch,
    l.analysed, l.halts]

/-- The values of indices 61 to 80 of QUERY_STATION for a drop, in order (12 R205). -/
def State.dropTable (s : State) (d : Drop) : List Nat :=
  let r := s.rx.get d
  let t := s.sites.get d
  let l := s.lens.get d
  [r.bound, r.badMarkers, r.stray, r.late, r.runts, r.lengthErrors, r.sequenceErrors, r.overlong, r.lostWords, t.evictions,
    t.nextSeq.toNat, l.burstsSent, l.acks, l.ackTimeouts, l.strayAcks, l.homings, l.homeFailures, l.moves,
    l.verifyFailures, l.sweep.passed]

/-! ## The EEPROM image (12 section 12.6, R206) -/

/-- The number in some bytes of an image, most significant byte first. -/
def imageField (img : List Byte) (first count : Nat) : Nat :=
  ((img.drop first).take count).foldl (fun n b => n * 256 + b.toNat) 0

/-- A flag in a byte of an image. -/
def imageFlag (img : List Byte) (byte bit : Nat) : Bool := (img.getD byte 0).getLsbD bit

/-- The image passes the checks: its length field, its format number and its sum (12 R206). -/
def imageAccepted (img : List Byte) : Prop :=
  imageField img 0 2 = 177 ∧ imageField img 2 1 = 1 ∧
    (((img.take 175).map BitVec.toNat).sum + imageField img 175 2) % 65536 = 0

/-- The release threshold of an image: at most 4096, and above the hold threshold in its range (05 R88). -/
def imageRelease (img : List Byte) : Nat := max (min 4095 (imageField img 13 2) + 1) (min 4096 (imageField img 15 2))

/-- The station section of an image, each field in its range (03 R55, 04 R72, 05 R88, 06 R107, 07 R127). -/
def imageStation (img : List Byte) : StationCfg :=
  let ring := max 2 (min 4096 (imageField img 19 2))
  { controllerSet := fieldOf 16 (imageField img 3 2)
    serviceSet := fieldOf 16 (imageField img 5 2)
    cellBudget := min 20000 (imageField img 7 2)
    origin := imageFlag img 9 0
    respectHolds := imageFlag img 9 1
    localMask := img.getD 10 0
    qualifyUs := min 1000 (imageField img 11 2)
    holdThreshold := min 4095 (imageField img 13 2)
    releaseThreshold := imageRelease img
    shotTimeoutMs := max 1 (min 1000 (imageField img 17 2))
    ringLength := ring
    pauseThreshold := max 2 (min ring (imageField img 21 2))
    fillWord := fieldOf 32 (imageField img 23 4) }

/-- The section of a drop in an image, each field in its range (12 R206, 07 R127, 08 R140, 09 R162, 11 R188). -/
def imageDrop (img : List Byte) (d : Drop) : DropCfg :=
  let base := 27 + 37 * d.toNat
  let num (place count : Nat) : Nat := imageField img (base + place) count
  { enabled := imageFlag img base 0
    autoPower := imageFlag img base 1
    scoring := imageFlag img base 2
    allowance := min 1250 (num 1 2)
    napSeconds := min 600 (num 3 2)
    group := min 7 (num 5 1)
    bundle := min 15 (num 6 1)
    startPattern := img.getD (base + 7) 0
    startMask := img.getD (base + 8) 0
    endPattern := img.getD (base + 9) 0
    endMask := img.getD (base + 10) 0
    frameSize := max 1 (min 4194304 (num 11 4))
    focusRange := max 1 (min 30000 (num 15 2))
    irisRange := max 1 (min 4000 (num 17 2))
    focusBacklash := num 19 1
    irisBacklash := num 20 1
    burstIntervalMs := max 1 (min 50 (num 21 1))
    frameWidth := max 4 (num 22 2 / 4 * 4)
    firstRow := num 24 2
    lastRow := max (num 24 2) (num 26 2)
    firstColumn := num 28 2
    lastColumn := max (num 28 2) (num 30 2)
    threshold := max 8 (min 511 (num 32 2))
    velocity := max 500 (min 990 (num 34 2))
    calibration := num 36 1 }

/-- The fields of an image that have a range, each with the value it spells and the value it takes. -/
def imageRanged (img : List Byte) : List (Nat × Nat) :=
  let c := imageStation img
  [(imageField img 7 2, c.cellBudget), (imageField img 11 2, c.qualifyUs), (imageField img 13 2, c.holdThreshold),
    (imageField img 15 2, c.releaseThreshold), (imageField img 17 2, c.shotTimeoutMs),
    (imageField img 19 2, c.ringLength), (imageField img 21 2, c.pauseThreshold)] ++
    Drop.all.flatMap fun d =>
      let num (place count : Nat) : Nat := imageField img (27 + 37 * d.toNat + place) count
      let x := imageDrop img d
      [(num 1 2, x.allowance), (num 3 2, x.napSeconds), (num 5 1, x.group), (num 6 1, x.bundle), (num 11 4, x.frameSize),
        (num 15 2, x.focusRange), (num 17 2, x.irisRange), (num 21 1, x.burstIntervalMs), (num 22 2, x.frameWidth),
        (num 26 2, x.lastRow), (num 30 2, x.lastColumn), (num 32 2, x.threshold), (num 34 2, x.velocity)]

/-- The configuration after DEFAULTED, but for the drop fields to which the chapters give no value then (12 R206; log 12). -/
def defaultedWith (napSeconds group bundle : Nat) : Configuration :=
  { station :=
      { controllerSet := 0x7fff, serviceSet := 0x7fff, cellBudget := 0, origin := false, respectHolds := true
        localMask := 0, qualifyUs := 0, holdThreshold := 0, releaseThreshold := 1, shotTimeoutMs := 100, ringLength := 2
        pauseThreshold := 2, fillWord := 0 }
    drops := PerDrop.const
      { enabled := false, autoPower := false, scoring := false, allowance := 0, napSeconds := napSeconds, group := group
        bundle := bundle, startPattern := 0, startMask := 255, endPattern := 0, endMask := 255, frameSize := 1
        focusRange := 1, irisRange := 1, focusBacklash := 0, irisBacklash := 0, burstIntervalMs := 50, frameWidth := 4
        firstRow := 0, lastRow := 0, firstColumn := 0, lastColumn := 0, threshold := 64, velocity := 660
        calibration := 0 } }

/-! ## The locator and the sweeps -/

/-- FOCUS set going to a point by a sweep that then is in a phase, or, where it stands there, what follows at once. -/
def State.sweepGoes (s : State) (d : Drop) (t : Nat) (w : Sweep) (there : State) : State :=
  let l := s.lens.get d
  if l.focus.position = t then there
  else { s with lens := s.lens.set d { l with focus := l.focus.movedTo (s.dropCfg d).focusBacklash t false, sweep := w } }

/-- A bundle's entry loses its holder; a request that waits for it queues its LOCATE_START (10 R180, R181). -/
def State.freed (s : State) (b : Nat) : State :=
  let l := { s.locator with holders := s.locator.holders.set (b - 1) none }
  match s.locator.active with
  | none => { s with locator := l }
  | some a =>
    if a.phase = .bundle ∧ a.bundleState ≠ .queued ∧ (s.dropCfg a.drop).bundle = b then
      { s.queueNote (.locateStart b a.drop) with
        locator := { l with active := some { a with bundleState := .queued } } }
    else { s with locator := l }

/-- A deferral of the active request (10 R181). -/
def State.deferred (s : State) (a : ActiveRequest) : State :=
  let l := s.locator
  if a.deferrals < 8 then
    { s with
      locator :=
        { l with
          active := some { a with deferrals := a.deferrals + 1 }, bundleDeferrals := bump l.bundleDeferrals } }
  else State.finishRequest { s with locator := { l with bundleFailures := bump l.bundleFailures } } a .bundleBusy

/-- A request as it begins its bundle phase, `a` carrying its capture type (10 R181). -/
def State.contends (s : State) (a : ActiveRequest) : State :=
  let b := (s.dropCfg a.drop).bundle
  let inPhase (u : State) (x : ActiveRequest) : State := { u with locator := { s.locator with active := some x } }
  let waiting := { a with phase := .bundle }
  if b = 0 then inPhase s { a with phase := .launch }
  else
    match s.locator.holder b with
    | none => inPhase (s.queueNote (.locateStart b a.drop)) { waiting with bundleState := .queued }
    | some h => if h.station.val = s.station then inPhase s waiting else (inPhase s waiting).deferred waiting

/-! ## Premises of the statements -/

/-- A REQUEST is taken here with a rank: it comes from another station, is addressed to this one, and its requester
has the rank (12 R202). -/
structure State.Takes (s : State) (rank : Rank) (r : Request) : Prop where
  foreign : r.src.val ≠ s.station
  addressed : s.addressed r = true
  ranked : s.ranked rank r.src = true

/-- A REQUEST that names a drop is taken here. -/
structure State.TakesDrop (s : State) (rank : Rank) (r : Request) (d : Drop) : Prop extends s.Takes rank r where
  drop : requestDrop r = some d

/-- The note on the line is of a kind. -/
def State.OnLine (s : State) (b : NoteBody) : Prop := ∃ n, s.onLine = some n ∧ n.body = b

/-- The port of a drop is LOCKED. -/
def State.Locked (s : State) (d : Drop) : Prop := (s.links.get d).locked = true

end Sys2Proof.Machine
end

