-- ==== Sys2Proof/Certificates/Slice0/Obligations.lean ====
section
/-! DEFINITION. The statements for the provers, in the order of OBLIGATIONS.json. -/

section

open Sys2Proof Sys2Proof.Machine

/-! ## Drops, power and link (01) -/

/-- POWER_ON (01 R25): refused for a drop that is not enabled or in FAULT; an OFF drop enters CLAIMING with its
on-intent set; any other drop is not changed. -/
def Obligations.PowerOnClaimsAnOffDrop : Prop :=
  ∀ (r : Request) (d : Drop) (s : State), s.TakesDrop .service r d →
    let rec' := s.drops.get d
    let code := RequestKind.powerOn.value
    if (s.dropCfg d).enabled = false ∨ rec'.state = .fault then
      exec (.powerOn r) s = .next (s.countHeard.answer code r .refusedState (.dropState rec'.state))
    else if rec'.state = .off then
      ∃ u, exec (.powerOn r) s = .next (u.answer code r .accepted (.dropState .claiming)) ∧
        s.countHeard.Claims u d { rec' with state := .claiming, onIntent := true }
    else exec (.powerOn r) s = .next (s.countHeard.answer code r .done (.dropState rec'.state))

/-- POWER_OFF (01 R26, R24): the on-intent is cleared in every state; a FAULT drop stays as it is, an unpowered one
enters OFF, leaving the claim queue or stopping its backoff, and a powered one is powered down. That the RELEASE and the
events stand in the queue before the ANSWER is the model's choice (log 22); the order of the notes at leaving READY is log
20. -/
def Obligations.PowerOffTurnsADropOff : Prop :=
  ∀ (r : Request) (d : Drop) (s : State), s.TakesDrop .service r d →
    let rec' := s.drops.get d
    let code := RequestKind.powerOff.value
    let off := { rec' with onIntent := false, state := .off, cause := none }
    ∃ u, exec (.powerOff r) s = .next (u.answer code r .done (.dropState (u.drops.get d).state)) ∧
      if rec'.state = .fault then
        u.drops.get d = { rec' with onIntent := false } ∧ s.countHeard.ChangesOnly u [.drops] [d]
      else if rec'.state.powered then
        s.countHeard.LosesPower u d ∧
          u.drops.get d = { off.stopPowered with measured := (u.drops.get d).measured }
      else
        u.drops.get d = { off with backoffTimer := .stopped } ∧
          s.countHeard.ChangesOnly u [.drops, .lens, .budget] [d] ∧
          u.lens.get d = (s.lens.get d).unhomed ∧
          u.budget =
            (if rec'.state = .claiming then
              { s.budget with claims := s.budget.claims.filter fun e => decide (e.drop ≠ d) }
            else s.budget)

/-- WAKE (01 R27, R23): a NAPPING drop enters CLAIMING, in every other state nothing changes. -/
def Obligations.WakeClaimsANappingDrop : Prop :=
  ∀ (r : Request) (d : Drop) (s : State), s.TakesDrop .controller r d →
    let code := RequestKind.wake.value
    if (s.drops.get d).state = .napping then
      ∃ u, exec (.wake r) s = .next (u.answer code r .accepted (.dropState .claiming)) ∧
        s.countHeard.Claims u d { s.drops.get d with state := .claiming }
    else exec (.wake r) s = .next (s.countHeard.answer code r .refusedState (.dropState (s.drops.get d).state))

/-- CLEAR (01 R28): a FAULT drop enters OFF, with its counts kept; in every other state nothing changes. -/
def Obligations.ClearTakesADropOutOfFault : Prop :=
  ∀ (r : Request) (d : Drop) (s : State), s.TakesDrop .service r d →
    let rec' := s.drops.get d
    let code := RequestKind.clear.value
    if rec'.state = .fault then
      ∃ u, exec (.clear r) s = .next (u.answer code r .done (.dropState .off)) ∧
        u.drops.get d =
          { rec' with state := .off, onIntent := false, tripSeries := 0, cause := none, lastTripCause := none } ∧
        u.lens.get d = (s.lens.get d).unhomed ∧ s.countHeard.ChangesOnly u [.drops, .lens] [d]
    else exec (.clear r) s = .next (s.countHeard.answer code r .refusedState (.dropState rec'.state))

/-- POWER_GOOD with the ramp window running and an allowance above 0 (01 R3, R7, R16): the drop enters WARMING with its
warm timer started and the beat run 0; with an allowance of 0 power good is not reached. LOCK_GAIN on an UNLOCKED port of
a powered drop (01 R14): LOCKED with a beat run of 0, and the 4 ms begin. In any other state nothing changes (log 6). -/
def Obligations.RampedDropsWarmAndLock : Prop :=
  ∀ (d : Drop) (s : State),
    let r := s.drops.get d
    let l := s.links.get d
    let allowance := (s.dropCfg d).allowance
    (r.state = .ramping → r.rampWindow.isRunning = true → allowance ≠ 0 →
      ∃ t, exec (.powerGood d) s = .next t ∧ s.ChangesOnly t [.drops, .links] [d] ∧
        t.drops.get d = { r with state := .warming, rampWindow := .stopped, warmTimer := .running s.now 3000000 } ∧
        t.links.get d = { l with beatRun := 0 }) ∧
    ((r.state ≠ .ramping ∨ r.rampWindow.isRunning = false ∨ allowance = 0) → exec (.powerGood d) s = .next s) ∧
    (r.state.powered = true → l.locked = false →
      ∃ t, exec (.lockGain d) s = .next t ∧ s.ChangesOnly t [.links] [d] ∧
        t.links.get d = { l with locked := true, beatRun := 0, silence := .running s.now 4000 }) ∧
    ((r.state.powered = false ∨ l.locked = true) → exec (.lockGain d) s = .next s)

/-- The three trips (01 R3, R7 to R10): by the ramp window in RAMPING, by the steady-trip timer and by the hard trip level
in every powered state, in RAMPING only where the ramp limit of twice the allowance reaches that level; in an unpowered
state none is acted on. The order of the notes at leaving READY is log 20. -/
def Obligations.TripsEndInTrippedOrFault : Prop :=
  ∀ (d : Drop) (s : State),
    let r := s.drops.get d
    (r.state = .ramping → r.rampWindow.isRunning = true → s.TripsTo d .rampFail (exec (.rampWindowExpiry d) s)) ∧
    (r.state.powered = true → r.steadyTrip.isRunning = true →
      s.TripsTo d .overcurrent (exec (.steadyTripExpiry d) s)) ∧
    (r.state.powered = true → (r.state = .ramping → 1000 ≤ (s.dropCfg d).allowance) →
      s.TripsTo d .short (exec (.hardTrip d) s)) ∧
    (r.state = .ramping → (s.dropCfg d).allowance < 1000 → exec (.hardTrip d) s = .next s) ∧
    (r.state.powered = false →
      exec (.rampWindowExpiry d) s = .next s ∧ exec (.steadyTripExpiry d) s = .next s ∧
        exec (.hardTrip d) s = .next s)

/-- A sample of the drop current (01 R3, R8, R9; both commands carry a sample, log 25): the measured current saturates at
4095 mA and in RAMPING at twice the allowance. In a powered state it is compared with two levels: at 2000 mA or more the
drop trips at once, cause SHORT (the order of the notes at leaving READY is log 20); otherwise the steady-trip timer starts
above the steady trip level and stops at it or below. -/
def Obligations.SamplesDriveTheSteadyTripTimer : Prop :=
  ∀ (d : Drop) (n : Nat) (s : State),
    let a := (s.dropCfg d).allowance
    let r := s.drops.get d
    let m := if r.state = .ramping then min (2 * a) (min 4095 n) else min 4095 n
    ∀ c : Instr, (c = .currentAboveSteady d n ∨ c = .currentBelowSteady d n) →
      if r.state.powered = true ∧ 2000 ≤ m then s.TripsTo d .short (exec c s)
      else
        ∃ t, exec c s = .next t ∧ s.ChangesOnly t [.drops] [d] ∧
          t.drops.get d =
            { r with
              measured := m
              steadyTrip :=
                if r.state.powered = false then r.steadyTrip
                else if m ≤ a + a / 4 then .stopped
                else if r.steadyTrip.isRunning then r.steadyTrip
                else .running s.now 10000 }

/-- BACKOFF_EXPIRY (01 R11, R5): the cause becomes absent and the drop enters CLAIMING, with the trip series unchanged;
and POWER_OFF in TRIPPED stops the backoff timer. -/
def Obligations.BackoffEndsInClaiming : Prop :=
  (∀ (d : Drop) (s : State), (s.drops.get d).state = .tripped → (s.drops.get d).backoffTimer.isRunning = true →
    ∃ t, exec (.backoffExpiry d) s = .next t ∧
      s.Claims t d { s.drops.get d with state := .claiming, cause := none, backoffTimer := .stopped }) ∧
  ∀ (r : Request) (d : Drop) (s : State), s.TakesDrop .service r d → (s.drops.get d).state = .tripped →
    ∃ t, exec (.powerOff r) s = .next t ∧ (t.drops.get d).backoffTimer = .stopped ∧ (t.drops.get d).state = .off

/-- The timers that end a powered state without a trip (01 R16, R18, R22, R24): the warm timer gives FAULT with NO_LINK,
the relock window FAULT with LINK_DEAD, the nap timer NAPPING.
The stable timer sets the trip series back to 0 and changes nothing else (01 R12). The order of the notes at leaving READY
is log 20. -/
def Obligations.TimersEndTheirStates : Prop :=
  ∀ (d : Drop) (s : State),
    let r := s.drops.get d
    (r.state = .warming → r.warmTimer.isRunning = true → s.FaultsTo d .noLink (exec (.warmTimerExpiry d) s)) ∧
    (r.state = .lost → r.relockWindow.isRunning = true → s.FaultsTo d .linkDead (exec (.relockWindowExpiry d) s)) ∧
    (r.state = .ready → r.napTimer.isRunning = true →
      ∃ u, exec (.napTimerExpiry d) s = .next (u.reportState d .napping none) ∧ s.LosesPower u d ∧
        u.drops.get d = { r.stopPowered with state := .napping, measured := (u.drops.get d).measured }) ∧
    (r.stableTimer.isRunning = true →
      ∃ t, exec (.stableTimerExpiry d) s = .next t ∧ s.ChangesOnly t [.drops] [d] ∧
        t.drops.get d = { r with tripSeries := 0, stableTimer := .stopped })

/-- A loss of lock, by LOCK_LOSS or by LOCK_TIMEOUT (01 R14, R17; 05 R100; 06 R119; 08 R145; 10 R177). In READY the drop
goes LOST, powered as before: its open parts close LINK_LOST, the lens leaves READY with ERROR and LENS_DONE, cause LINK, for
an axis in operation and the end of a running sweep, and a flash is asked for with the time and
the last trigger number relayed. In any other state only the port and the receive context take it. The order of the two
closings is the command's operand; that of the flash and the lens's events is log 20. -/
def Obligations.LockLossTakesAReadyDropToLost : Prop :=
  ∀ (d : Drop) (order : LossOrder) (s : State), s.Locked d → ∃ t,
    exec (.lockLoss d order) s = .next t ∧
    ((s.links.get d).silence.isRunning = true → exec (.lockTimeout d order) s = .next t) ∧
    t.links.get d = { s.links.get d with locked := false, beatRun := 0, silence := .stopped } ∧
    (t.rx.get d).mode = .idle ∧
    let r := s.drops.get d
    let l := s.locator
    if r.state = .ready then
      s.ChangesOnly t [.drops, .links, .rx, .shots, .lens, .cli, .uplink, .locator] [d] ∧
      t.drops.get d =
        { r with
          state := .lost, lockLossCount := bump r.lockLossCount, stableTimer := .stopped, napTimer := .stopped
          relockWindow := .running s.now 200000 } ∧
      (s.ShotLaw → t.dropHasOpenPart d = false) ∧
      (s.PartsLost t d .linkLost fun n =>
        decide (order = .receiverFirst) && decide ((s.rx.get d).mode = .inside n)) ∧
      s.LensLeft d (t.lens.get d) ∧
      t.cli = (((s.lens.get d).leavingNotes d).foldl State.queueNote s).cli ∧
      t.locator =
        (if l.flashing d = true ∨ 6 ≤ l.flashes.length + l.requests.length then
          { l with flashesIgnored := bump l.flashesIgnored }
        else { l with flashes := l.flashes ++ [⟨d, s.now, s.shots.lastRelayed.get d⟩] })
    else
      t = State.FragmentEnded
        { s with links := s.links.set d { s.links.get d with locked := false, beatRun := 0, silence := .stopped } } d

/-- BEAT in lock (01 R14, R16, R18; 05 R100, R102): the beat run grows, saturating at 255, and the receive context is
free; the sixth beat takes a WARMING drop, or a LOST one with its relock window running, to READY with a DROP_STATE
event. -/
def Obligations.SixthBeatMakesADropReady : Prop :=
  ∀ (d : Drop) (s : State), s.Locked d →
    let r := s.drops.get d
    ∃ u, s.ChangesOnly u [.drops, .links, .rx, .shots] [d] ∧
      u.links.get d =
        { s.links.get d with beatRun := min 255 ((s.links.get d).beatRun + 1), silence := .running s.now 4000 } ∧
      (u.rx.get d).mode = .idle ∧
      if 5 ≤ (s.links.get d).beatRun ∧ r.state = .warming then
        exec (.beat d) s = .next (u.reportState d .ready none) ∧ u.drops.get d = s.readied d ∧
          u.shots.lastRelayed.get d = none
      else if 5 ≤ (s.links.get d).beatRun ∧ r.state = .lost ∧ r.relockWindow.isRunning = true then
        exec (.beat d) s = .next (u.reportState d .ready none) ∧
          u.drops.get d = { s.readied d with dropoutCount := bump r.dropoutCount } ∧
          u.shots.lastRelayed.get d = none
      else exec (.beat d) s = .next u ∧ u.drops.get d = r

/-- MARK_SENT (01 R15, 08 R143, 10 R182): the next waiting mark begins; a burst that is still in the slot starts its
acknowledgement timer, the HUSH of a request in SETTLE the settle wait. The transmitter's order (01 R15): a mark handed to
it joins behind the marks there, but before those of its own moment that come after it in the order HUSH or UNHUSH, trigger
marks, lens burst (what one moment is: log 36). -/
def Obligations.MarksAreSentInOrder : Prop :=
  (∀ (l : LinkPort) (now : Nat) (m : Mark) (before after : List HandedMark),
    let order (x : Mark) : Nat := match x with | .hush | .unhush => 0 | .trigger _ => 1 | .burst _ _ => 2
    let comesAfter (x : HandedMark) : Prop := x.moment = now ∧ order m < order x.mark
    let marks := before ++ { mark := m, moment := now } :: after
    l.sending.toList ++ l.waiting = before ++ after → (∀ x ∈ before, ¬comesAfter x) →
      (∀ x, after.head? = some x → comesAfter x) →
      l.hand now m = { l with sending := marks.head?, waiting := marks.tail }) ∧
  ∀ (d : Drop) (h : HandedMark) (s : State), (s.links.get d).sending = some h →
    let m := h.mark
    ∃ t,
    exec (.markSent d) s = .next t ∧ s.ChangesOnly t [.links, .lens, .locator] [d] ∧
    t.links.get d =
      { s.links.get d with sending := (s.links.get d).waiting.head?, waiting := (s.links.get d).waiting.tail } ∧
    t.lens.get d =
      { s.lens.get d with
        ackTimer :=
          match m, (s.lens.get d).slot with
          | .burst _ n, some b => if b.2 = n then .running s.now 5000 else (s.lens.get d).ackTimer
          | _, _ => (s.lens.get d).ackTimer } ∧
    t.locator =
      { s.locator with
        settle :=
          match m, s.locator.active with
          | .hush, some a => if a.drop = d ∧ a.phase = .settle then .running s.now 500 else s.locator.settle
          | _, _ => s.locator.settle }

/-! ## The cell line (02) -/

/-- NOTE_START (02 R33, R40, R42, R45): the head, the first joined of the lowest class, goes on the line with its fields
filled (02 R42, R49), and its frame is driven. -/
def Obligations.NoteStartSendsTheHead : Prop :=
  ∀ s : State, s.stray = false → s.cli.startWait = .stopped → s.loader ≠ .loading → s.cli.queue ≠ [] → s.onLine = none →
    let presence : PresenceFields :=
      { held := BitVec.ofNat 16 s.budget.ownHeld
        hold := s.fmm.hold
        defaulted := decide (s.loader = .defaulted)
        origin := match s.cfg with | none => false | some c => c.station.origin
        synced := s.trig.synced
        nextExpected := if s.trig.synced then s.trig.expected else 0 }
    let filled (b : NoteBody) : NoteBody :=
      match b with
      | .trigger _ mask => .trigger (some s.trig.expected) mask
      | .claim d amount _ => .claim d amount (some (s.budget.ownHeld + amount))
      | .release d amount _ => .release d amount (some s.budget.ownHeld)
      | .presence _ => .presence (some presence)
      | _ => b
    ∃ pre n post, s.cli.queue = pre ++ n :: post ∧ (∀ m ∈ pre, n.body.cls < m.body.cls) ∧
      (∀ m ∈ post, n.body.cls ≤ m.body.cls) ∧
      exec .noteStart s = .next
        { s with
          cli :=
            { s.cli with
              queue := pre ++ { n with body := filled n.body, onLine := true } :: post
              drive := (frameOf s.station (filled n.body)).lineBits
              waitGaps := 1 } }

/-- The end of an attempt without an echo (02 R33, R38, R39). A loss of arbitration, and a recessive bit read as dominant
in the arbitration field, leave the note in its place uncounted. A send error below the eighth leaves it in its place with
its class kept, an abort run driven and a wait of the station number + 1 gaps. At the eighth the note leaves the queue,
and the block that queued it is told; that the next start then waits for one gap is log 30, that an arbitration loss is no
send error log 28, and the field of an inserted bit log 38. -/
def Obligations.FailedAttemptsKeepOrDropTheNote : Prop :=
  ∀ (s : State) (pre post : List QNote) (n : QNote) (e : BitError),
    s.cli.queue = pre ++ n :: post → n.onLine = true → (∀ m ∈ pre, m.onLine = false) →
    let c := s.cli.counters
    let isLoss := e.field = .arbitration ∧ e.sentDominant = false
    let kind : ErrorClass :=
      if e.sentDominant = false ∧ e.heardAbort = false ∧ (e.field = .kind ∨ e.field = .length ∨ e.field = .payload) then
        .contention
      else .corrupt
    let lost : State :=
      { s with
        cli :=
          { s.cli with
            queue := pre ++ { n with onLine := false } :: post
            drive := []
            counters := { c with arbitrationLosses := bump c.arbitrationLosses } } }
    exec .arbitrationLoss s = .next lost ∧
    exec (.sendError e) s =
      if isLoss then .next lost
      else if n.failures.length < 7 then
        .next
          { s with
            cli :=
              { s.cli with
                queue := pre ++ { n with onLine := false, failures := n.failures ++ [kind] } :: post
                drive := abortRun
                waitGaps := s.station + 1
                counters := { c with sendErrors := bump c.sendErrors } } }
      else
        .next (State.tellDropped
          { s with
            cli :=
              { s.cli with
                queue := pre ++ post
                drive := abortRun
                waitGaps := 1
                counters :=
                  { c with
                    sendErrors := bump c.sendErrors
                    notesDropped := bump c.notesDropped
                    duplicateSuspected :=
                      if ∀ k ∈ n.failures ++ [kind], k = .contention then bump c.duplicateSuspected
                      else c.duplicateSuspected } } } n.body)

/-- Notes that reach no block (02 R34 to R37): the own PRESENCE, ANSWER or EVENT leaves the queue at its echo and is
counted sent; each failed check has its counter; a note with the own number is discarded and counted, as heard too by
log 16; an ANSWER or EVENT of another station is counted heard. -/
def Obligations.NotesForNoBlockOnlyCount : Prop :=
  ∀ s : State,
    let c := s.cli.counters
    let counted (k : LineCounters) : Host.Outcome State Fault Refusal := .next { s with cli := { s.cli with counters := k } }
    (∀ (pre post : List QNote) (n : QNote),
      s.cli.queue = pre ++ n :: post → n.onLine = true → (∀ m ∈ pre, m.onLine = false) →
      (n.body.cls = 2 ∨ n.body.cls = 3) →
      exec .noteEcho s = .next
        { s with
          cli :=
            { s.cli with
              queue := pre ++ post
              drive := []
              counters := { c with notesSent := satAdd 4294967295 c.notesSent 1 } } }) ∧
    (∀ f, exec (.noteDiscarded f) s = counted
      (match f with
      | .dominantRun => { c with abortsHeard := bump c.abortsHeard }
      | .recessiveRun | .crc | .endField => { c with receiveErrors := bump c.receiveErrors }
      | .lengthAboveEight | .unknownKind | .lengthNotAllowed | .stationFifteen =>
        { c with formatErrors := bump c.formatErrors })) ∧
    (∀ src : Station, src.val ≠ s.station →
      exec (.noteHeard src) s = counted { c with notesHeard := bumpLong c.notesHeard } ∧
        exec (.noteHeard src) s = .next s.countHeard) ∧
    (exec .ownNumberHeard s = counted
      { c with notesHeard := bumpLong c.notesHeard, duplicateSuspected := bump c.duplicateSuspected })

/-- PRESENCE and the view (02 R49 to R51, 03 R67): an accepted PRESENCE sets its sender's entry; a present entry whose age
ends becomes absent; at its expiry the presence timer starts again and a PRESENCE is queued unless one already is, one on
the line counting as queued (log 27). -/
def Obligations.PresenceRefreshesTheView : Prop :=
  (∀ (src : Station) (p : PresenceFields) (s : State), src.val ≠ s.station →
    exec (.presenceReceived src p) s = .next
      { s.countHeard with
        view := s.view.set src.val { age := .running s.now 1000000, held := min 5000 p.held.toNat, hold := p.hold } }) ∧
  (∀ (st : Station) (s : State), (s.viewEntry st).present = true →
    exec (.viewAgeExpiry st) s = .next
      { s with view := s.view.set st.val { age := .stopped, held := 0, hold := false } }) ∧
  (∀ s : State, s.stray = false → s.cli.presenceTimer.isRunning = true →
    let queued := if s.cli.queue.any (·.body.isPresence) then s.cli else s.cli.enqueue (.presence none)
    exec .presenceTimerExpiry s = .next { s with cli := { queued with presenceTimer := .running s.now 250000 } })

/-- The transmit queue takes or refuses a note by its class and by what it holds (02 R41). For a note of class 0 or 1 in a
full queue the most recently joined class-3 note that is not on the line leaves, or if there is none the most recently
joined such class-2 note. A block's note goes through this check, but for a stray station, which discards it (02 R44). -/
def Obligations.QueueAdmitsByClass : Prop :=
  (∀ (s : State) (b : NoteBody),
    s.queueNote b = if s.station = 15 then s else { s with cli := s.cli.enqueue b }) ∧
  ∀ (c : Cli) (b : NoteBody),
    let n := c.queue.length
    let k := c.counters
    let joined (q : List QNote) : List QNote := q ++ [{ body := b, failures := [], onLine := false }]
    (b.cls = 3 → c.enqueue b =
      if n < 8 then { c with queue := joined c.queue }
      else { c with counters := { k with classThreeRefusals := bump k.classThreeRefusals } }) ∧
    (b.cls = 2 → c.enqueue b =
      if n < 12 then { c with queue := joined c.queue }
      else { c with counters := { k with answerRefusals := bump k.answerRefusals } }) ∧
    (b.cls < 2 → n < 12 → c.enqueue b = { c with queue := joined c.queue }) ∧
    (b.cls < 2 → 12 ≤ n → ∀ pre m post, c.queue = pre ++ m :: post → m.onLine = false →
      (m.body.cls = 3 → (∀ x ∈ post, x.body.cls = 3 → x.onLine = true) →
        c.enqueue b =
          { c with
            queue := joined (pre ++ post)
            counters := { k with classThreeRefusals := bump k.classThreeRefusals } }) ∧
      (m.body.cls = 2 → (∀ x ∈ c.queue, x.body.cls = 3 → x.onLine = true) →
        (∀ x ∈ post, x.body.cls = 2 → x.onLine = true) →
        c.enqueue b =
          { c with
            queue := joined (pre ++ post)
            counters := { k with answerRefusals := bump k.answerRefusals } }))

/-! ## The shared power budget (03) -/

/-- CLAIM_RECEIVED (03 R56 to R58, 02 R51): the claim is tested on the view as it stood, and its sender's entry is
refreshed and takes the resulting total where it is granted, the prior share where it is void; above 5000 is held as
5000. -/
def Obligations.ClaimsOfOthersSetTheView : Prop :=
  ∀ (src : Station) (n : ShareNote) (s : State), src.val ≠ s.station →
    let amount := n.amount.toNat
    let total := n.total.toNat
    let prior := if total < amount then 0 else total - amount
    let others := ((s.view.eraseIdx src.val).map ViewEntry.held).sum + s.budget.ownHeld
    let granted : Prop :=
      match s.cfg with
      | none => True
      | some c => amount = 0 ∨ others + prior + amount ≤ c.station.cellBudget
    ∃ held, (granted → held = min 5000 total) ∧ (¬granted → held = min 5000 prior) ∧
      exec (.claimReceived src n) s = .next
        { s.countHeard with
          view := s.view.set src.val { s.viewEntry src with age := .running s.now 1000000, held := held } }

/-- CLAIM_ECHO (03 R57, R61 to R63; 01 R6): the own claim is tested, with the own share taken from the note; granted to a
CLAIMING drop with locate_hold clear it puts the drop in RAMPING, granted to any other it is unused, and void it sets a
CLAIMING drop's entry WAITING. Then the next claim is looked for. -/
def Obligations.OwnClaimsAreDecidedAtTheirEcho : Prop :=
  ∀ (s : State) (n : QNote) (c : Configuration) (d : Drop) (amount total : Nat),
    s.onLine = some n → n.body = .claim d amount (some total) → s.cfg = some c →
    let prior := if total < amount then 0 else total - amount
    let others := ((s.view.eraseIdx s.station).map ViewEntry.held).sum
    let granted : Prop := amount = 0 ∨ others + prior + amount ≤ c.station.cellBudget
    let r := s.drops.get d
    let b := s.budget
    ∃ u, exec .claimEcho s = .next u.lookClaims ∧
      (granted → r.state = .claiming → r.locateHold = false →
        u =
          { s.echoed with
            drops := s.drops.set d { r with state := .ramping, rampWindow := .running s.now 20000 }
            budget :=
              { b with
                ownHeld := b.ownHeld + amount
                claims := b.claims.filter fun e => decide (e.drop ≠ d)
                claimsGranted := bump b.claimsGranted } }) ∧
      (granted → (r.state ≠ .claiming ∨ r.locateHold = true) →
        u = { s.echoed.queueRelease d with budget := { b with unusedGrants := bump b.unusedGrants } }) ∧
      (¬granted →
        u =
          { s.echoed with
            budget :=
              { b with
                claims :=
                  if r.state = .claiming then
                    b.claims.map fun e => if e.drop = d then { e with retry := .waiting (.running s.now 500000) } else e
                  else b.claims
                claimsVoid := bump b.claimsVoid } })

/-- A RELEASE heard or echoed, and a retry timer's expiry (03 R56, R62, R65): WAITING entries become SENDABLE, all of them
at a RELEASE and the drop's own at its expiry, and the next claim is looked for. -/
def Obligations.ReleasesAndRetriesMakeClaimsSendable : Prop :=
  ∀ s : State,
    let sendable (t : State) : State :=
      { t with budget := { s.budget with claims := s.budget.claims.map fun e => { e with retry := .sendable } } }
    (∀ (src : Station) (n : ShareNote), src.val ≠ s.station →
      exec (.releaseReceived src n) s = .next (State.lookClaims (sendable
        { s.countHeard with
          view :=
            s.view.set src.val
              { s.viewEntry src with age := .running s.now 1000000, held := min 5000 n.total.toNat } }))) ∧
    (∀ (n : QNote) (d : Drop) (amount : Nat) (total : Option Nat), s.onLine = some n →
      n.body = .release d amount total → exec .releaseEcho s = .next (sendable s.echoed).lookClaims) ∧
    (∀ (d : Drop) (e : ClaimEntry) (r : Timer), e ∈ s.budget.claims → e.drop = d → e.retry = .waiting r →
      exec (.retryTimerExpiry d) s = .next (State.lookClaims
        { s with
          budget :=
            { s.budget with
              claims := s.budget.claims.map fun e => if e.drop = d then { e with retry := .sendable } else e } }))

/-- The look for the next claim (03 R60): with no CLAIM outstanding, a CLAIM is queued for the first entry that is SENDABLE
and whose drop has locate_hold clear, with the drop's allowance; otherwise nothing is done. A CLAIM that the line dropped is
counted, and waits out its retry time where its drop is still CLAIMING (03 R66). -/
def Obligations.OneClaimIsSentAtATime : Prop :=
  ∀ s : State,
    (s.cli.queue.any (·.body.isClaim) = true → s.lookClaims = s) ∧
    ((∀ e ∈ s.budget.claims, e.retry ≠ .sendable ∨ (s.drops.get e.drop).locateHold = true) → s.lookClaims = s) ∧
    (s.cli.queue.any (·.body.isClaim) = false → s.stray = false →
      ∀ pre e post, s.budget.claims = pre ++ e :: post →
        (∀ x ∈ pre, x.retry ≠ .sendable ∨ (s.drops.get x.drop).locateHold = true) →
        e.retry = .sendable → (s.drops.get e.drop).locateHold = false →
        s.lookClaims = { s with cli := s.cli.enqueue (.claim e.drop (s.dropCfg e.drop).allowance none) }) ∧
    (∀ (d : Drop) (amount : Nat) (total : Option Nat),
      s.tellDropped (.claim d amount total) = State.lookClaims
        { s with
          budget :=
            { s.budget with
              claims :=
                if (s.drops.get d).state = .claiming then
                  s.budget.claims.map fun e =>
                    if e.drop = d then { e with retry := .waiting (.running s.now 500000) } else e
                else s.budget.claims
              claimsDropped := bump s.budget.claimsDropped } })

/-! ## Triggers and shots (04, 06) -/

/-- The local trigger input (04 R73, R74): its three levels, and the edge at the end of the qualify time, or at the rise
itself where that time is 0; after either reset the level is LOW with the timer stopped. That a rise outside LOW changes
nothing is the model's choice (log 6). -/
def Obligations.InputLevelsGiveEdges : Prop :=
  ∀ s : State,
    let u := s.trig
    (∀ c, s.cfg = some c → u.inputLevel = .low →
      (c.station.qualifyUs = 0 →
        ∃ t, exec .triggerInputRise s = .next t ∧ State.EdgeTaken { s with trig := { u with inputLevel := .high } } t) ∧
      (c.station.qualifyUs ≠ 0 →
        exec .triggerInputRise s = .next
          { s with
            trig := { u with inputLevel := .qualifying, qualifyTimer := .running s.now c.station.qualifyUs } })) ∧
    (u.inputLevel ≠ .low → exec .triggerInputRise s = .next s) ∧
    (exec .triggerInputFall s = .next { s with trig := { u with inputLevel := .low, qualifyTimer := .stopped } }) ∧
    (u.inputLevel = .qualifying → u.qualifyTimer.isRunning = true →
      ∃ t, exec .qualifyTimerExpiry s = .next t ∧
        State.EdgeTaken { s with trig := { u with inputLevel := .high, qualifyTimer := .stopped } } t) ∧
    (∀ pins t, exec (.powerOnReset pins) s = .next t →
      t.trig.inputLevel = .low ∧ t.trig.qualifyTimer = .stopped) ∧
    (∀ src target pins t, src.val ≠ s.station → (target.toNat = s.station ∨ target.toNat = 15) → s.isService src = true →
      exec (.cellReset src target pins) s = .next t → t.trig.inputLevel = .low ∧ t.trig.qualifyTimer = .stopped)

/-- TRIGGER_NOTE (04 R76 to R79): the note is numbered and counted, a slip is counted and reported, and the trigger is
handed to the Shot Builder; an own echo first ends the pending note, and so does the drop of the own note. -/
def Obligations.TriggerNotesAreNumbered : Prop :=
  ∀ s : State,
    let numbered (base : State) (n : Half) : State :=
      let u := base.trig
      let slipped := u.synced = true ∧ n ≠ u.expected
      { (if slipped then base.queueEvent (.slip u.expected n) else base) with
        trig :=
          { u with
            expected := n + 1
            synced := true
            slipCount := if slipped then bump u.slipCount else u.slipCount
            triggerCount := bumpLong u.triggerCount } }
    (∀ (src : Station) (n : Half) (mask : Byte), src.val ≠ s.station →
      exec (.triggerNote (.received src n mask)) s = .next ((numbered s.countHeard n).handTrigger n mask src)) ∧
    (∀ (q : QNote) (n : Half) (mask : Byte) (src : Station), s.onLine = some q → q.body = .trigger (some n) mask →
      src.val = s.station →
      exec (.triggerNote .echo) s = .next
        ((numbered { s.echoed with trig := { s.trig with pendingMask := none } } n).handTrigger n mask src)) ∧
    (∀ (n : Option Half) (mask : Byte),
      s.tellDropped (.trigger n mask) = { s with trig := { s.trig with pendingMask := none } })

/-- The opening of a shot (06 R108, R111 to R114, R122): a trigger that involves drops, with room in the table and a new
number, adds one entry with a part for each involved drop; a READY drop with locate_hold clear has its mark relayed and
its nap timer started again, a NAPPING one is woken, and no other drop record changes. -/
def Obligations.TriggersOpenShots : Prop :=
  ∀ (s : State) (n : Half) (mask : Byte) (src : Station),
    let ds := Drop.all.filter fun d => (s.dropCfg d).enabled && mask.getLsbD (s.dropCfg d).group
    let t := s.handTrigger n mask src
    ds ≠ [] → s.shots.table.length < 16 → (∀ e ∈ s.shots.table, e.trigger ≠ n) →
    s.ChangesOnly t shotFields ds ∧
    (∃ e, t.shots.table = s.shots.table ++ [e] ∧ e.trigger = n ∧ e.origin = src ∧ e.mask = mask ∧
      e.skipped = s.shots.skipped ∧ e.parts = ds.map s.partAtTrigger ∧
      (e.hasOpenPart = true → e.state = .open ∧ e.age.isRunning = true) ∧
      (e.hasOpenPart = false → e.state = .closed ∧ e.age = .stopped)) ∧
    t.shots.skipped = 0 ∧ t.shots.opened = bumpLong s.shots.opened ∧
    (∀ d ∈ ds,
      let r := s.drops.get d
      (r.state = .ready → r.locateHold = false →
        t.links.get d = (s.links.get d).hand s.now (.trigger (n.extractLsb' 0 8)) ∧ t.shots.lastRelayed.get d = some n ∧
        t.drops.get d =
          { r with
            napTimer :=
              if r.napTimer.isRunning = true ∧ (s.dropCfg d).napSeconds ≠ 0 then
                .running s.now ((s.dropCfg d).napSeconds * 1000000)
              else .stopped }) ∧
      (r.state = .napping →
        t.drops.get d = { r with state := .claiming } ∧
        t.budget.claims.any (fun e => decide (e.drop = d ∧ e.retry = .sendable)) = true) ∧
      (r.state ≠ .napping → (r.state ≠ .ready ∨ r.locateHold = true) →
        t.drops.get d = r ∧ t.links.get d = s.links.get d))

/-- Triggers that open no shot (06 R108 to R110): one that involves no drop does nothing; one that finds the table full,
or its number in it, is counted, wakes the napping drops it involves, and relays nothing. -/
def Obligations.SkippedTriggersWakeDrops : Prop :=
  ∀ (s : State) (n : Half) (mask : Byte) (src : Station),
    let ds := Drop.all.filter fun d => (s.dropCfg d).enabled && mask.getLsbD (s.dropCfg d).group
    let full := 16 ≤ s.shots.table.length
    let t := s.handTrigger n mask src
    (ds = [] → t = s) ∧
    (ds ≠ [] → (full ∨ ∃ e ∈ s.shots.table, e.trigger = n) →
      s.ChangesOnly t [.drops, .lens, .budget, .cli, .shots] ds ∧
      t.shots =
        { s.shots with
          skipped := bump s.shots.skipped
          shotsSkipped := bump s.shots.shotsSkipped
          duplicates := if full then s.shots.duplicates else bump s.shots.duplicates } ∧
      ∀ d ∈ ds, t.drops.get d =
        (if (s.drops.get d).state = .napping then { s.drops.get d with state := .claiming } else s.drops.get d))

/-- SHOT_TIMEOUT (06 R118, R121, R122; 05 R101): every open part of the OPEN entry closes TIMEOUT with what it has, the
entry becomes CLOSED with its age stopped, and no other entry changes. -/
def Obligations.TimeoutsCloseEveryOpenPart : Prop :=
  ∀ (s : State) (e : Entry), s.ShotLaw → e ∈ s.shots.table → e.state = .open →
    ∃ t, exec (.shotTimeout e.trigger) s = .next t ∧
      s.ChangesOnly t [.shots, .rx, .lens, .cli, .uplink] Drop.all ∧
      State.Queues NoteBody.isEvent s t ∧
      t.shots =
        { s.shots with
          table := s.shots.table.map fun x =>
            if x.trigger = e.trigger then
              { x with state := .closed, age := .stopped, parts := x.parts.map Part.timedOut }
            else x } ∧
      ∀ d, t.rx.get d =
        (if (s.rx.get d).mode = .inside e.trigger ∧ (e.parts.any fun p => decide (p.drop = d) && p.status.isOpen) = true then
          { s.rx.get d with mode := .skip true }
        else s.rx.get d)

/-! ## Frame memory and fragments (05) -/

/-- OPEN_WORD (05 R95, R96, R100, R102) in lock: a fragment in progress ends first; then a marker that does not match
counts a bad marker, a tag with an open part for the drop binds the fragment to the first such shot, and any other is
late or stray. -/
def Obligations.OpenWordsBindFragments : Prop :=
  ∀ (d : Drop) (w : Word) (s : State), s.Locked d →
    let base := State.FragmentEnded { s with links := s.links.set d { s.links.get d with silence := .running s.now 4000 } } d
    let c := s.dropCfg d
    let r := base.rx.get d
    let tag := w.extractLsb' 16 8
    let index := (w.extractLsb' 1 15).toNat
    let hasTag (e : Entry) : Prop := e.trigger.extractLsb' 0 8 = tag
    let matched : Prop := ∀ i, i < 8 → c.startMask.getLsbD i = true → (w.extractLsb' 24 8).getLsbD i = c.startPattern.getLsbD i
    let skips (k : Receiver) : Prop := exec (.openWord d w) s = .next { base with rx := base.rx.set d { k with mode := .skip false } }
    (¬matched → skips { r with badMarkers := bump r.badMarkers }) ∧
    (matched → ∀ pre e post p, base.shots.table = pre ++ e :: post → hasTag e → e.part d = some p →
      p.status.isOpen = true → (∀ x ∈ pre, hasTag x → ∀ q, x.part d = some q → q.status.isOpen = false) →
      s.ShotLaw →
      exec (.openWord d w) s = .next
        { base.modPart e.trigger d (fun q =>
            { q with
              status := .receiving
              nextIndex := some (if index = 32767 then 0 else index + 1)
              flags := { q.flags with sequence := q.flags.sequence || decide (p.nextIndex ≠ some index) } }) with
          rx :=
            base.rx.set d
              { r with
                mode := .inside e.trigger
                last := w.getLsbD 0
                arrived := 0
                bound := bumpLong r.bound
                sequenceErrors := if p.nextIndex = some index then r.sequenceErrors else bump r.sequenceErrors } }) ∧
    (matched → (∀ x ∈ base.shots.table, hasTag x → ∀ q, x.part d = some q → q.status.isOpen = false) →
      ((∃ x ∈ base.shots.table, hasTag x ∧ (x.part d).isSome = true) → skips { r with late := bump r.late }) ∧
      ((∀ x ∈ base.shots.table, hasTag x → x.part d = none) → skips { r with stray := bump r.stray }))

/-- DATA_WORD in IN that is stored (05 R97, R86, R85): with at most 4096 words in its fragment and the part not
truncated, the word stands at the next place of the part's last page, or of the page that the part takes from the head of
the free list; the hold flag is evaluated at the take; and no other byte of the frame memory changes. The Focus Scorer
adds the word's four pixels to the part's sums (09 R163, R164): each pixel of the ROI to S and M, each with its left
neighbour in the ROI to G and N, and the last becomes the carry pixel. -/
def Obligations.DataWordsAreStored : Prop :=
  ∀ (d : Drop) (w : Word) (s : State) (n : Half) (p : Part) (page : Nat), s.Locked d → s.MemoryLaw → s.ShotLaw →
    (s.rx.get d).mode = .inside n → s.part n d = some p → (s.rx.get d).arrived < 4096 → p.flags.truncated = false →
    let full := p.chain.length * 16384 ≤ p.words
    (full → s.fmm.freeList.head? = some page) → (¬full → p.chain.getLast? = some page) →
    let arrived : State :=
      { s with
        links := s.links.set d { s.links.get d with silence := .running s.now 4000 }
        rx := s.rx.set d { s.rx.get d with arrived := (s.rx.get d).arrived + 1 } }
    let taken : State :=
      if full then
        State.evalHold
          { arrived with
            fmm :=
              { s.fmm with
                freeList := s.fmm.freeList.tail
                freeCount := s.fmm.freeCount - 1
                lowWater := min s.fmm.lowWater (s.fmm.freeCount - 1) } }
      else arrived
    let g := s.dropCfg d
    let pixel (j : Nat) : Nat := (w.extractLsb' (8 * j) 8).toNat
    let row (j : Nat) : Nat := (4 * p.words + j) / g.frameWidth
    let column (j : Nat) : Nat := (4 * p.words + j) % g.frameWidth
    let counted : List Nat := [0, 1, 2, 3].filter fun j =>
      decide (g.firstRow ≤ row j ∧ row j ≤ g.lastRow ∧ g.firstColumn ≤ column j ∧
        column j ≤ min g.lastColumn (g.frameWidth - 1))
    let pairs (carry : Option Nat) : List Nat := (counted.filter fun j => decide (g.firstColumn < column j)).filterMap fun j =>
      (if j = 0 then carry else some (pixel (j - 1))).map fun left => ((pixel j - left) + (left - pixel j)) ^ 2
    let scored (x : SumRecord) : SumRecord :=
      { g := x.g + (pairs x.carry).sum
        n := x.n + (pairs x.carry).length
        s := x.s + (counted.map pixel).sum
        m := x.m + counted.length
        carry := some (pixel 3) }
    let stored : Part :=
      { p with
        words := p.words + 1
        chain := if full then p.chain ++ [page] else p.chain
        sums := p.sums.map scored }
    ∃ m : Memory, exec (.dataWord d w) s = .next
        { taken.modPart n d (fun _ => stored) with fmm := { taken.fmm with mem := m } } ∧
      readWord m page (p.words % 16384) = w ∧
      ∀ a, (a < wordAddress page (p.words % 16384) ∨ wordAddress page (p.words % 16384) + 4 ≤ a) →
        readByte m a = readByte s.fmm.mem a

/-- DATA_WORD that is not stored (05 R97, R98, R102): beyond the 4096th of its fragment it is discarded with OVERLONG set;
in a truncated part, or with no page to take, it is lost; in IDLE it is a bad marker, in SKIP it is discarded. In each
case the frame memory's words stay as they are. -/
def Obligations.OtherDataWordsAreDiscardedOrLost : Prop :=
  ∀ (d : Drop) (w : Word) (s : State), s.Locked d →
    let r := s.rx.get d
    let base := { s with links := s.links.set d { s.links.get d with silence := .running s.now 4000 } }
    let lost (u : State) (n : Half) (k : Receiver) : State :=
      { u.modPart n d (fun p =>
          { p with flags := { p.flags with truncated := true }, lost := satAdd 4294967295 p.lost 1 }) with
        rx := s.rx.set d { k with lostWords := satAdd 4294967295 k.lostWords 1 } }
    (r.mode = .idle → exec (.dataWord d w) s = .next
      { base with rx := s.rx.set d { r with mode := .skip false, badMarkers := bump r.badMarkers } }) ∧
    (∀ o, r.mode = .skip o → exec (.dataWord d w) s = .next base) ∧
    (∀ n p, r.mode = .inside n → s.part n d = some p →
      let k := { r with arrived := satAdd 16777215 r.arrived 1 }
      (4096 ≤ r.arrived → exec (.dataWord d w) s = .next
        { base.modPart n d (fun p => { p with flags := { p.flags with overlong := true } }) with
          rx := s.rx.set d { k with overlong := if r.arrived = 4096 then bump k.overlong else k.overlong } }) ∧
      (r.arrived < 4096 → p.flags.truncated = true → exec (.dataWord d w) s = .next (lost base n k)) ∧
      (r.arrived < 4096 → p.flags.truncated = false → p.chain.length * 16384 ≤ p.words → s.fmm.freeList = [] →
        exec (.dataWord d w) s = .next
          (lost (State.evalHold { base with fmm := { s.fmm with takeFailures := bump s.fmm.takeFailures } }) n k)))

/-- CLOSE_WORD (05 R99, R101, R102): in IN an end marker that fails counts a bad marker and a length error, a count that
differs from the words arrived a length error, and the last fragment of a part closes it COMPLETE (06 R117, R121, R122):
its next index and sums are dropped, it takes its score from the sums (09 R165), it is offered to a sweep, and its entry
becomes CLOSED if no other part of it is open; in IDLE it is a bad marker; in SKIP it is late where that is owed. -/
def Obligations.CloseWordsEndFragments : Prop :=
  ∀ (d : Drop) (w : Word) (s : State), s.Locked d →
    let r := s.rx.get d
    let c := s.dropCfg d
    let base := { s with links := s.links.set d { s.links.get d with silence := .running s.now 4000 } }
    let matched : Prop := ∀ i, i < 8 → c.endMask.getLsbD i = true → (w.extractLsb' 24 8).getLsbD i = c.endPattern.getLsbD i
    let flagged (n : Half) : State := base.modPart n d fun p => { p with flags := { p.flags with lengthError := true } }
    (r.mode = .idle → exec (.closeWord d w) s = .next
      { base with rx := s.rx.set d { r with badMarkers := bump r.badMarkers } }) ∧
    (∀ owed, r.mode = .skip owed → exec (.closeWord d w) s = .next
      { base with rx := s.rx.set d { r with mode := .idle, late := if owed then bump r.late else r.late } }) ∧
    (∀ n, r.mode = .inside n →
      (¬matched → exec (.closeWord d w) s = .next
        { flagged n with
          rx :=
            s.rx.set d
              { r with mode := .idle, lengthErrors := bump r.lengthErrors, badMarkers := bump r.badMarkers } }) ∧
      (matched →
        let differs := (w.extractLsb' 0 24).toNat ≠ r.arrived
        let ended : State :=
          { (if differs then flagged n else base) with
            rx :=
              s.rx.set d
                { r with mode := .idle, lengthErrors := if differs then bump r.lengthErrors else r.lengthErrors } }
        (r.last = false → exec (.closeWord d w) s = .next ended) ∧
        ((∀ p, s.part n d = some p → p.status.isOpen = false) → exec (.closeWord d w) s = .next ended) ∧
        (r.last = true → ∀ e p, s.ShotLaw → e ∈ s.shots.table → e.trigger = n → e.part d = some p →
          p.status.isOpen = true →
          let score : Option Nat :=
            match p.sums with
            | none => none
            | some x =>
              if c.scoring = true ∧ p.flags.truncated = false ∧ 1 ≤ x.n then
                some (min 16777215 (x.g / x.n * (65536 / max 1 (x.s / x.m)) / 256))
              else none
          let q : Part :=
            { p with
              status := .closed .complete
              flags := { p.flags with lengthError := p.flags.lengthError || decide differs }
              score := score
              nextIndex := none
              sums := none }
          let changed (u : State) (f : Entry → Entry) : State :=
            { u with
              shots := { u.shots with table := u.shots.table.map fun x => if x.trigger = n then f x else x } }
          let stored := changed ended fun x => { x with parts := x.parts.map fun y => if y.drop = d then q else y }
          let offered := stored.offerPart d q
          exec (.closeWord d w) s = .next
            (if ∀ y ∈ e.parts, y.drop ≠ d → y.status.isOpen = false then
              (changed offered fun x => { x with state := .closed, age := .stopped }).boundaryDecision
            else offered))))

/-- The hold flag (05 R89, R90; 02 R49): set below the hold threshold, cleared at the release threshold or above, and kept
between them; a change queues a PRESENCE, unless one is queued or on the line (log 27), and starts the presence timer
again. -/
def Obligations.HoldFlagFollowsTheFreeCount : Prop :=
  ∀ (s : State) (c : Configuration), s.cfg = some c → s.stray = false →
    let v :=
      if s.fmm.hold = false ∧ s.fmm.freeCount < c.station.holdThreshold then true
      else if s.fmm.hold = true ∧ c.station.releaseThreshold ≤ s.fmm.freeCount then false
      else s.fmm.hold
    let queued := if s.cli.queue.any (·.body.isPresence) then s.cli else s.cli.enqueue (.presence none)
    s.evalHold =
      { s with
        fmm := { s.fmm with hold := v }
        cli := if v = s.fmm.hold then s.cli else { queued with presenceTimer := .running s.now 250000 } }

/-! ## The uplink (07) -/

/-- The boundary decision (07 R129): between records, once no restart is under way, the first row of the table that holds
sets the pause state, and an entry into RING is counted; where it is NONE the record's beginning is the command RECORD_START
(log 17). -/
def Obligations.BoundaryDecisionTakesTheFirstRow : Prop :=
  ∀ (s : State) (c : Configuration), s.cfg = some c → s.uplink.record = none → s.uplink.pause ≠ .restart →
    s.uplink.restartOwed = false →
    let L := c.station.ringLength
    let free := if (s.uplink.mark + L - s.uplink.place) % L = 0 then L else (s.uplink.mark + L - s.uplink.place) % L
    let pause : Pause :=
      if s.uplink.linkUp = false then .link
      else if s.shots.table = [] then .empty
      else if (s.shots.table.head?.map Entry.state) = some .open then .headOpen
      else if free < max 2 c.station.pauseThreshold then .ring
      else .none
    s.boundaryDecision =
      { s with
        uplink :=
          { s.uplink with
            pause := pause
            ringPauses :=
              if pause = .ring ∧ s.uplink.pause ≠ .ring then bump s.uplink.ringPauses else s.uplink.ringPauses } }

/-- SLOT_MARK with the link UP (07 R128, R129, R137): outside the restart a mark of L or more is discarded and counted and
any other becomes the receiver mark, with the boundary decision made again; in the restart a mark of 0 after the RESTART
symbol ends it, and any other is discarded without a count. -/
def Obligations.SlotMarksMoveTheReceiverMark : Prop :=
  ∀ (m : Nat) (s : State) (c : Configuration), s.cfg = some c → s.uplink.linkUp = true →
    let u := s.uplink
    (u.pause ≠ .restart → c.station.ringLength ≤ m →
      exec (.slotMark m) s = .next { s with uplink := { u with badMarks := bump u.badMarks } }) ∧
    (u.pause ≠ .restart → m < c.station.ringLength →
      exec (.slotMark m) s = .next (State.boundaryDecision { s with uplink := { u with mark := m } })) ∧
    (u.pause = .restart → (m ≠ 0 ∨ u.restartOwed = true) → exec (.slotMark m) s = .next s) ∧
    (u.pause = .restart → m = 0 → u.restartOwed = false →
      ∃ t, exec (.slotMark m) s = .next t ∧ s.ChangesOnly t [.uplink] [] ∧ t.uplink.mark = 0 ∧ t.uplink.place = 0 ∧
        t.uplink.pause ≠ .restart)

/-- RECORD_START (07 R130): where the boundary decision gives NONE the oldest entry becomes SENDING at its first word, the
place index advances, and FRAME_CUT is set on each part above its frame size. -/
def Obligations.RecordsBeginAtTheOldestEntry : Prop :=
  ∀ (s : State) (c : Configuration) (e : Entry) (rest : List Entry), s.cfg = some c → s.shots.table = e :: rest →
    e.state = .closed → s.uplink.record = none → s.uplink.pause = .none → s.uplink.restartOwed = false →
    s.uplink.linkUp = true →
    (let L := c.station.ringLength
     max 2 c.station.pauseThreshold ≤
       if (s.uplink.mark + L - s.uplink.place) % L = 0 then L else (s.uplink.mark + L - s.uplink.place) % L) →
    let cut (p : Part) : Bool := decide ((s.dropCfg p.drop).frameSize < p.words)
    exec .recordStart s = .next
      { s with
        shots :=
          { s.shots with
            table :=
              { e with
                state := .sending
                parts := e.parts.map fun p =>
                  { p with flags := { p.flags with frameCut := p.flags.frameCut || cut p } } } :: rest }
        uplink :=
          { s.uplink with
            record := some 0
            place := (s.uplink.place + 1) % c.station.ringLength
            overlongParts := satAdd 65535 s.uplink.overlongParts (e.parts.filter cut).length } }

/-- UPLINK_WORD_SENT (07 R131 to R134): the word the link layer takes is the next of the header, the descriptors, a part's
stored words or its fill words, the header and descriptors with the fields of section 12.6; a stored word comes from the
part's first page that is left, and the pages whose last emitted word it was return to the tail of the free list, the hold
flag evaluated at each (05 R87); after the last word of the record the entry leaves the table. -/
def Obligations.RecordWordsAreSentInOrder : Prop :=
  ∀ (s : State) (c : Configuration) (e : Entry) (rest : List Entry) (i : Nat), s.cfg = some c →
    s.shots.table = e :: rest → s.uplink.record = some i → s.uplink.linkUp = true →
    let fixed := s.recordFields e
    let returned (u : State) (page : Nat) : State :=
      State.evalHold
        { u with
          fmm := { u.fmm with freeList := u.fmm.freeList ++ [page], freeCount := u.fmm.freeCount + 1 } }
    let after (t : State) : State :=
      if i + 1 < s.recordLength e then { t with uplink := { t.uplink with record := some (i + 1) } }
      else
        State.boundaryDecision
          { t with
            shots := { t.shots with table := t.shots.table.tail }
            uplink := { t.uplink with record := none, recordsSent := bumpLong t.uplink.recordsSent } }
    (∀ w, fixed[i]? = some w →
      exec .uplinkWordSent s = .next (after { s with uplink := { s.uplink with lastWord := some w } })) ∧
    (∀ p place, fixed.length ≤ i → s.dataPlace e.parts (i - fixed.length) = some (p, place) →
      (p.words ≤ place → exec .uplinkWordSent s = .next (after
        { s with
          uplink :=
            { s.uplink with lastWord := some c.station.fillWord, fillWords := bumpLong s.uplink.fillWords } })) ∧
      (place < p.words → ∀ page, p.chain.head? = some page → page < 4096 →
        let F := (s.dropCfg p.drop).frameSize
        let due : List Nat :=
          if place + 1 = min p.words F then p.chain else if (place + 1) % 16384 = 0 then [page] else []
        exec .uplinkWordSent s = .next (after (due.foldl returned
          { s with
            uplink := { s.uplink with lastWord := some (readWord s.fmm.mem page (place % 16384)) }
            shots :=
              { s.shots with
                table :=
                  { e with
                    parts := e.parts.map fun q =>
                      if q.drop = p.drop then { q with chain := q.chain.drop due.length } else q } :: rest } }))))

/-- Every word of a record has its place (07 R131, R132): 2 header words, 7 words for each part, with the fields of section
12.6, and then each part's data in the parts' order, none for a part without words and its drop's frame size for any
other. -/
def Obligations.RecordsHaveEveryWord : Prop :=
  ∀ (s : State) (e : Entry),
    let length (p : Part) : Nat := if p.words = 0 then 0 else (s.dropCfg p.drop).frameSize
    s.fixedWords e = s.recordFields e ∧
    (s.fixedWords e).length = 2 + 7 * e.parts.length ∧
    s.recordLength e = 2 + 7 * e.parts.length + (e.parts.map length).sum ∧
    (∀ before p after place, e.parts = before ++ p :: after → place < length p →
      s.dataPlace e.parts ((before.map length).sum + place) = some (p, place)) ∧
    (∀ i, 2 + 7 * e.parts.length ≤ i → i < s.recordLength e →
      ∃ p place, s.dataPlace e.parts (i - (2 + 7 * e.parts.length)) = some (p, place) ∧ p ∈ e.parts ∧ p.words ≠ 0 ∧
        place < (s.dropCfg p.drop).frameSize) ∧
    (∀ i, s.recordLength e ≤ i → s.dataPlace e.parts (i - (2 + 7 * e.parts.length)) = none)

/-- The link and the restart (07 R136, R137): a loss of the link is counted, pauses the Sender, and owes the RESTART symbol
again where its answer is still awaited; that the pause state is LINK at once at a record boundary too is log 21; at the
return a record in progress goes on; the symbol is sent once the loader has ended. -/
def Obligations.LinkLossesPauseTheSender : Prop :=
  ∀ s : State,
    let u := s.uplink
    (u.linkUp = true → exec .linkDown s = .next
      { s with
        uplink :=
          { u with
            linkUp := false
            linkLosses := bump u.linkLosses
            restartOwed := decide (u.pause = .restart) || u.restartOwed
            pause := if u.pause = .restart then .restart else .link } }) ∧
    (u.linkUp = false → u.record.isSome = true →
      exec .linkUp s = .next { s with uplink := { u with linkUp := true, pause := .none } }) ∧
    (u.linkUp = false → u.record = none →
      exec .linkUp s = .next (State.boundaryDecision { s with uplink := { u with linkUp := true } })) ∧
    (u.restartOwed = true → s.loader ≠ .loading → u.linkUp = true →
      exec .restartSend s = .next { s with uplink := { u with restartOwed := false } })

/-! ## The lens (08) and sweeps (09) -/

/-- BURST_HANDOVER (08 R142, R148, R152): with the slot EMPTY the burst of the axis that asks for one fills it and goes to
the transmitter; where both ask, that of the axis that did not have the last one, FOCUS first. ACK_TIMER_EXPIRY (08 R144):
the slot empties and the burst's axis enters ERROR with cause NO_ACK. What leaving an operation brings about (08 R160; 09
R172): LENS_DONE, then the start of an IRIS in TURN; for FOCUS in a sweep the sweep's end in its place. That the verify flag
stays at NO_ACK is log 24; the outcome that a halted sweep owes is log 11. -/
def Obligations.BurstsAreHandedOverOrGivenUp : Prop :=
  ∀ (d : Drop) (s : State),
    let l := s.lens.get d
    (∀ ax b, l.slot = none → (l.axis ax).Needs ax b →
      (∀ other c, other ≠ ax → (l.axis other).Needs other c →
        match l.lastBurst with | none => ax = .focus | some last => last.2 = other) →
      ∃ t, exec (.burstHandover d) s = .next t ∧ s.ChangesOnly t [.lens, .links] [d] ∧
        t.lens.get d =
          { l with
            slot := some (b, l.burstSerial)
            burstsSent := bump l.burstsSent
            lastBurst := some (s.now, ax)
            burstSerial := l.burstSerial + 1 } ∧
        t.links.get d = (s.links.get d).hand s.now (.burst b l.burstSerial)) ∧
    ((l.slot ≠ none ∨ ∀ ax b, ¬(l.axis ax).Needs ax b) → exec (.burstHandover d) s = .next s) ∧
    (∀ b n, l.slot = some (b, n) → l.ackTimer.isRunning = true →
      let emptied := { l with slot := none, ackTimer := .stopped, ackTimeouts := bump l.ackTimeouts }
      exec (.ackTimerExpiry d) s = .next (State.axisLeft
        { s with lens := s.lens.set d (emptied.setAxis b.axis ((l.axis b.axis).failedBy .noAck)) } d b.axis .noAck)) ∧
    (∀ ax o, (ax = .iris ∨ l.sweep.phase = none) →
      let told := s.queueEvent (.lensDone d ax o (l.axis ax).position)
      s.axisLeft d ax o =
        if ax = .iris then told
        else if l.iris.mode = .homing .turn ∧ l.focus.mode.isHoming = false then
          { told with lens := s.lens.set d { l with iris := { l.iris with mode := .homing .probe } } }
        else if l.iris.mode = .moving .turn ∧ l.focus.mode.isMoving = false then
          { told with
            lens :=
              s.lens.set d
                { l with iris := l.iris.movedTo (s.dropCfg d).irisBacklash l.iris.target l.iris.verify } }
        else told) ∧
    (∀ o out, l.sweep.phase ≠ none →
      ((o = .noAck ∧ out = .noAck) ∨ (o = .verify ∧ out = .verify) ∨ (o = .link ∧ out = .link) ∨
        ((o = .done ∨ o = .halted) ∧ l.sweep.endOwed = some out)) →
      s.axisLeft d .focus o =
        State.queueEvent { s with lens := s.lens.set d { l with sweep := l.sweep.ended out } }
          (.sweepDone d out l.focus.position none))

/-- LENS_ACK in lock (08 R143, R150, R153, R154): with the slot EMPTY, or with the axis out of its operation, it is stray;
HOMING ends at an ACTIVE switch, fails above the search limit, and otherwise searches on; a move steps its position, fails
on a short count or a head count that differs where it is verified, turns to its second leg, and ends at its target; a halt
owed stops an axis that goes on, and is cleared at every end (log 18). -/
def Obligations.AcknowledgementsReachTheirAxis : Prop :=
  ∀ (d : Drop) (a : LensAck) (s : State), s.Locked d →
    let l := s.lens.get d
    let heard (x : Lens) : State :=
      { s with
        links := s.links.set d { s.links.get d with silence := .running s.now 4000 }
        lens := s.lens.set d x }
    (l.slot = none → exec (.lensAck d a) s = .next (heard { l with strayAcks := bump l.strayAcks })) ∧
    (∀ b n, l.slot = some (b, n) →
      let x := l.axis b.axis
      let range := match b.axis with | .focus => (s.dropCfg d).focusRange | .iris => (s.dropCfg d).irisRange
      let l' := { l with slot := none, ackTimer := .stopped, acks := bump l.acks }
      let goesOn (y : AxisRec) : Prop := exec (.lensAck d a) s = .next (heard (l'.setAxis b.axis y))
      let ends (y : AxisRec) (o : LensOutcome) (count : Lens → Lens) : Prop :=
        exec (.lensAck d a) s = .next ((heard (count (l'.setAxis b.axis y))).axisLeft d b.axis o)
      ((x.mode.busy = false ∨ x.mode = .homing .turn ∨ x.mode = .moving .turn) →
        exec (.lensAck d a) s = .next (heard { l' with strayAcks := bump l.strayAcks })) ∧
      ((x.mode = .homing .probe ∨ x.mode = .homing .search) →
        let counted := { x with searchCount := min 65535 (x.searchCount + b.steps) }
        if a.homeActive = true then
          ends { x.idled with position := 0, target := 0, homed := true } .done
            fun l => { l with homings := bump l.homings }
        else if range + 64 < counted.searchCount then
          ends (counted.failedBy .homeFail) .homeFail fun l => { l with homeFailures := bump l.homeFailures }
        else if x.haltOwed = true then ends counted.idled .halted id
        else goesOn { counted with mode := .homing .search }) ∧
      ((x.mode = .moving .down ∨ x.mode = .moving .up) →
        let n := min a.stepsDone b.steps
        let y := { x with position := if b.up then x.position + n else x.position - n }
        let failed : Prop :=
          ends { y.failedBy .verify with verify := false } .verify
            fun l => { l with verifyFailures := bump l.verifyFailures }
        if a.stepsDone ≠ b.steps then failed
        else if x.legGoal = some y.position ∧ y.position = x.target then
          if x.verify = true ∧ a.headCount.toNat ≠ y.position then failed
          else ends y.idled .done fun l => { l with moves := bump l.moves }
        else if x.haltOwed = true then ends y.idled .halted id
        else if x.legGoal = some y.position then goesOn { y with mode := .moving .up, legGoal := some x.target }
        else goesOn y))

/-- LENS_HOME (08 R140, R146, R147): its checks in order, REFUSED_STATE first while LOADING (log 37), and then the named axes in HOMING, FOCUS with PROBE first and IRIS in
TURN behind it where both are named. -/
def Obligations.HomesBeginWithTheProbe : Prop :=
  ∀ (r : Request) (d : Drop) (s : State), s.TakesDrop .controller r d →
    let l := s.lens.get d
    let arg := r.args.getD 0 0
    let axes : List Axis := if arg = 0 then [.focus] else if arg = 1 then [.iris] else if arg = 2 then [.focus, .iris] else []
    let homing (p : HomePhase) (x : AxisRec) : AxisRec :=
      { x with
        mode := .homing p, target := x.position, legGoal := none, homed := false, verify := false, searchCount := 0
        haltOwed := false }
    let reply (c : AnswerCode) (u : State) : Prop :=
      exec (.lensHome r) s = .next (u.answer RequestKind.lensHome.value r c .noValue)
    if s.loader = .loading ∨ (s.drops.get d).locateHold = true then reply .refusedState s.countHeard
    else if .focus ∈ axes ∧ l.sweep.phase ≠ none then reply .busy s.countHeard
    else if axes = [] then reply .unknown s.countHeard
    else if (s.drops.get d).state ≠ .ready then reply .refusedState s.countHeard
    else if ∃ ax ∈ axes, (l.axis ax).mode.busy = true then reply .busy s.countHeard
    else
      reply .accepted
        { s.countHeard with
          lens :=
            s.lens.set d
              { l with
                focus := if .focus ∈ axes then homing .probe l.focus else l.focus
                iris :=
                  if .iris ∈ axes then homing (if .focus ∈ axes then .turn else .probe) l.iris else l.iris } }

/-- LENS_MOVE and LENS_NUDGE (08 R140, R146, R151, R152, R155): their checks in order (LOADING first: log 37), the target clamped to 0 to the axis range,
and the first leg of the move; where the axis stands at the target nothing moves. -/
def Obligations.MovesAndNudgesTakeTheirTarget : Prop :=
  ∀ (r : Request) (d : Drop) (s : State), s.TakesDrop .controller r d →
    let l := s.lens.get d
    let g := s.dropCfg d
    let arg := r.args.getD 0 0
    let two : Half := r.args.getD 1 0 ++ r.args.getD 2 0
    let outcome (k : RequestKind) (o : Host.Outcome State Fault Refusal) (asked : AxisRec → Int) (verify : Bool) : Prop :=
      let reply (c : AnswerCode) (v : AnswerValue) (u : State) : Prop := o = .next (u.answer k.value r c v)
      if s.loader = .loading ∨ (s.drops.get d).locateHold = true then reply .refusedState .noValue s.countHeard
      else if arg = 0 ∧ l.sweep.phase ≠ none then reply .busy .noValue s.countHeard
      else if 1 < arg then reply .unknown .noValue s.countHeard
      else
        let ax : Axis := if arg = 0 then .focus else .iris
        let x := l.axis ax
        let t := min (if arg = 0 then g.focusRange else g.irisRange) (asked x).toNat
        let code : AnswerCode := if asked x ≠ t then .clamped else if t = x.position then .done else .accepted
        if (s.drops.get d).state ≠ .ready then reply .refusedState .noValue s.countHeard
        else if x.homed = false then reply .notHomed .noValue s.countHeard
        else if x.mode ≠ .idle then reply .busy .noValue s.countHeard
        else if t = x.position then reply code (.target t) s.countHeard
        else
          reply code (.target t)
            { s.countHeard with
              lens :=
                s.lens.set d
                  (l.setAxis ax (x.movedTo (if arg = 0 then g.focusBacklash else g.irisBacklash) t verify)) }
    outcome .lensMove (exec (.lensMove r) s) (fun _ => two.toNat) (decide (r.args.getD 3 0 ≠ 0)) ∧
      outcome .lensNudge (exec (.lensNudge r) s) (fun x => x.position + two.toInt) false

/-- LENS_HALT (08 R140, R146, R156; 09 R172): while LOADING it is REFUSED_STATE (log 37); an axis with its burst in the slot owes the halt, any other in HOMING or MOVING
stops at once, FOCUS first; a running sweep ends HALTED, at once or, with FOCUS's burst in the slot, when that has been
answered, with the outcome it owed first (log 11). The answer stands before the events (log 22). -/
def Obligations.HaltsStopTheLens : Prop :=
  ∀ (r : Request) (d : Drop) (s : State), s.TakesDrop .controller r d →
    let l := s.lens.get d
    let inSlot (ax : Axis) : Prop := (l.slot.map fun b => b.1.axis) = some ax
    let busy (ax : Axis) : Prop := (l.axis ax).mode.busy = true
    let halted (ax : Axis) (y : AxisRec) : Prop :=
      y = if ¬busy ax then l.axis ax else if inSlot ax then { l.axis ax with haltOwed := true } else (l.axis ax).idled
    let answer (c : AnswerCode) : NoteBody :=
      .answer { target := r.src, kind := RequestKind.lensHalt.value, drop := r.drop, code := c, value := .noValue }
    let lensDone (ax : Axis) : List NoteBody :=
      if busy ax ∧ ¬inSlot ax then [.event (.lensDone d ax .halted (l.axis ax).position)] else []
    let owed : Prop := busy .focus ∧ inSlot .focus
    ∃ t, exec (.lensHalt r) s = .next t ∧
      if s.loader = .loading ∨ (s.drops.get d).locateHold = true then
        t = { s.countHeard with cli := s.countHeard.cli.enqueue (answer .refusedState) }
      else
        s.ChangesOnly t [.cli, .lens] [d] ∧
        halted .focus (t.lens.get d).focus ∧ halted .iris (t.lens.get d).iris ∧
        (t.lens.get d).sweep =
          (if l.sweep.phase = none then l.sweep
          else if owed then { l.sweep with endOwed := some (l.sweep.endOwed.getD .halted) }
          else l.sweep.ended .halted) ∧
        t.lens.get d =
          { l with focus := (t.lens.get d).focus, iris := (t.lens.get d).iris, sweep := (t.lens.get d).sweep } ∧
        t.cli =
          (answer (if busy .focus ∨ busy .iris then .accepted else .done) ::
            ((if l.sweep.phase = none then lensDone .focus
              else if owed then [] else [.event (.sweepDone d .halted l.focus.position none)]) ++
              lensDone .iris)).foldl Cli.enqueue s.countHeard.cli

/-- LENS_PUSH and LENS_POP (08 R140, R146, R157 to R159): while LOADING both are REFUSED_STATE (log 37); a push keeps a value for each homed IDLE or MOVING axis, and finds the
stack FULL at 4 entries; a pop passes its checks in order, takes the top entry off, and sets the axes going that do not
stand at their value, IRIS behind FOCUS. -/
def Obligations.SettingsArePushedAndPopped : Prop :=
  ∀ (r : Request) (d : Drop) (s : State), s.TakesDrop .controller r d →
    let l := s.lens.get d
    let g := s.dropCfg d
    let hold : Prop := s.loader = .loading ∨ (s.drops.get d).locateHold = true
    let reply (k : RequestKind) (o : Host.Outcome State Fault Refusal) (c : AnswerCode) (v : AnswerValue) (u : State) : Prop :=
      o = .next (u.answer k.value r c v)
    let pushed (x : AxisRec) : Option Nat :=
      if x.mode.isMoving = true then some x.target else if x.mode = .idle ∧ x.homed = true then some x.position else none
    (let reply := reply .lensPush (exec (.lensPush r) s)
     if hold then reply .refusedState .noValue s.countHeard
     else if l.sweep.phase ≠ none then reply .busy .noValue s.countHeard
     else if 4 ≤ l.stack.length then reply .full .noValue s.countHeard
     else
       reply .done (.count (l.stack.length + 1))
         { s.countHeard with
           lens := s.lens.set d { l with stack := { focus := pushed l.focus, iris := pushed l.iris } :: l.stack } }) ∧
    (let reply := reply .lensPop (exec (.lensPop r) s)
     if hold then reply .refusedState .noValue s.countHeard
     else if l.sweep.phase ≠ none then reply .busy .noValue s.countHeard
     else if (s.drops.get d).state ≠ .ready then reply .refusedState .noValue s.countHeard
     else if l.focus.mode ≠ .idle ∨ l.iris.mode ≠ .idle then reply .busy .noValue s.countHeard
     else
       match l.stack with
       | [] => reply .empty .noValue s.countHeard
       | v :: rest =>
         if (v.focus ≠ none ∧ l.focus.homed = false) ∨ (v.iris ≠ none ∧ l.iris.homed = false) then
           reply .notHomed .noValue s.countHeard
         else
           let f := v.focus.filter fun t => decide (t ≠ l.focus.position)
           let i := v.iris.filter fun t => decide (t ≠ l.iris.position)
           reply (if f = none ∧ i = none then .done else .accepted) (.count rest.length)
             { s.countHeard with
               lens :=
                 s.lens.set d
                   { l with
                     stack := rest
                     focus := match f with | none => l.focus | some t => l.focus.movedTo g.focusBacklash t false
                     iris :=
                       match i with
                       | none => l.iris
                       | some t =>
                         if f = none then l.iris.movedTo g.irisBacklash t false
                         else { l.iris with mode := .moving .turn, target := t, legGoal := none, verify := false } } })

/-- LENS_SWEEP (08 R140, R146; 09 R167, R168): its checks in order (LOADING first: log 37), and a sweep set up at its first
point, FOCUS going there or, where it stands there, the point timer running at once (log 26). POINT_TIMER_EXPIRY (09 R170): the sweep has stalled, and FOCUS goes back to where it
stood, or the sweep ends STALLED at once. -/
def Obligations.SweepsBeginAndStall : Prop :=
  ∀ (d : Drop) (s : State),
    let l := s.lens.get d
    let g := s.dropCfg d
    (∀ r : Request, s.TakesDrop .controller r d →
      let first : Half := r.args.getD 0 0 ++ r.args.getD 1 0
      let last : Half := r.args.getD 2 0 ++ r.args.getD 3 0
      let start := min g.focusRange first.toNat
      let stop := min g.focusRange last.toNat
      let stride := max 1 (r.args.getD 4 0).toNat
      let planned := if stop < start then 1 else (stop - start) / stride + 1
      let clamped : Prop := start ≠ first.toNat ∨ stop ≠ last.toNat ∨ r.args.getD 4 0 = 0 ∨ 32 < planned
      let w : Sweep :=
        { l.sweep with
          phase := some .move, start := start, stride := stride, pointCount := min 32 planned, pointIndex := 0
          preSweep := l.focus.position, passed := 0, lastOutcome := none, table := [], endOwed := none }
      let reply (c : AnswerCode) (v : AnswerValue) (u : State) : Prop :=
        exec (.lensSweep r) s = .next (u.answer RequestKind.lensSweep.value r c v)
      if s.loader = .loading ∨ (s.drops.get d).locateHold = true then reply .refusedState .noValue s.countHeard
      else if l.sweep.phase ≠ none then reply .busy .noValue s.countHeard
      else if (s.drops.get d).state ≠ .ready ∨ g.scoring = false then reply .refusedState .noValue s.countHeard
      else if l.focus.homed = false then reply .notHomed .noValue s.countHeard
      else if l.focus.mode ≠ .idle then reply .busy .noValue s.countHeard
      else
        reply (if clamped then .clamped else .accepted) (.count (min 32 planned))
          (s.countHeard.sweepGoes d start w
            { s.countHeard with
              lens :=
                s.lens.set d { l with sweep := { w with phase := some .wait, pointTimer := .running s.now 2000000 } } })) ∧
    (l.sweep.phase = some .wait → l.sweep.pointTimer.isRunning = true →
      exec (.pointTimerExpiry d) s = .next
        (s.sweepGoes d l.sweep.preSweep { l.sweep with phase := some .return, pointTimer := .stopped }
          (State.queueEvent { s with lens := s.lens.set d { l with sweep := l.sweep.ended .stalled } }
            (.sweepDone d .stalled l.focus.position none))))

/-- The offer of a closed part to a running sweep (09 R169, R171): a part with a score, MOVING clear and its snapshot at the
point, closed in WAIT, is recorded, and the next point is begun; after the last one FOCUS goes to the best entry, the
highest score at the lowest position, or the sweep ends DONE there at once. Any other part is passed over. A move of the
sweep that ends DONE is followed by the wait at its point, or by the sweep's end (09 R168, R170, R171). -/
def Obligations.SweepsTakeTheirPoints : Prop :=
  ∀ (d : Drop) (p : Part) (s : State),
    let l := s.lens.get d
    let w := l.sweep
    let point := w.start + w.pointIndex * w.stride
    let withSweep (v : Sweep) : State := { s with lens := s.lens.set d { l with sweep := v } }
    let usable (score : Nat) : Prop :=
      w.phase = some .wait ∧ p.flags.moving = false ∧ p.focus = some point ∧ p.score = some score
    (w.phase = none → s.offerPart d p = s) ∧
    (w.phase ≠ none → (∀ score, ¬usable score) → s.offerPart d p = withSweep { w with passed := bump w.passed }) ∧
    (∀ score, usable score →
      let table := w.table ++ [(point, score)]
      let v := { w with pointTimer := .stopped, table := table }
      (w.pointIndex + 1 < w.pointCount →
        let next := { v with pointIndex := w.pointIndex + 1 }
        s.offerPart d p =
          s.sweepGoes d (w.start + (w.pointIndex + 1) * w.stride) { next with phase := some .move }
            (withSweep { next with phase := some .wait, pointTimer := .running s.now 2000000 })) ∧
      (w.pointCount ≤ w.pointIndex + 1 → ∀ best ∈ table,
        (∀ e ∈ table, e.2 < best.2 ∨ (e.2 = best.2 ∧ best.1 ≤ e.1)) →
        s.offerPart d p =
          s.sweepGoes d best.1 { v with phase := some .best }
            ((withSweep ({ v with phase := some .best }.ended .done)).queueEvent
              (.sweepDone d .done best.1 (some best.2))))) ∧
    (w.endOwed = none →
      (w.phase = some .move →
        s.axisLeft d .focus .done = withSweep { w with phase := some .wait, pointTimer := .running s.now 2000000 }) ∧
      (w.phase = some .return →
        s.axisLeft d .focus .done =
          (withSweep (w.ended .stalled)).queueEvent (.sweepDone d .stalled l.focus.position none)) ∧
      (w.phase = some .best → ∀ best ∈ w.table, (∀ e ∈ w.table, e.2 < best.2 ∨ (e.2 = best.2 ∧ best.1 ≤ e.1)) →
        s.axisLeft d .focus .done =
          (withSweep (w.ended .done)).queueEvent (.sweepDone d .done l.focus.position (some best.2))))

/-! ## The Line Locator (10) and its sites (11) -/

/-- LOCATE_START_NOTE, LOCATE_END_NOTE and HOLDER_EXPIRY (10 R180, R181): the first START makes its sender the holder; a
rival's START withdraws the own queued one and defers the request; the own echo makes it HELD and goes to LAUNCH; the
holder's END, or 50 ms, frees the bundle. The drop of the own START ends its request NO_LINE, that of the own END frees the
bundle. -/
def Obligations.BundlesHaveOneHolder : Prop :=
  ∀ (b : Nat) (dr : Drop) (s : State), 1 ≤ b → b ≤ 15 →
    let l := s.locator
    let held (st : Station) : Locator :=
      if l.holder b = none then { l with holders := l.holders.set (b - 1) (some { station := st, since := s.now }) } else l
    let queuedFor (a : ActiveRequest) : Prop := l.active = some a ∧ a.bundleState = .queued ∧ (s.dropCfg a.drop).bundle = b
    let afterEnd : Option ActiveRequest :=
      l.active.map fun a =>
        if a.bundleState = .held ∧ (a.phase = .quiesce ∨ a.phase = .bundle) ∧ (s.dropCfg a.drop).bundle = b then
          { a with bundleState := .none }
        else a
    (∀ (src : Station) (f : Byte), src.val ≠ s.station →
      (¬(∃ a, queuedFor a) →
        exec (.locateStartNote (.received src b f)) s = .next { s.countHeard with locator := held src }) ∧
      (∀ a, queuedFor a →
        exec (.locateStartNote (.received src b f)) s = .next
          (State.deferred
            { s.countHeard.withdraw (·.isStartFor b) with
              locator := { held src with active := some { a with bundleState := .none } } }
            { a with bundleState := .none })) ∧
      (∀ h, l.holder b = some h → h.station = src →
        exec (.locateEndNote (.received src b f)) s = .next (s.countHeard.freed b)) ∧
      ((∀ h, l.holder b = some h → h.station ≠ src) →
        exec (.locateEndNote (.received src b f)) s = .next s.countHeard)) ∧
    (∀ (q : QNote) (st : Station), s.onLine = some q → st.val = s.station →
      (q.body = .locateStart b dr → ∀ a, queuedFor a →
        exec (.locateStartNote .echo) s = .next
          { s.echoed with locator := { held st with active := some { a with bundleState := .held, phase := .launch } } }) ∧
      (q.body = .locateStart b dr → ¬(∃ a, queuedFor a) →
        exec (.locateStartNote .echo) s = .next { s.echoed with locator := held st }) ∧
      (q.body = .locateEnd b dr → ∀ h, l.holder b = some h →
        exec (.locateEndNote .echo) s = .next
          (if h.station = st then State.freed { s.echoed with locator := { l with active := afterEnd } } b
           else { s.echoed with locator := { l with active := afterEnd } }))) ∧
    (l.holder b ≠ none → exec (.holderExpiry b) s = .next (s.freed b)) ∧
    (∀ a, queuedFor a → s.tellDropped (.locateStart b dr) = s.finishRequest a .noLine) ∧
    (∀ h, l.holder b = some h → h.station.val = s.station →
      s.tellDropped (.locateEnd b dr) = State.freed { s with locator := { l with active := afterEnd } } b)

/-- LOCATE and LOCATE_HALT (10 R176, R186) and the end of a request without a capture (10 R184): a request entry joins the
tail of the queue with k at most 6; a halt by its requester or by a service station ends the request where it stands, or,
with shots being fired, owes its end (halt owed set with stop owed: log 40); its events stand before the ANSWER (log 22);
the end queues the LOCATE_END that is owed, clears locate_hold, looks for a claim and
queues LOCATE_DONE. -/
def Obligations.LocateRequestsQueueAndHalt : Prop :=
  ∀ (d : Drop) (s : State),
    let l := s.locator
    (∀ r : Request, s.TakesDrop .controller r d →
      let k := (r.args.getD 0 0).toNat
      let queued := l.flashes.length + l.requests.length
      let locate (c : AnswerCode) (v : AnswerValue) (u : State) : Prop :=
        exec (.locate r) s = .next (u.answer RequestKind.locate.value r c v)
      let halt (c : AnswerCode) (u : State) : Prop :=
        exec (.locateHalt r) s = .next (u.answer RequestKind.locateHalt.value r c .noValue)
      let entitled (st : Station) : Prop := st = r.src ∨ s.isService r.src = true
      let counted : State := { s.countHeard with locator := { l with halts := bump l.halts } }
      (if (s.dropCfg d).enabled = false then locate .refusedState .noValue s.countHeard
       else if (∃ e ∈ l.requests, e.drop = d) ∨ l.active.map ActiveRequest.drop = some d then
         locate .alreadyQueued .noValue s.countHeard
       else if 6 ≤ queued then locate .queueFull .noValue s.countHeard
       else
         locate (if k ≤ 6 then .accepted else .clamped) (.count (queued + 1))
           { s.countHeard with
             locator :=
               { l with
                 requests := l.requests ++ [{ drop := d, k := min 6 k, requester := r.src }]
                 requestsTaken := bump l.requestsTaken } }) ∧
      ((∀ e ∈ l.requests, e.drop ≠ d) → l.active.map ActiveRequest.drop ≠ some d → halt .done s.countHeard) ∧
      (∀ pre e post, l.requests = pre ++ e :: post → e.drop = d → (∀ x ∈ pre ++ post, x.drop ≠ d) →
        (¬entitled e.requester → halt .refusedRank s.countHeard) ∧
        (entitled e.requester →
          halt .done
            (State.queueEvent { counted with locator := { counted.locator with requests := pre ++ post } }
              (.locateDone d .request false .halted none)))) ∧
      (∀ a, (∀ e ∈ l.requests, e.drop ≠ d) → l.active = some a → a.drop = d →
        (¬entitled a.requester → halt .refusedRank s.countHeard) ∧
        (entitled a.requester →
          ((a.phase = .quiesce ∨ a.phase = .bundle ∨ a.phase = .launch) →
            halt .done
              ((if a.bundleState = .queued then counted.withdraw (·.isStartFor (s.dropCfg d).bundle)
                else counted).finishRequest a .halted)) ∧
          (∀ c, a.phase = .settle → l.capture = some c → halt .done (counted.endCapture c .halted none)) ∧
          (∀ c, a.phase = .capture → l.capture = some c →
            halt .accepted
              { counted with
                locator :=
                  { counted.locator with
                    capture := some { c with stopOwed := true }, active := some { a with haltOwed := true } } })))) ∧
    (∀ a out,
      let b := (s.dropCfg a.drop).bundle
      let ended :=
        if a.bundleState = .held ∧ s.cli.queue.any (·.body.isEndFor b) = false then s.queueNote (.locateEnd b a.drop)
        else s
      s.finishRequest a out =
        (State.lookClaims
          { ended with
            drops := s.drops.set a.drop { s.drops.get a.drop with locateHold := false }
            locator := { l with active := none } }).queueEvent (.locateDone a.drop .request false out none))

/-- The phases of a request (10 R175, R179, R181, R182, R185): the first entry becomes the active request, with locate_hold
set, once its drop is READY or unpowered; QUIESCE ends when the drop is at rest or unpowered; a request in LAUNCH takes the
free launcher, hushing a READY drop, going back to QUIESCE for a LOST one, and firing dark on an unpowered one; the settle
wait ends in CAPTURE, of a DARK capture also where the wait never began (log 23). The hold stops a running sweep with
outcome LOCATE, at once or when FOCUS's burst in the slot is answered (09 R172; log 11); the hush takes the lens out of
READY (08 R145). -/
def Obligations.RequestsGoThroughTheirPhases : Prop :=
  ∀ s : State,
    let l := s.locator
    (∀ e rest, l.active = none → l.requests = e :: rest →
      let st := (s.drops.get e.drop).state
      let a : ActiveRequest :=
        { drop := e.drop, k := e.k, requester := e.requester, phase := .quiesce
          type := if st = .ready then .quiet else .dark
          bundleState := .none, deferrals := 0, haltOwed := false }
      let taken := State.setHold { s with locator := { l with requests := rest, active := some a } } e.drop
      (st = .ready → exec .requestActivate s = .next taken) ∧
      (st.powered = false → exec .requestActivate s = .next (taken.contends a)) ∧
      (st.powered = true → st ≠ .ready → exec .requestActivate s = .next s)) ∧
    (∀ d,
      let x := s.lens.get d
      let held : State := { s with drops := s.drops.set d { s.drops.get d with locateHold := true } }
      s.setHold d =
        if x.sweep.phase = none then held
        else if x.focus.mode.busy = true ∧ (x.slot.map fun b => b.1.axis) = some .focus then
          { held with
            lens :=
              s.lens.set d
                { x with
                  focus := { x.focus with haltOwed := true }
                  sweep := { x.sweep with endOwed := some (x.sweep.endOwed.getD .locate) } } }
        else
          State.queueEvent
            { held with
              lens :=
                s.lens.set d
                  { x with
                    focus := if x.focus.mode.busy = true then x.focus.idled else x.focus
                    sweep := x.sweep.ended .locate } }
            (.sweepDone d .locate x.focus.position none)) ∧
    (∀ a, l.active = some a → a.phase = .quiesce →
      let st := (s.drops.get a.drop).state
      (st = .ready → s.dropHasOpenPart a.drop = false → (s.lens.get a.drop).busy = false →
        exec .quiesceEnd s = .next (s.contends { a with type := .quiet })) ∧
      (st.powered = false → exec .quiesceEnd s = .next (s.contends { a with type := .dark })) ∧
      (st.powered = true →
        (st ≠ .ready ∨ s.dropHasOpenPart a.drop = true ∨ (s.lens.get a.drop).busy = true) →
        exec .quiesceEnd s = .next s)) ∧
    (∀ a, l.active = some a → a.phase = .launch → l.capture = none →
      let r := s.drops.get a.drop
      let b := (s.dropCfg a.drop).bundle
      let capture (t : CaptureType) : Capture :=
        { type := t, drop := a.drop, k := a.k, shotsDone := 0, sums := List.replicate 512 0, crosstalk := false
          trigger := none, stopOwed := false }
      (a.type = .quiet → r.state = .ready →
        ∃ t, exec .launchStart s = .next t ∧ s.ChangesOnly t [.drops, .links, .lens, .cli, .locator] [a.drop] ∧
          t.drops.get a.drop = { r with state := .hushed, stableTimer := .stopped, napTimer := .stopped } ∧
          t.links.get a.drop = (s.links.get a.drop).hand s.now .hush ∧
          t.lens.get a.drop = (s.lens.get a.drop).leftReady ∧
          t.cli = (((s.lens.get a.drop).leavingNotes a.drop).foldl State.queueNote s).cli ∧
          t.locator = { l with capture := some (capture .quiet), active := some { a with phase := .settle } }) ∧
      (a.type = .quiet → r.state = .lost →
        let owed : Prop := a.bundleState = .held ∧ s.cli.queue.any (·.body.isEndFor b) = false
        exec .launchStart s = .next
          { (if owed then s.queueNote (.locateEnd b a.drop) else s) with
            locator := { l with active := some { a with phase := .quiesce } } }) ∧
      (r.state.powered = false →
        exec .launchStart s = .next
          { s with
            locator :=
              { l with
                capture := some (capture .dark), active := some { a with type := .dark, phase := .capture } } })) ∧
    (∀ a, l.active = some a → a.phase = .settle →
      (l.settle.isRunning = true ∨ l.capture.map Capture.type = some .dark) →
      exec .settleEnd s = .next
        { s with locator := { l with settle := .stopped, active := some { a with phase := .capture } } })

/-- Flashes and shots (10 R175, R177, R178, R183, R184; 01 R19): the first flash entry takes the free launcher outside
LAUNCH; a stale one leaves the queue; a shot adds its samples to the sums; the last shot is analysed, and the capture's end
unhushes a HUSHED drop, ends a requested capture's request and queues LOCATE_DONE. The record of an analysed capture enters
the site table and reports its changes (11 R194, R199); a flash's result fills the break fields of the LINK_LOST part of its
shot and drop while the entry is OPEN or CLOSED and they are absent, and otherwise is counted unattached (06 R123, log 19). -/
def Obligations.CapturesRunToTheirEnd : Prop :=
  ∀ s : State,
    let l := s.locator
    (∀ f rest, l.flashes = f :: rest → l.capture = none → (∀ a, l.active = some a → a.phase ≠ .launch) →
      let b := (s.dropCfg f.drop).bundle
      let risk : Prop := b ≠ 0 ∧ ((l.holder b).map fun h => decide (h.station.val ≠ s.station)) = some true
      exec .flashStart s = .next
        { s with
          locator :=
            { l with
              flashes := rest
              capture := some
                { type := .flash, drop := f.drop, k := 0, shotsDone := 0, sums := List.replicate 512 0
                  crosstalk := decide risk, trigger := f.trigger, stopOwed := false }
              flashesRun := bump l.flashesRun } }) ∧
    (∀ d pre f post, l.flashes = pre ++ f :: post → f.drop = d → (∀ x ∈ pre, x.drop ≠ d) →
      exec (.flashStale d) s = .next
        { s with locator := { l with flashes := pre ++ post, flashesStale := bump l.flashesStale } }) ∧
    (∀ c samples, l.capture = some c → (c.type = .flash ∨ ∃ a, l.active = some a ∧ a.phase = .capture) →
      c.sums.length = 512 → samples.length = 512 →
      let shot :=
        { c with shotsDone := c.shotsDone + 1, sums := List.zipWith (fun v x => v + x.toNat) c.sums samples }
      let g := s.dropCfg c.drop
      (c.stopOwed = true → exec (.shotComplete samples) s = .next (s.endCapture shot .halted none)) ∧
      (c.stopOwed = false → c.shotsDone + 1 < 2 ^ c.k →
        exec (.shotComplete samples) s = .next { s with locator := { l with capture := some shot } }) ∧
      (c.stopOwed = false → 2 ^ c.k ≤ c.shotsDone + 1 →
        exec (.shotComplete samples) s = .next
          (match analyse (shot.sums.map (· / 2 ^ c.k)) g.threshold g.velocity g.calibration with
          | none => State.endCapture { s with locator := { l with noLaunch := bump l.noLaunch } } shot .noLaunch none
          | some r =>
            (State.makeRecord { s with locator := { l with analysed := bump l.analysed } } shot r).endCapture shot .done
              (some r)))) ∧
    (∀ c out res,
      let freed : State := { s with locator := { l with capture := none, settle := .stopped } }
      let unhushed : State :=
        if (s.drops.get c.drop).state = .hushed then
          { freed with
            drops :=
              s.drops.set c.drop
                { s.drops.get c.drop with
                  state := .warming, rampWindow := .stopped, warmTimer := .running s.now 3000000 }
            links := s.links.set c.drop { (s.links.get c.drop).hand s.now .unhush with beatRun := 0 } }
        else freed
      let ended : State :=
        match c.type, l.active with
        | .flash, _ => unhushed
        | _, none => unhushed
        | _, some a => unhushed.endRequest a
      s.endCapture c out res =
        ended.queueEvent (.locateDone c.drop (if c.type = .flash then .flash else .request) c.crosstalk out res)) ∧
    (∀ (c : Capture) (r : Reflection),
      let made := (s.sites.get c.drop).makeRecord (decide (c.type = .flash)) c.crosstalk c.trigger r
      let changed (x : SiteChange) : NoteBody := .event (.siteChanged c.drop x.slot x.kind x.count x.center)
      let entered : State :=
        { s with
          sites := s.sites.set c.drop made.1
          cli := ((made.2.map changed).foldl State.queueNote s).cli }
      s.makeRecord c r = if c.type = .flash then entered.breakResult c.drop c.trigger r else entered) ∧
    (∀ (d : Drop) (trigger : Option Half) (r : Reflection),
      let b := s.shots
      let takes (n : Half) (e : Entry) (p : Part) : Prop :=
        trigger = some n ∧ e ∈ b.table ∧ e.trigger = n ∧ e.part d = some p ∧ (e.state = .open ∨ e.state = .closed) ∧
          p.status = .closed .linkLost ∧ p.brk = none
      (∀ n e p, s.ShotLaw → takes n e p →
        s.breakResult d trigger r =
          { s with
            shots :=
              { b with
                table := b.table.map fun x =>
                  if x.trigger = n then
                    { x with
                      parts := x.parts.map fun y =>
                        if y.drop = d then { y with brk := some (r.kind, r.distance) } else y }
                  else x
                breaksAttached := bump b.breaksAttached } }) ∧
      ((∀ n e p, ¬takes n e p) →
        s.breakResult d trigger r = { s with shots := { b with breaksUnattached := bump b.breaksUnattached } }))

/-- Reflections and sites (11 R190 to R199): a placed reflection lies within the reach and 12 mm or more out, NEAR at 0,
with q at most 255. A record takes the next sequence; NONE, NEAR and crosstalk-risk enter nothing; any other is gathered
into the nearest site of its polarity within 150 mm, which then is combined with one it has come within reach of, or founds
a site in the lowest empty slot, or in that of the site of lowest count, of those the least recently updated. -/
def Obligations.ReflectionsAreGatheredIntoSites : Prop :=
  (∀ (samples : List Nat) (threshold vf cal : Nat) (r : Reflection), 8 ≤ threshold → 500 ≤ vf → cal ≤ 255 →
    analyse samples threshold vf cal = some r →
    r.q ≤ 255 ∧ (r.kind = .near → r.distance = 0) ∧
      (r.kind ≠ .near → 12 ≤ r.distance ∧ r.distance ≤ ((8048 - cal) * vf * 2342 + 50000) / 100000) ∧
      ((r.kind = .open ∨ r.kind = .short) → 192 ≤ r.q) ∧ ((r.kind = .stepUp ∨ r.kind = .stepDown) → r.q < 192)) ∧
  ∀ (t : SiteTable) (flash crosstalk : Bool) (trigger : Option Half) (r : Reflection), t.Law →
    let made := t.makeRecord flash crosstalk trigger r
    let reach (k : SiteKind) (x : Nat) (v : Site) : Prop :=
      v.kind.negative = k.negative ∧ v.center ≤ x + 150 ∧ x ≤ v.center + 150
    let away (x : Nat) (v : Site) : Nat := (x - v.center) + (v.center - x)
    let founded (k : SiteKind) : Site :=
      { kind := k, center := r.distance, count := 1, firstSeq := t.nextSeq, lastSeq := t.nextSeq
        flashCount := if flash then 1 else 0, lastTrigger := if flash then trigger else none }
    let same (u : SiteTable) (i : Nat) : Prop := u.site i = t.site i
    made.1.nextSeq = t.nextSeq + 1 ∧
    ((crosstalk = true ∨ r.kind.siteKind = none) → made = ({ t with nextSeq := t.nextSeq + 1 }, [])) ∧
    ∀ k, crosstalk = false → r.kind.siteKind = some k →
      (∀ i v, t.site i = some v → reach k r.distance v →
        (∀ j u, t.site j = some u → reach k r.distance u →
          away r.distance v < away r.distance u ∨ (away r.distance v = away r.distance u ∧ i ≤ j)) →
        let w := min 255 v.count
        let g : Site :=
          { v with
            center := (v.center * w + r.distance) / (w + 1)
            count := bump v.count
            lastSeq := t.nextSeq
            kind := moreSevere v.kind k
            flashCount := if flash then bump v.flashCount else v.flashCount
            lastTrigger := if flash = true ∧ trigger.isSome = true then trigger else v.lastTrigger }
        made.1.evictions = t.evictions ∧
        ((∀ j u, j ≠ i → t.site j = some u → ¬reach k g.center u) →
          made.1.site i = some g ∧ (∀ j, j ≠ i → same made.1 j) ∧ made.2 = [⟨i, g.kind, g.count, g.center⟩]) ∧
        (∀ j u, j ≠ i → t.site j = some u → reach k g.center u →
          ∃ c, made.1.site (min i j) = some c ∧ made.1.site (max i j) = none ∧
            (∀ n, n ≠ i → n ≠ j → same made.1 n) ∧
            c.center =
              (g.center * min 255 g.count + u.center * min 255 u.count) / (min 255 g.count + min 255 u.count) ∧
            c.count = min 65535 (g.count + u.count) ∧ c.flashCount = min 65535 (g.flashCount + u.flashCount) ∧
            c.kind = moreSevere g.kind u.kind ∧
            ∃ gone, made.2 = [⟨min i j, c.kind, c.count, c.center⟩, ⟨max i j, gone.kind, 0, gone.center⟩] ∧
              gone = if i < j then u else g)) ∧
      ((∀ i v, t.site i = some v → ¬reach k r.distance v) →
        (∀ i, i < 4 → t.site i = none → (∀ j, j < i → t.site j ≠ none) →
          made.1.site i = some (founded k) ∧ (∀ j, j ≠ i → same made.1 j) ∧ made.1.evictions = t.evictions ∧
            made.2 = [⟨i, k, 1, r.distance⟩]) ∧
        ((∀ i, i < 4 → t.site i ≠ none) →
          ∃ i v, i < 4 ∧ t.site i = some v ∧
            (∀ j u, t.site j = some u → v.count ≤ u.count ∧
              (v.count = u.count → (t.nextSeq + 1 - u.lastSeq).toNat ≤ (t.nextSeq + 1 - v.lastSeq).toNat)) ∧
            made.1.site i = some (founded k) ∧ (∀ j, j ≠ i → same made.1 j) ∧
            made.1.evictions = bump t.evictions ∧ made.2 = [⟨i, k, 1, r.distance⟩]))

/-! ## Requests and queries (12 R202 to R205) -/

/-- The checks common to all requests (12 R202), an own number first (02 R37; that it is counted as heard too is log 16); the
ANSWER with what it carries (12 R203; that the note that asks is counted before it is answered is log 22); and the requests that read (01 R29, 08 R161, 09 R173, 11 R200, 12 R205) or clear (11
R199, R201): each is answered, and but for CLEAR_SITES, whose events stand before its ANSWER (log 22), changes nothing else.
Until loading ends a field of configuration has no value: what is answered for it is left open (log 7). -/
def Obligations.QueriesOnlyAnswer : Prop :=
  ∀ (r : Request) (s : State),
    let sel := (r.args.getD 0 0).toNat
    let u := s.countHeard
    let reply (k : RequestKind) (o : Host.Outcome State Fault Refusal) (v : Option AnswerValue) : Prop :=
      o = .next
        (match v with
        | none => u.answer k.value r .unknown .noValue
        | some v => u.answer k.value r .done v)
    let reads (k : RequestKind) (o : Host.Outcome State Fault Refusal) (v : Option AnswerValue) : Prop :=
      o = .next
        (match v with
        | none => u.answer k.value r .unknown .noValue
        | some v =>
          State.answer { u with draws := if s.cfg.isNone = true then s.draws + 1 else s.draws } k.value r .done v)
    let here : Prop := s.station ≠ 15 ∧ r.target.toNat = s.station
    let inSet (set : StationCfg → Half) : Prop := ∀ c, s.cfg = some c → (set c.station).getLsbD r.src.val = true
    let counters := s.cli.counters
    u = { s with cli := { s.cli with counters := { counters with notesHeard := min 4294967295 (counters.notesHeard + 1) } } } ∧
    (∀ kind c v,
      u.answer kind r c v =
        u.queueNote (.answer { target := r.src, kind := kind, drop := r.drop, code := c, value := v })) ∧
    (∀ x ∈ requestTable,
      let refused (c : AnswerCode) : Prop := exec (x.1 r) s = .next (u.answer x.2.1.value r c .noValue)
      let ranked : Prop := inSet StationCfg.controllerSet ∧ (x.2.2.1 = true → inSet StationCfg.serviceSet)
      (r.src.val = s.station →
        exec (x.1 r) s = .next
          { u with
            cli :=
              { u.cli with
                counters :=
                  { u.cli.counters with duplicateSuspected := min 65535 (counters.duplicateSuspected + 1) } } }) ∧
      (r.src.val ≠ s.station →
        (¬here → exec (x.1 r) s = .next u) ∧
        (here → ¬ranked → refused .refusedRank) ∧
        (here → ranked → x.2.2.2 = true → 3 < r.drop.toNat → refused .unknown))) ∧
    (∀ kind : Byte, r.src.val ≠ s.station → (∀ k ∈ RequestKind.all, k.value ≠ kind) →
      (¬here → exec (.unknownRequestKind kind r) s = .next u) ∧
      (here → exec (.unknownRequestKind kind r) s = .next (u.answer kind r .unknown .noValue))) ∧
    (s.Takes .controller r →
      (∃ budget free,
        (∀ c, s.cfg = some c →
          let ring := c.station.ringLength
          let f := (s.uplink.mark + ring - s.uplink.place) % ring
          budget = c.station.cellBudget ∧ free = if f = 0 then ring else f) ∧
        (sel < 61 →
          reads .queryStation (exec (.queryStation r) s) (((u.stationTable budget free)[sel]?).map .station))) ∧
      (∀ d, r.drop.toNat = d.toNat → 61 ≤ sel →
        reads .queryStation (exec (.queryStation r) s) (((s.dropTable d)[sel - 61]?).map .station)) ∧
      (3 < r.drop.toNat → 61 ≤ sel → reply .queryStation (exec (.queryStation r) s) none)) ∧
    (∀ d, s.TakesDrop .controller r d →
      let l := s.lens.get d
      let t := s.sites.get d
      let x := s.drops.get d
      (∃ allowance,
        (∀ c, s.cfg = some c → allowance = (c.drops.get d).allowance) ∧
        reads .queryDrop (exec (.queryDrop r) s)
          (match sel with
          | 0 =>
            some (.dropStatus x.state x.cause x.lastTripCause (s.dropCfg d).enabled x.onIntent x.locateHold
              (s.links.get d).locked)
          | 1 => some (.dropCurrent x.measured allowance)
          | 2 => some (.dropLosses x.lockLossCount x.dropoutCount)
          | 3 => some (.dropTrips x.tripSeries x.tripCount)
          | _ => none)) ∧
      reply .queryLens (exec (.queryLens r) s)
        (match sel with
        | 0 => some (.lensAxis l.focus.mode l.focus.homed l.focus.position)
        | 1 => some (.lensAxis l.iris.mode l.iris.homed l.iris.position)
        | 2 => some (.lensTargets l.focus.target l.iris.target l.stack.length)
        | 3 => some (.lensCounters l.burstsSent l.acks l.ackTimeouts l.strayAcks)
        | 4 => some (.lensCounters l.homings l.homeFailures l.moves l.verifyFailures)
        | _ => none) ∧
      reply .querySweep (exec (.querySweep r) s)
        (if sel = 0 then
          some (.sweepRecord l.sweep.phase l.sweep.lastOutcome l.sweep.pointCount l.sweep.table.length l.sweep.passed)
        else (l.sweep.table[sel - 1]?).map fun p => .sweepPoint p.1 p.2) ∧
      (4 < sel → reply .querySites (exec (.querySites r) s) none) ∧
      (sel ≤ 4 → t.occupied = [] → reply .querySites (exec (.querySites r) s) (some .noValue)) ∧
      (sel ≤ 4 → t.occupied ≠ [] → exec (.querySites r) s = .next
        { s.countHeard with
          cli :=
            (t.occupied.map fun p => NoteBody.answer
              { target := r.src, kind := RequestKind.querySites.value, drop := r.drop, code := .done
                value :=
                  if sel = 0 then .sitePlace p.1 p.2.kind p.2.center
                  else if sel = 1 then .siteCounts p.2.count p.2.flashCount
                  else if sel = 2 then .siteSequence p.2.firstSeq
                  else if sel = 3 then .siteSequence p.2.lastSeq
                  else .siteTrigger p.1 p.2.lastTrigger }).foldl Cli.enqueue s.countHeard.cli })) ∧
    (∀ d, s.TakesDrop .service r d →
      let t := s.sites.get d
      exec (.clearSites r) s = .next
        { s.countHeard with
          sites := s.sites.set d { t with slots := [none, none, none, none] }
          cli :=
            ((t.occupied.map fun (p : Nat × Site) => NoteBody.event (.siteChanged d p.1 p.2.kind 0 p.2.center)) ++
              [NoteBody.answer
                { target := r.src, kind := RequestKind.clearSites.value, drop := r.drop, code := .done
                  value := .count t.occupied.length }]).foldl Cli.enqueue s.countHeard.cli })

/-! ## Resets and loading (02 R43, 12 R206 to R208) -/

/-- POWER_ON_RESET, CELL_RESET and loading (02 R43, R45; 12 R206 to R208; 01 R30): a reset brings every block to its value
after reset with the station number latched, the straps' value where the five pins have an odd number of ones and 15
otherwise; a cell reset keeps the site tables, acts for a service station alone, and only at its target. Loading ends
LOADED where the image passes its checks, with its fields in their ranges, or DEFAULTED: the first PRESENCE is queued, the
auto-power drops enter CLAIMING and stand in the claim queue in drop order, and the CLAIM of the first with locate_hold
clear is queued; at a stray station nothing is queued. The start-up wait ends after it. Where loading has ended already, or
for the wait has not, nothing changes. What the measured current reads at a reset is left open (log 4); the link status is
kept (log 5); a drop's nap time, group and bundle after DEFAULTED are log 12, what counts as one clamp is log 15. -/
def Obligations.ResetsAndLoadingStartTheHub : Prop :=
  ∀ s : State,
    let cleared (pins : Pins) (t : State) (kept : List Block) : Prop :=
      let odd : Prop :=
        ((List.range 4).countP (fun i => pins.straps.getLsbD i) + pins.parity.toNat) % 2 = 1
      (∀ b, b ∉ [.now, .draws, .pins, .station, .drops, .cli, .uplink, .pending] ++ kept → b.same State.reset t) ∧
      (∀ b ∈ [.now, .pending] ++ kept, b.same s t) ∧
      t.pins = pins ∧ t.station = (if odd then pins.straps.toNat else 15) ∧
      (∀ d, t.drops.get d = { State.reset.drops.get d with measured := (t.drops.get d).measured }) ∧
      t.cli = { State.reset.cli with startWait := .running s.now 300000 } ∧
      t.uplink = { State.reset.uplink with linkUp := s.uplink.linkUp }
    (∀ pins, ∃ t, exec (.powerOnReset pins) s = .next t ∧ cleared pins t []) ∧
    (∀ (src : Station) (target : Byte) (pins : Pins), src.val ≠ s.station →
      let here : Prop := target.toNat = s.station ∨ target.toNat = 15
      (here → s.isService src = true → ∃ t, exec (.cellReset src target pins) s = .next t ∧ cleared pins t [.sites]) ∧
      (here → s.isService src = false →
        exec (.cellReset src target pins) s = .next { s.countHeard with resetsRefused := bump s.resetsRefused }) ∧
      (¬here → exec (.cellReset src target pins) s = .next s.countHeard)) ∧
    (∀ read, s.loader = .loading → s.BudgetLaw → ∃ t, exec (.loadEnd read) s = .next t ∧
      let autos : List Drop :=
        if s.station = 15 then []
        else Drop.all.filter fun d => (t.dropCfg d).enabled && (t.dropCfg d).autoPower
      let announced : Cli :=
        if s.station = 15 then s.cli
        else
          { (if s.cli.queue.any (·.body.isPresence) = true then s.cli else s.cli.enqueue (.presence none)) with
            presenceTimer := .running s.now 250000 }
      s.ChangesOnly t [.loader, .cfg, .clampedFields, .drops, .lens, .budget, .cli] Drop.all ∧
      (∀ img, read = .image img → imageAccepted img →
        t.loader = .loaded ∧
          t.cfg = some { station := imageStation img, drops := ⟨imageDrop img .d0, imageDrop img .d1, imageDrop img .d2,
            imageDrop img .d3⟩ } ∧
          t.clampedFields = min 255 (s.clampedFields + (imageRanged img).countP fun p => decide (p.1 ≠ p.2))) ∧
      ((∀ img, read = .image img → ¬imageAccepted img) →
        t.loader = .defaulted ∧ t.cfg = some (defaultedWith 0 0 0) ∧ t.clampedFields = s.clampedFields ∧ autos = []) ∧
      (∀ d,
        t.drops.get d =
          (if d ∈ autos then { s.drops.get d with state := .claiming, onIntent := true } else s.drops.get d) ∧
        t.lens.get d = (if d ∈ autos then (s.lens.get d).unhomed else s.lens.get d)) ∧
      t.budget = { s.budget with claims := autos.map fun d => { drop := d, retry := .sendable } } ∧
      t.cli =
        (match autos.find? fun d => !(s.drops.get d).locateHold with
        | none => announced
        | some d => announced.enqueue (.claim d (t.dropCfg d).allowance none)) ∧
      (s.station ≠ 15 → s.cli.queue.length < 8 → t.cli.queue.any (·.body.isPresence) = true)) ∧
    (s.loader ≠ .loading →
      exec .startupWaitEnd s = .next { s with cli := { s.cli with startWait := .stopped } } ∧
        ∀ read, exec (.loadEnd read) s = .next s) ∧
    (s.loader = .loading → exec .startupWaitEnd s = .next s)

/-! ## The machine as a whole -/

/-- A step runs the command at the front of the queue on the state with the queue's rest; on an empty queue a microsecond
passes (log 2). -/
def Obligations.StepRunsTheFrontCommand : Prop :=
  (∀ (c : Instr) (rest : List Instr) (s : State), s.pending = c :: rest → step s = exec c { s with pending := rest }) ∧
    ∀ s : State, s.pending = [] → step s = .next { s with now := s.now + 1 }

/-- The state after reset meets every law. -/
def Obligations.ResetMeetsEveryLaw : Prop :=
  State.reset.MemoryLaw ∧ State.reset.PartLaw ∧ State.reset.RxLaw ∧ State.reset.RecordLaw ∧ State.reset.BudgetLaw ∧
    State.reset.HushLaw ∧ State.reset.PortLaw ∧ State.reset.TimerLaw ∧ State.reset.ViewLaw ∧ State.reset.SiteLaw

/-- The frame memory (05 R85 to R87), the shot table (06 R104, R105, R110, R122) and the record in progress (07 R130, R133,
R134): where the memory keeps its canonical form, "the free-list length plus the number of pages in the chains of shot-table
parts always equals 4096, and no page stands twice among them" (05 R85), the table is sound, each receive context in IN has
its open part, and every chain has the pages of the words still to be sent, every command completes, keeps all of that so,
and leaves the queue of commands as it is. -/
def Obligations.EveryCommandKeepsTheFrameMemory : Prop :=
  ∀ (c : Instr) (s : State), s.MemoryLaw → s.ShotLaw → s.RxLaw → s.RecordLaw →
    ∃ t, exec c s = .next t ∧ t.MemoryLaw ∧ t.ShotLaw ∧ t.RxLaw ∧ t.RecordLaw ∧ t.pending = s.pending

/-- "The own held total is therefore always the sum of the allowances of its drops in RAMPING, WARMING, READY, HUSHED or
LOST" (03 R54), with what it rests on. -/
def Obligations.EveryStepKeepsTheOwnHeldTotal : Prop :=
  ∀ s t : State, s.BudgetLaw → step s = .next t → t.BudgetLaw

/-- "A drop has a PENDING or RECEIVING part only while it is READY" (06 R115), with what it rests on; that the auto-power
drops which the end of loading takes to CLAIMING stand in OFF then is the law of the own held total, a premise here and kept
by every step too. -/
def Obligations.EveryStepKeepsOpenPartsOnReadyDrops : Prop :=
  ∀ s t : State, s.PartLaw → s.BudgetLaw → step s = .next t → t.PartLaw

/-- A drop is HUSHED exactly while a quiet capture of it is in flight (10 R182); an unpowered drop's port is UNLOCKED (01
R14); each timer of a drop runs in its own state alone (01 R1). That no drop is out of OFF until loading ends is the law of the
own held total, a premise here and kept by every step too. -/
def Obligations.EveryStepKeepsDropsInTheirStates : Prop :=
  ∀ s t : State, s.HushLaw → s.PortLaw → s.TimerLaw → s.BudgetLaw → step s = .next t →
    t.HushLaw ∧ t.PortLaw ∧ t.TimerLaw

/-- The view table keeps to its bounds with the own entry absent (02 R51, 03 R56); each site table holds at most 4 sites,
those of one polarity more than 150 mm apart, each with a count (11 R195). -/
def Obligations.EveryStepKeepsViewsAndSites : Prop :=
  ∀ s t : State, s.ViewLaw → s.SiteLaw → step s = .next t → t.ViewLaw ∧ t.SiteLaw

/-- A note sent is the note received (02 R31, R32, R34): a receiver takes the inserted bits out of the line bits of any frame
of a known kind with an allowed length, and finds the fields that were sent. That no bit is inserted behind the last CRC bit
is log 14. -/
def Obligations.FramesReadBack : Prop :=
  ∀ (f : FrameFields) (k : NoteKind), f.cls < 4 → f.station < 15 → f.kind = k.value → k.allows f.payload.length = true →
    receiveFrame f.lineBits = .ok f

end
end

