-- ==== Sys2Proof/Laws/State.lean ====
section
/-! SUPPORT. One lemma per field for each update of the state, true by `rfl`: no later proof unfolds a record
update. -/

namespace Sys2Proof

variable {α : Type}

/-! ## One value per drop -/

@[simp] theorem PerDrop.get_set_same (p : PerDrop α) (d : Drop) (a : α) : (p.set d a).get d = a := by cases d <;> rfl

@[simp] theorem PerDrop.get_set_other (p : PerDrop α) {d e : Drop} (a : α) (h : e ≠ d) :
    (p.set d a).get e = p.get e := by cases d <;> cases e <;> first | rfl | exact absurd rfl h

theorem PerDrop.get_set (p : PerDrop α) (d e : Drop) (a : α) :
    (p.set d a).get e = if e = d then a else p.get e := by cases d <;> cases e <;> rfl

@[simp] theorem PerDrop.set_get (p : PerDrop α) (d : Drop) : p.set d (p.get d) = p := by cases d <;> rfl

@[simp] theorem PerDrop.set_set (p : PerDrop α) (d : Drop) (a b : α) : (p.set d a).set d b = p.set d b := by
  cases d <;> rfl

@[simp] theorem PerDrop.get_const (d : Drop) (a : α) : (PerDrop.const a).get d = a := by cases d <;> rfl

theorem PerDrop.ext_get {p q : PerDrop α} (h : ∀ d, p.get d = q.get d) : p = q := by
  have h0 := h .d0; have h1 := h .d1; have h2 := h .d2; have h3 := h .d3
  cases p; cases q; simp_all [PerDrop.get]

theorem Drop.mem_all (d : Drop) : d ∈ Drop.all := by cases d <;> decide

namespace Machine


/-! ## `State.modDrop` -/

section
variable (s : State) (d : Drop) (f : DropRec → DropRec)
@[simp] theorem State.modDrop_now : (s.modDrop d f).now = s.now := rfl
@[simp] theorem State.modDrop_draws : (s.modDrop d f).draws = s.draws := rfl
@[simp] theorem State.modDrop_pins : (s.modDrop d f).pins = s.pins := rfl
@[simp] theorem State.modDrop_station : (s.modDrop d f).station = s.station := rfl
@[simp] theorem State.modDrop_loader : (s.modDrop d f).loader = s.loader := rfl
@[simp] theorem State.modDrop_clampedFields : (s.modDrop d f).clampedFields = s.clampedFields := rfl
@[simp] theorem State.modDrop_resetsRefused : (s.modDrop d f).resetsRefused = s.resetsRefused := rfl
@[simp] theorem State.modDrop_cfg : (s.modDrop d f).cfg = s.cfg := rfl
@[simp] theorem State.modDrop_drops : (s.modDrop d f).drops = s.drops.set d (f (s.drops.get d)) := rfl
@[simp] theorem State.modDrop_links : (s.modDrop d f).links = s.links := rfl
@[simp] theorem State.modDrop_cli : (s.modDrop d f).cli = s.cli := rfl
@[simp] theorem State.modDrop_view : (s.modDrop d f).view = s.view := rfl
@[simp] theorem State.modDrop_budget : (s.modDrop d f).budget = s.budget := rfl
@[simp] theorem State.modDrop_trig : (s.modDrop d f).trig = s.trig := rfl
@[simp] theorem State.modDrop_fmm : (s.modDrop d f).fmm = s.fmm := rfl
@[simp] theorem State.modDrop_rx : (s.modDrop d f).rx = s.rx := rfl
@[simp] theorem State.modDrop_shots : (s.modDrop d f).shots = s.shots := rfl
@[simp] theorem State.modDrop_uplink : (s.modDrop d f).uplink = s.uplink := rfl
@[simp] theorem State.modDrop_lens : (s.modDrop d f).lens = s.lens := rfl
@[simp] theorem State.modDrop_locator : (s.modDrop d f).locator = s.locator := rfl
@[simp] theorem State.modDrop_sites : (s.modDrop d f).sites = s.sites := rfl
@[simp] theorem State.modDrop_pending : (s.modDrop d f).pending = s.pending := rfl
end

/-! ## `State.modLink` -/

section
variable (s : State) (d : Drop) (f : LinkPort → LinkPort)
@[simp] theorem State.modLink_now : (s.modLink d f).now = s.now := rfl
@[simp] theorem State.modLink_draws : (s.modLink d f).draws = s.draws := rfl
@[simp] theorem State.modLink_pins : (s.modLink d f).pins = s.pins := rfl
@[simp] theorem State.modLink_station : (s.modLink d f).station = s.station := rfl
@[simp] theorem State.modLink_loader : (s.modLink d f).loader = s.loader := rfl
@[simp] theorem State.modLink_clampedFields : (s.modLink d f).clampedFields = s.clampedFields := rfl
@[simp] theorem State.modLink_resetsRefused : (s.modLink d f).resetsRefused = s.resetsRefused := rfl
@[simp] theorem State.modLink_cfg : (s.modLink d f).cfg = s.cfg := rfl
@[simp] theorem State.modLink_drops : (s.modLink d f).drops = s.drops := rfl
@[simp] theorem State.modLink_links : (s.modLink d f).links = s.links.set d (f (s.links.get d)) := rfl
@[simp] theorem State.modLink_cli : (s.modLink d f).cli = s.cli := rfl
@[simp] theorem State.modLink_view : (s.modLink d f).view = s.view := rfl
@[simp] theorem State.modLink_budget : (s.modLink d f).budget = s.budget := rfl
@[simp] theorem State.modLink_trig : (s.modLink d f).trig = s.trig := rfl
@[simp] theorem State.modLink_fmm : (s.modLink d f).fmm = s.fmm := rfl
@[simp] theorem State.modLink_rx : (s.modLink d f).rx = s.rx := rfl
@[simp] theorem State.modLink_shots : (s.modLink d f).shots = s.shots := rfl
@[simp] theorem State.modLink_uplink : (s.modLink d f).uplink = s.uplink := rfl
@[simp] theorem State.modLink_lens : (s.modLink d f).lens = s.lens := rfl
@[simp] theorem State.modLink_locator : (s.modLink d f).locator = s.locator := rfl
@[simp] theorem State.modLink_sites : (s.modLink d f).sites = s.sites := rfl
@[simp] theorem State.modLink_pending : (s.modLink d f).pending = s.pending := rfl
end

/-! ## `State.modRx` -/

section
variable (s : State) (d : Drop) (f : Receiver → Receiver)
@[simp] theorem State.modRx_now : (s.modRx d f).now = s.now := rfl
@[simp] theorem State.modRx_draws : (s.modRx d f).draws = s.draws := rfl
@[simp] theorem State.modRx_pins : (s.modRx d f).pins = s.pins := rfl
@[simp] theorem State.modRx_station : (s.modRx d f).station = s.station := rfl
@[simp] theorem State.modRx_loader : (s.modRx d f).loader = s.loader := rfl
@[simp] theorem State.modRx_clampedFields : (s.modRx d f).clampedFields = s.clampedFields := rfl
@[simp] theorem State.modRx_resetsRefused : (s.modRx d f).resetsRefused = s.resetsRefused := rfl
@[simp] theorem State.modRx_cfg : (s.modRx d f).cfg = s.cfg := rfl
@[simp] theorem State.modRx_drops : (s.modRx d f).drops = s.drops := rfl
@[simp] theorem State.modRx_links : (s.modRx d f).links = s.links := rfl
@[simp] theorem State.modRx_cli : (s.modRx d f).cli = s.cli := rfl
@[simp] theorem State.modRx_view : (s.modRx d f).view = s.view := rfl
@[simp] theorem State.modRx_budget : (s.modRx d f).budget = s.budget := rfl
@[simp] theorem State.modRx_trig : (s.modRx d f).trig = s.trig := rfl
@[simp] theorem State.modRx_fmm : (s.modRx d f).fmm = s.fmm := rfl
@[simp] theorem State.modRx_rx : (s.modRx d f).rx = s.rx.set d (f (s.rx.get d)) := rfl
@[simp] theorem State.modRx_shots : (s.modRx d f).shots = s.shots := rfl
@[simp] theorem State.modRx_uplink : (s.modRx d f).uplink = s.uplink := rfl
@[simp] theorem State.modRx_lens : (s.modRx d f).lens = s.lens := rfl
@[simp] theorem State.modRx_locator : (s.modRx d f).locator = s.locator := rfl
@[simp] theorem State.modRx_sites : (s.modRx d f).sites = s.sites := rfl
@[simp] theorem State.modRx_pending : (s.modRx d f).pending = s.pending := rfl
end

/-! ## `State.modLens` -/

section
variable (s : State) (d : Drop) (f : Lens → Lens)
@[simp] theorem State.modLens_now : (s.modLens d f).now = s.now := rfl
@[simp] theorem State.modLens_draws : (s.modLens d f).draws = s.draws := rfl
@[simp] theorem State.modLens_pins : (s.modLens d f).pins = s.pins := rfl
@[simp] theorem State.modLens_station : (s.modLens d f).station = s.station := rfl
@[simp] theorem State.modLens_loader : (s.modLens d f).loader = s.loader := rfl
@[simp] theorem State.modLens_clampedFields : (s.modLens d f).clampedFields = s.clampedFields := rfl
@[simp] theorem State.modLens_resetsRefused : (s.modLens d f).resetsRefused = s.resetsRefused := rfl
@[simp] theorem State.modLens_cfg : (s.modLens d f).cfg = s.cfg := rfl
@[simp] theorem State.modLens_drops : (s.modLens d f).drops = s.drops := rfl
@[simp] theorem State.modLens_links : (s.modLens d f).links = s.links := rfl
@[simp] theorem State.modLens_cli : (s.modLens d f).cli = s.cli := rfl
@[simp] theorem State.modLens_view : (s.modLens d f).view = s.view := rfl
@[simp] theorem State.modLens_budget : (s.modLens d f).budget = s.budget := rfl
@[simp] theorem State.modLens_trig : (s.modLens d f).trig = s.trig := rfl
@[simp] theorem State.modLens_fmm : (s.modLens d f).fmm = s.fmm := rfl
@[simp] theorem State.modLens_rx : (s.modLens d f).rx = s.rx := rfl
@[simp] theorem State.modLens_shots : (s.modLens d f).shots = s.shots := rfl
@[simp] theorem State.modLens_uplink : (s.modLens d f).uplink = s.uplink := rfl
@[simp] theorem State.modLens_lens : (s.modLens d f).lens = s.lens.set d (f (s.lens.get d)) := rfl
@[simp] theorem State.modLens_locator : (s.modLens d f).locator = s.locator := rfl
@[simp] theorem State.modLens_sites : (s.modLens d f).sites = s.sites := rfl
@[simp] theorem State.modLens_pending : (s.modLens d f).pending = s.pending := rfl
end

/-! ## `State.modSites` -/

section
variable (s : State) (d : Drop) (f : SiteTable → SiteTable)
@[simp] theorem State.modSites_now : (s.modSites d f).now = s.now := rfl
@[simp] theorem State.modSites_draws : (s.modSites d f).draws = s.draws := rfl
@[simp] theorem State.modSites_pins : (s.modSites d f).pins = s.pins := rfl
@[simp] theorem State.modSites_station : (s.modSites d f).station = s.station := rfl
@[simp] theorem State.modSites_loader : (s.modSites d f).loader = s.loader := rfl
@[simp] theorem State.modSites_clampedFields : (s.modSites d f).clampedFields = s.clampedFields := rfl
@[simp] theorem State.modSites_resetsRefused : (s.modSites d f).resetsRefused = s.resetsRefused := rfl
@[simp] theorem State.modSites_cfg : (s.modSites d f).cfg = s.cfg := rfl
@[simp] theorem State.modSites_drops : (s.modSites d f).drops = s.drops := rfl
@[simp] theorem State.modSites_links : (s.modSites d f).links = s.links := rfl
@[simp] theorem State.modSites_cli : (s.modSites d f).cli = s.cli := rfl
@[simp] theorem State.modSites_view : (s.modSites d f).view = s.view := rfl
@[simp] theorem State.modSites_budget : (s.modSites d f).budget = s.budget := rfl
@[simp] theorem State.modSites_trig : (s.modSites d f).trig = s.trig := rfl
@[simp] theorem State.modSites_fmm : (s.modSites d f).fmm = s.fmm := rfl
@[simp] theorem State.modSites_rx : (s.modSites d f).rx = s.rx := rfl
@[simp] theorem State.modSites_shots : (s.modSites d f).shots = s.shots := rfl
@[simp] theorem State.modSites_uplink : (s.modSites d f).uplink = s.uplink := rfl
@[simp] theorem State.modSites_lens : (s.modSites d f).lens = s.lens := rfl
@[simp] theorem State.modSites_locator : (s.modSites d f).locator = s.locator := rfl
@[simp] theorem State.modSites_sites : (s.modSites d f).sites = s.sites.set d (f (s.sites.get d)) := rfl
@[simp] theorem State.modSites_pending : (s.modSites d f).pending = s.pending := rfl
end

/-! ## `State.modCli` -/

section
variable (s : State) (f : Cli → Cli)
@[simp] theorem State.modCli_now : (s.modCli f).now = s.now := rfl
@[simp] theorem State.modCli_draws : (s.modCli f).draws = s.draws := rfl
@[simp] theorem State.modCli_pins : (s.modCli f).pins = s.pins := rfl
@[simp] theorem State.modCli_station : (s.modCli f).station = s.station := rfl
@[simp] theorem State.modCli_loader : (s.modCli f).loader = s.loader := rfl
@[simp] theorem State.modCli_clampedFields : (s.modCli f).clampedFields = s.clampedFields := rfl
@[simp] theorem State.modCli_resetsRefused : (s.modCli f).resetsRefused = s.resetsRefused := rfl
@[simp] theorem State.modCli_cfg : (s.modCli f).cfg = s.cfg := rfl
@[simp] theorem State.modCli_drops : (s.modCli f).drops = s.drops := rfl
@[simp] theorem State.modCli_links : (s.modCli f).links = s.links := rfl
@[simp] theorem State.modCli_cli : (s.modCli f).cli = f s.cli := rfl
@[simp] theorem State.modCli_view : (s.modCli f).view = s.view := rfl
@[simp] theorem State.modCli_budget : (s.modCli f).budget = s.budget := rfl
@[simp] theorem State.modCli_trig : (s.modCli f).trig = s.trig := rfl
@[simp] theorem State.modCli_fmm : (s.modCli f).fmm = s.fmm := rfl
@[simp] theorem State.modCli_rx : (s.modCli f).rx = s.rx := rfl
@[simp] theorem State.modCli_shots : (s.modCli f).shots = s.shots := rfl
@[simp] theorem State.modCli_uplink : (s.modCli f).uplink = s.uplink := rfl
@[simp] theorem State.modCli_lens : (s.modCli f).lens = s.lens := rfl
@[simp] theorem State.modCli_locator : (s.modCli f).locator = s.locator := rfl
@[simp] theorem State.modCli_sites : (s.modCli f).sites = s.sites := rfl
@[simp] theorem State.modCli_pending : (s.modCli f).pending = s.pending := rfl
end

/-! ## `State.modCounters` -/

section
variable (s : State) (f : LineCounters → LineCounters)
@[simp] theorem State.modCounters_now : (s.modCounters f).now = s.now := rfl
@[simp] theorem State.modCounters_draws : (s.modCounters f).draws = s.draws := rfl
@[simp] theorem State.modCounters_pins : (s.modCounters f).pins = s.pins := rfl
@[simp] theorem State.modCounters_station : (s.modCounters f).station = s.station := rfl
@[simp] theorem State.modCounters_loader : (s.modCounters f).loader = s.loader := rfl
@[simp] theorem State.modCounters_clampedFields : (s.modCounters f).clampedFields = s.clampedFields := rfl
@[simp] theorem State.modCounters_resetsRefused : (s.modCounters f).resetsRefused = s.resetsRefused := rfl
@[simp] theorem State.modCounters_cfg : (s.modCounters f).cfg = s.cfg := rfl
@[simp] theorem State.modCounters_drops : (s.modCounters f).drops = s.drops := rfl
@[simp] theorem State.modCounters_links : (s.modCounters f).links = s.links := rfl
@[simp] theorem State.modCounters_cli : (s.modCounters f).cli = { s.cli with counters := f s.cli.counters } := rfl
@[simp] theorem State.modCounters_view : (s.modCounters f).view = s.view := rfl
@[simp] theorem State.modCounters_budget : (s.modCounters f).budget = s.budget := rfl
@[simp] theorem State.modCounters_trig : (s.modCounters f).trig = s.trig := rfl
@[simp] theorem State.modCounters_fmm : (s.modCounters f).fmm = s.fmm := rfl
@[simp] theorem State.modCounters_rx : (s.modCounters f).rx = s.rx := rfl
@[simp] theorem State.modCounters_shots : (s.modCounters f).shots = s.shots := rfl
@[simp] theorem State.modCounters_uplink : (s.modCounters f).uplink = s.uplink := rfl
@[simp] theorem State.modCounters_lens : (s.modCounters f).lens = s.lens := rfl
@[simp] theorem State.modCounters_locator : (s.modCounters f).locator = s.locator := rfl
@[simp] theorem State.modCounters_sites : (s.modCounters f).sites = s.sites := rfl
@[simp] theorem State.modCounters_pending : (s.modCounters f).pending = s.pending := rfl
end

/-! ## `State.modBudget` -/

section
variable (s : State) (f : Budget → Budget)
@[simp] theorem State.modBudget_now : (s.modBudget f).now = s.now := rfl
@[simp] theorem State.modBudget_draws : (s.modBudget f).draws = s.draws := rfl
@[simp] theorem State.modBudget_pins : (s.modBudget f).pins = s.pins := rfl
@[simp] theorem State.modBudget_station : (s.modBudget f).station = s.station := rfl
@[simp] theorem State.modBudget_loader : (s.modBudget f).loader = s.loader := rfl
@[simp] theorem State.modBudget_clampedFields : (s.modBudget f).clampedFields = s.clampedFields := rfl
@[simp] theorem State.modBudget_resetsRefused : (s.modBudget f).resetsRefused = s.resetsRefused := rfl
@[simp] theorem State.modBudget_cfg : (s.modBudget f).cfg = s.cfg := rfl
@[simp] theorem State.modBudget_drops : (s.modBudget f).drops = s.drops := rfl
@[simp] theorem State.modBudget_links : (s.modBudget f).links = s.links := rfl
@[simp] theorem State.modBudget_cli : (s.modBudget f).cli = s.cli := rfl
@[simp] theorem State.modBudget_view : (s.modBudget f).view = s.view := rfl
@[simp] theorem State.modBudget_budget : (s.modBudget f).budget = f s.budget := rfl
@[simp] theorem State.modBudget_trig : (s.modBudget f).trig = s.trig := rfl
@[simp] theorem State.modBudget_fmm : (s.modBudget f).fmm = s.fmm := rfl
@[simp] theorem State.modBudget_rx : (s.modBudget f).rx = s.rx := rfl
@[simp] theorem State.modBudget_shots : (s.modBudget f).shots = s.shots := rfl
@[simp] theorem State.modBudget_uplink : (s.modBudget f).uplink = s.uplink := rfl
@[simp] theorem State.modBudget_lens : (s.modBudget f).lens = s.lens := rfl
@[simp] theorem State.modBudget_locator : (s.modBudget f).locator = s.locator := rfl
@[simp] theorem State.modBudget_sites : (s.modBudget f).sites = s.sites := rfl
@[simp] theorem State.modBudget_pending : (s.modBudget f).pending = s.pending := rfl
end

/-! ## `State.modTrig` -/

section
variable (s : State) (f : TriggerUnit → TriggerUnit)
@[simp] theorem State.modTrig_now : (s.modTrig f).now = s.now := rfl
@[simp] theorem State.modTrig_draws : (s.modTrig f).draws = s.draws := rfl
@[simp] theorem State.modTrig_pins : (s.modTrig f).pins = s.pins := rfl
@[simp] theorem State.modTrig_station : (s.modTrig f).station = s.station := rfl
@[simp] theorem State.modTrig_loader : (s.modTrig f).loader = s.loader := rfl
@[simp] theorem State.modTrig_clampedFields : (s.modTrig f).clampedFields = s.clampedFields := rfl
@[simp] theorem State.modTrig_resetsRefused : (s.modTrig f).resetsRefused = s.resetsRefused := rfl
@[simp] theorem State.modTrig_cfg : (s.modTrig f).cfg = s.cfg := rfl
@[simp] theorem State.modTrig_drops : (s.modTrig f).drops = s.drops := rfl
@[simp] theorem State.modTrig_links : (s.modTrig f).links = s.links := rfl
@[simp] theorem State.modTrig_cli : (s.modTrig f).cli = s.cli := rfl
@[simp] theorem State.modTrig_view : (s.modTrig f).view = s.view := rfl
@[simp] theorem State.modTrig_budget : (s.modTrig f).budget = s.budget := rfl
@[simp] theorem State.modTrig_trig : (s.modTrig f).trig = f s.trig := rfl
@[simp] theorem State.modTrig_fmm : (s.modTrig f).fmm = s.fmm := rfl
@[simp] theorem State.modTrig_rx : (s.modTrig f).rx = s.rx := rfl
@[simp] theorem State.modTrig_shots : (s.modTrig f).shots = s.shots := rfl
@[simp] theorem State.modTrig_uplink : (s.modTrig f).uplink = s.uplink := rfl
@[simp] theorem State.modTrig_lens : (s.modTrig f).lens = s.lens := rfl
@[simp] theorem State.modTrig_locator : (s.modTrig f).locator = s.locator := rfl
@[simp] theorem State.modTrig_sites : (s.modTrig f).sites = s.sites := rfl
@[simp] theorem State.modTrig_pending : (s.modTrig f).pending = s.pending := rfl
end

/-! ## `State.modFmm` -/

section
variable (s : State) (f : FrameMemory → FrameMemory)
@[simp] theorem State.modFmm_now : (s.modFmm f).now = s.now := rfl
@[simp] theorem State.modFmm_draws : (s.modFmm f).draws = s.draws := rfl
@[simp] theorem State.modFmm_pins : (s.modFmm f).pins = s.pins := rfl
@[simp] theorem State.modFmm_station : (s.modFmm f).station = s.station := rfl
@[simp] theorem State.modFmm_loader : (s.modFmm f).loader = s.loader := rfl
@[simp] theorem State.modFmm_clampedFields : (s.modFmm f).clampedFields = s.clampedFields := rfl
@[simp] theorem State.modFmm_resetsRefused : (s.modFmm f).resetsRefused = s.resetsRefused := rfl
@[simp] theorem State.modFmm_cfg : (s.modFmm f).cfg = s.cfg := rfl
@[simp] theorem State.modFmm_drops : (s.modFmm f).drops = s.drops := rfl
@[simp] theorem State.modFmm_links : (s.modFmm f).links = s.links := rfl
@[simp] theorem State.modFmm_cli : (s.modFmm f).cli = s.cli := rfl
@[simp] theorem State.modFmm_view : (s.modFmm f).view = s.view := rfl
@[simp] theorem State.modFmm_budget : (s.modFmm f).budget = s.budget := rfl
@[simp] theorem State.modFmm_trig : (s.modFmm f).trig = s.trig := rfl
@[simp] theorem State.modFmm_fmm : (s.modFmm f).fmm = f s.fmm := rfl
@[simp] theorem State.modFmm_rx : (s.modFmm f).rx = s.rx := rfl
@[simp] theorem State.modFmm_shots : (s.modFmm f).shots = s.shots := rfl
@[simp] theorem State.modFmm_uplink : (s.modFmm f).uplink = s.uplink := rfl
@[simp] theorem State.modFmm_lens : (s.modFmm f).lens = s.lens := rfl
@[simp] theorem State.modFmm_locator : (s.modFmm f).locator = s.locator := rfl
@[simp] theorem State.modFmm_sites : (s.modFmm f).sites = s.sites := rfl
@[simp] theorem State.modFmm_pending : (s.modFmm f).pending = s.pending := rfl
end

/-! ## `State.modShots` -/

section
variable (s : State) (f : Shots → Shots)
@[simp] theorem State.modShots_now : (s.modShots f).now = s.now := rfl
@[simp] theorem State.modShots_draws : (s.modShots f).draws = s.draws := rfl
@[simp] theorem State.modShots_pins : (s.modShots f).pins = s.pins := rfl
@[simp] theorem State.modShots_station : (s.modShots f).station = s.station := rfl
@[simp] theorem State.modShots_loader : (s.modShots f).loader = s.loader := rfl
@[simp] theorem State.modShots_clampedFields : (s.modShots f).clampedFields = s.clampedFields := rfl
@[simp] theorem State.modShots_resetsRefused : (s.modShots f).resetsRefused = s.resetsRefused := rfl
@[simp] theorem State.modShots_cfg : (s.modShots f).cfg = s.cfg := rfl
@[simp] theorem State.modShots_drops : (s.modShots f).drops = s.drops := rfl
@[simp] theorem State.modShots_links : (s.modShots f).links = s.links := rfl
@[simp] theorem State.modShots_cli : (s.modShots f).cli = s.cli := rfl
@[simp] theorem State.modShots_view : (s.modShots f).view = s.view := rfl
@[simp] theorem State.modShots_budget : (s.modShots f).budget = s.budget := rfl
@[simp] theorem State.modShots_trig : (s.modShots f).trig = s.trig := rfl
@[simp] theorem State.modShots_fmm : (s.modShots f).fmm = s.fmm := rfl
@[simp] theorem State.modShots_rx : (s.modShots f).rx = s.rx := rfl
@[simp] theorem State.modShots_shots : (s.modShots f).shots = f s.shots := rfl
@[simp] theorem State.modShots_uplink : (s.modShots f).uplink = s.uplink := rfl
@[simp] theorem State.modShots_lens : (s.modShots f).lens = s.lens := rfl
@[simp] theorem State.modShots_locator : (s.modShots f).locator = s.locator := rfl
@[simp] theorem State.modShots_sites : (s.modShots f).sites = s.sites := rfl
@[simp] theorem State.modShots_pending : (s.modShots f).pending = s.pending := rfl
end

/-! ## `State.modUplink` -/

section
variable (s : State) (f : Uplink → Uplink)
@[simp] theorem State.modUplink_now : (s.modUplink f).now = s.now := rfl
@[simp] theorem State.modUplink_draws : (s.modUplink f).draws = s.draws := rfl
@[simp] theorem State.modUplink_pins : (s.modUplink f).pins = s.pins := rfl
@[simp] theorem State.modUplink_station : (s.modUplink f).station = s.station := rfl
@[simp] theorem State.modUplink_loader : (s.modUplink f).loader = s.loader := rfl
@[simp] theorem State.modUplink_clampedFields : (s.modUplink f).clampedFields = s.clampedFields := rfl
@[simp] theorem State.modUplink_resetsRefused : (s.modUplink f).resetsRefused = s.resetsRefused := rfl
@[simp] theorem State.modUplink_cfg : (s.modUplink f).cfg = s.cfg := rfl
@[simp] theorem State.modUplink_drops : (s.modUplink f).drops = s.drops := rfl
@[simp] theorem State.modUplink_links : (s.modUplink f).links = s.links := rfl
@[simp] theorem State.modUplink_cli : (s.modUplink f).cli = s.cli := rfl
@[simp] theorem State.modUplink_view : (s.modUplink f).view = s.view := rfl
@[simp] theorem State.modUplink_budget : (s.modUplink f).budget = s.budget := rfl
@[simp] theorem State.modUplink_trig : (s.modUplink f).trig = s.trig := rfl
@[simp] theorem State.modUplink_fmm : (s.modUplink f).fmm = s.fmm := rfl
@[simp] theorem State.modUplink_rx : (s.modUplink f).rx = s.rx := rfl
@[simp] theorem State.modUplink_shots : (s.modUplink f).shots = s.shots := rfl
@[simp] theorem State.modUplink_uplink : (s.modUplink f).uplink = f s.uplink := rfl
@[simp] theorem State.modUplink_lens : (s.modUplink f).lens = s.lens := rfl
@[simp] theorem State.modUplink_locator : (s.modUplink f).locator = s.locator := rfl
@[simp] theorem State.modUplink_sites : (s.modUplink f).sites = s.sites := rfl
@[simp] theorem State.modUplink_pending : (s.modUplink f).pending = s.pending := rfl
end

/-! ## `State.modLocator` -/

section
variable (s : State) (f : Locator → Locator)
@[simp] theorem State.modLocator_now : (s.modLocator f).now = s.now := rfl
@[simp] theorem State.modLocator_draws : (s.modLocator f).draws = s.draws := rfl
@[simp] theorem State.modLocator_pins : (s.modLocator f).pins = s.pins := rfl
@[simp] theorem State.modLocator_station : (s.modLocator f).station = s.station := rfl
@[simp] theorem State.modLocator_loader : (s.modLocator f).loader = s.loader := rfl
@[simp] theorem State.modLocator_clampedFields : (s.modLocator f).clampedFields = s.clampedFields := rfl
@[simp] theorem State.modLocator_resetsRefused : (s.modLocator f).resetsRefused = s.resetsRefused := rfl
@[simp] theorem State.modLocator_cfg : (s.modLocator f).cfg = s.cfg := rfl
@[simp] theorem State.modLocator_drops : (s.modLocator f).drops = s.drops := rfl
@[simp] theorem State.modLocator_links : (s.modLocator f).links = s.links := rfl
@[simp] theorem State.modLocator_cli : (s.modLocator f).cli = s.cli := rfl
@[simp] theorem State.modLocator_view : (s.modLocator f).view = s.view := rfl
@[simp] theorem State.modLocator_budget : (s.modLocator f).budget = s.budget := rfl
@[simp] theorem State.modLocator_trig : (s.modLocator f).trig = s.trig := rfl
@[simp] theorem State.modLocator_fmm : (s.modLocator f).fmm = s.fmm := rfl
@[simp] theorem State.modLocator_rx : (s.modLocator f).rx = s.rx := rfl
@[simp] theorem State.modLocator_shots : (s.modLocator f).shots = s.shots := rfl
@[simp] theorem State.modLocator_uplink : (s.modLocator f).uplink = s.uplink := rfl
@[simp] theorem State.modLocator_lens : (s.modLocator f).lens = s.lens := rfl
@[simp] theorem State.modLocator_locator : (s.modLocator f).locator = f s.locator := rfl
@[simp] theorem State.modLocator_sites : (s.modLocator f).sites = s.sites := rfl
@[simp] theorem State.modLocator_pending : (s.modLocator f).pending = s.pending := rfl
end

/-! ## `State.setView` -/

section
variable (s : State) (st : Station) (e : ViewEntry)
@[simp] theorem State.setView_now : (s.setView st e).now = s.now := rfl
@[simp] theorem State.setView_draws : (s.setView st e).draws = s.draws := rfl
@[simp] theorem State.setView_pins : (s.setView st e).pins = s.pins := rfl
@[simp] theorem State.setView_station : (s.setView st e).station = s.station := rfl
@[simp] theorem State.setView_loader : (s.setView st e).loader = s.loader := rfl
@[simp] theorem State.setView_clampedFields : (s.setView st e).clampedFields = s.clampedFields := rfl
@[simp] theorem State.setView_resetsRefused : (s.setView st e).resetsRefused = s.resetsRefused := rfl
@[simp] theorem State.setView_cfg : (s.setView st e).cfg = s.cfg := rfl
@[simp] theorem State.setView_drops : (s.setView st e).drops = s.drops := rfl
@[simp] theorem State.setView_links : (s.setView st e).links = s.links := rfl
@[simp] theorem State.setView_cli : (s.setView st e).cli = s.cli := rfl
@[simp] theorem State.setView_view : (s.setView st e).view = s.view.set st.val e := rfl
@[simp] theorem State.setView_budget : (s.setView st e).budget = s.budget := rfl
@[simp] theorem State.setView_trig : (s.setView st e).trig = s.trig := rfl
@[simp] theorem State.setView_fmm : (s.setView st e).fmm = s.fmm := rfl
@[simp] theorem State.setView_rx : (s.setView st e).rx = s.rx := rfl
@[simp] theorem State.setView_shots : (s.setView st e).shots = s.shots := rfl
@[simp] theorem State.setView_uplink : (s.setView st e).uplink = s.uplink := rfl
@[simp] theorem State.setView_lens : (s.setView st e).lens = s.lens := rfl
@[simp] theorem State.setView_locator : (s.setView st e).locator = s.locator := rfl
@[simp] theorem State.setView_sites : (s.setView st e).sites = s.sites := rfl
@[simp] theorem State.setView_pending : (s.setView st e).pending = s.pending := rfl
end

/-! ## The back-channel transmitter -/

section
variable (l : LinkPort) (now : Nat) (m : Mark)
@[simp] theorem LinkPort.hand_locked : (l.hand now m).locked = l.locked := rfl
@[simp] theorem LinkPort.hand_beatRun : (l.hand now m).beatRun = l.beatRun := rfl
@[simp] theorem LinkPort.hand_silence : (l.hand now m).silence = l.silence := rfl
@[simp] theorem LinkPort.next_locked : l.next.locked = l.locked := rfl
@[simp] theorem LinkPort.next_beatRun : l.next.beatRun = l.beatRun := rfl
@[simp] theorem LinkPort.next_silence : l.next.silence = l.silence := rfl
@[simp] theorem LinkPort.holding_marks (q : List HandedMark) : (l.holding q).marks = q := by
  cases q <;> rfl
/-- A mark handed joins the marks of the transmitter. -/
@[simp] theorem LinkPort.hand_marks : (l.hand now m).marks = joinMarks ⟨m, now⟩ l.marks := l.holding_marks _
end

end Machine

end Sys2Proof
end

