-- ==== Sys2Proof/Laws/Frames.lean ====
section
/-! SUPPORT. What each shared operation can change: one frame for each. -/

namespace Sys2Proof.Machine

/-! ## Frames compose -/

section
variable {s t u : State} {l m : List Block} {ds es : List Drop}

theorem State.ChangesOnly.refl (s : State) (l : List Block) (ds : List Drop) : s.ChangesOnly s l ds where
  fields b _ := by cases b <;> rfl
  drops _ _ := ⟨rfl, rfl, rfl, rfl, rfl⟩

theorem Block.same_trans {b : Block} (h : b.same s t) (k : b.same t u) : b.same s u := by
  cases b <;> exact Eq.trans k h

theorem State.SameDrop.trans {d : Drop} (h : s.SameDrop t d) (k : t.SameDrop u d) : s.SameDrop u d :=
  ⟨k.1.trans h.1, k.2.trans h.2, k.3.trans h.3, k.4.trans h.4, k.5.trans h.5⟩

theorem State.ChangesOnly.trans (h : s.ChangesOnly t l ds) (k : t.ChangesOnly u l ds) : s.ChangesOnly u l ds where
  fields b hb := Block.same_trans (h.fields b hb) (k.fields b hb)
  drops d hd := (h.drops d hd).trans (k.drops d hd)

/-- A frame holds of every larger frame. -/
theorem State.ChangesOnly.mono (h : s.ChangesOnly t l ds) (hl : ∀ b ∈ l, b ∈ m) (hd : ∀ d ∈ ds, d ∈ es) :
    s.ChangesOnly t m es where
  fields b hb := h.fields b fun k => hb (hl b k)
  drops d hn := h.drops d fun k => hn (hd d k)

/-- A frame composed with one inside it. -/
theorem State.ChangesOnly.step (h : s.ChangesOnly t l ds) (k : t.ChangesOnly u m es) (hl : ∀ b ∈ m, b ∈ l)
    (hd : ∀ d ∈ es, d ∈ ds) : s.ChangesOnly u l ds := h.trans (k.mono hl hd)

/-- A frame of a list of steps. -/
theorem State.ChangesOnly.foldl {β : Type} {f : State → β → State} (h : ∀ (s : State) (b : β), s.ChangesOnly (f s b) l ds) :
    ∀ (bs : List β) (s : State), s.ChangesOnly (bs.foldl f s) l ds
  | [], s => .refl s l ds
  | b :: bs, s => (h s b).trans (State.ChangesOnly.foldl h bs (f s b))

end

/-! ## The updates -/

theorem State.modDrop_frame (s : State) (d : Drop) (f : DropRec → DropRec) : s.ChangesOnly (s.modDrop d f) [.drops] [d] where
  fields b hb := by cases b <;> first | rfl | exact absurd (by decide) hb
  drops e he := by
    have h : e ≠ d := fun k => he (by simp [k])
    constructor <;> simp [h]

theorem State.modLink_frame (s : State) (d : Drop) (f : LinkPort → LinkPort) : s.ChangesOnly (s.modLink d f) [.links] [d] where
  fields b hb := by cases b <;> first | rfl | exact absurd (by decide) hb
  drops e he := by
    have h : e ≠ d := fun k => he (by simp [k])
    constructor <;> simp [h]

theorem State.modRx_frame (s : State) (d : Drop) (f : Receiver → Receiver) : s.ChangesOnly (s.modRx d f) [.rx] [d] where
  fields b hb := by cases b <;> first | rfl | exact absurd (by decide) hb
  drops e he := by
    have h : e ≠ d := fun k => he (by simp [k])
    constructor <;> simp [h]

theorem State.modLens_frame (s : State) (d : Drop) (f : Lens → Lens) : s.ChangesOnly (s.modLens d f) [.lens] [d] where
  fields b hb := by cases b <;> first | rfl | exact absurd (by decide) hb
  drops e he := by
    have h : e ≠ d := fun k => he (by simp [k])
    constructor <;> simp [h]

theorem State.modSites_frame (s : State) (d : Drop) (f : SiteTable → SiteTable) : s.ChangesOnly (s.modSites d f) [.sites] [d] where
  fields b hb := by cases b <;> first | rfl | exact absurd (by decide) hb
  drops e he := by
    have h : e ≠ d := fun k => he (by simp [k])
    constructor <;> simp [h]

theorem State.modCli_frame (s : State) (f : Cli → Cli) : s.ChangesOnly (s.modCli f) [.cli] [] where
  fields b hb := by cases b <;> first | rfl | exact absurd (by decide) hb
  drops _ _ := ⟨rfl, rfl, rfl, rfl, rfl⟩

theorem State.modCounters_frame (s : State) (f : LineCounters → LineCounters) : s.ChangesOnly (s.modCounters f) [.cli] [] where
  fields b hb := by cases b <;> first | rfl | exact absurd (by decide) hb
  drops _ _ := ⟨rfl, rfl, rfl, rfl, rfl⟩

theorem State.modBudget_frame (s : State) (f : Budget → Budget) : s.ChangesOnly (s.modBudget f) [.budget] [] where
  fields b hb := by cases b <;> first | rfl | exact absurd (by decide) hb
  drops _ _ := ⟨rfl, rfl, rfl, rfl, rfl⟩

theorem State.modTrig_frame (s : State) (f : TriggerUnit → TriggerUnit) : s.ChangesOnly (s.modTrig f) [.trig] [] where
  fields b hb := by cases b <;> first | rfl | exact absurd (by decide) hb
  drops _ _ := ⟨rfl, rfl, rfl, rfl, rfl⟩

theorem State.modFmm_frame (s : State) (f : FrameMemory → FrameMemory) : s.ChangesOnly (s.modFmm f) [.fmm] [] where
  fields b hb := by cases b <;> first | rfl | exact absurd (by decide) hb
  drops _ _ := ⟨rfl, rfl, rfl, rfl, rfl⟩

theorem State.modShots_frame (s : State) (f : Shots → Shots) : s.ChangesOnly (s.modShots f) [.shots] [] where
  fields b hb := by cases b <;> first | rfl | exact absurd (by decide) hb
  drops _ _ := ⟨rfl, rfl, rfl, rfl, rfl⟩

theorem State.modUplink_frame (s : State) (f : Uplink → Uplink) : s.ChangesOnly (s.modUplink f) [.uplink] [] where
  fields b hb := by cases b <;> first | rfl | exact absurd (by decide) hb
  drops _ _ := ⟨rfl, rfl, rfl, rfl, rfl⟩

theorem State.modLocator_frame (s : State) (f : Locator → Locator) : s.ChangesOnly (s.modLocator f) [.locator] [] where
  fields b hb := by cases b <;> first | rfl | exact absurd (by decide) hb
  drops _ _ := ⟨rfl, rfl, rfl, rfl, rfl⟩

theorem State.setView_frame (s : State) (st : Station) (e : ViewEntry) : s.ChangesOnly (s.setView st e) [.view] [] where
  fields b hb := by cases b <;> first | rfl | exact absurd (by decide) hb
  drops _ _ := ⟨rfl, rfl, rfl, rfl, rfl⟩

/-! ## The transmit queue -/

section
variable (s : State)

theorem State.queueNote_frame (b : NoteBody) : s.ChangesOnly (s.queueNote b) [.cli] [] := by
  unfold State.queueNote; split
  · exact .refl _ _ _
  · exact s.modCli_frame _

theorem State.queueEvent_frame (e : Event) : s.ChangesOnly (s.queueEvent e) [.cli] [] := s.queueNote_frame _

theorem State.answer_frame (k : Byte) (r : Request) (c : AnswerCode) (v : AnswerValue) :
    s.ChangesOnly (s.answer k r c v) [.cli] [] := s.queueNote_frame _

theorem State.reportState_frame (d : Drop) (st : DropState) (c : Option Cause) :
    s.ChangesOnly (s.reportState d st c) [.cli] [] := s.queueEvent_frame _

theorem State.withdraw_frame (p : NoteBody → Bool) : s.ChangesOnly (s.withdraw p) [.cli] [] := s.modCli_frame _

theorem State.echoed_frame : s.ChangesOnly s.echoed [.cli] [] := (s.modCli_frame _).trans (State.modCounters_frame _ _)

theorem State.countHeard_frame : s.ChangesOnly s.countHeard [.cli] [] := s.modCounters_frame _

theorem State.ownNumber_frame : s.ChangesOnly s.ownNumber [.cli] [] :=
  s.countHeard_frame.trans (State.modCounters_frame _ _)

theorem State.queuePresence_frame : s.ChangesOnly s.queuePresence [.cli] [] := by
  unfold State.queuePresence; split
  · exact .refl _ _ _
  · exact s.queueNote_frame _

theorem State.startPresenceTimer_frame : s.ChangesOnly s.startPresenceTimer [.cli] [] := by
  unfold State.startPresenceTimer; split
  · exact .refl _ _ _
  · exact s.modCli_frame _

theorem State.announce_frame : s.ChangesOnly s.announce [.cli] [] :=
  s.queuePresence_frame.trans (State.startPresenceTimer_frame _)

/-! ## The Budget Unit -/

theorem State.lookClaims_frame : s.ChangesOnly s.lookClaims [.cli] [] := by
  unfold State.lookClaims; split
  · exact .refl _ _ _
  · split
    · exact .refl _ _ _
    · exact s.queueNote_frame _

theorem State.joinClaims_frame (d : Drop) : s.ChangesOnly (s.joinClaims d) [.budget, .cli] [] :=
  ((s.modBudget_frame _).mono (by decide) (by decide)).step (State.lookClaims_frame _) (by decide) (by decide)

theorem State.leaveClaims_frame (d : Drop) : s.ChangesOnly (s.leaveClaims d) [.budget] [] := s.modBudget_frame _

theorem State.setRetry_frame (d : Drop) (f : RetryState → RetryState) : s.ChangesOnly (s.setRetry d f) [.budget] [] :=
  s.modBudget_frame _

theorem State.waitRetry_frame (d : Drop) : s.ChangesOnly (s.waitRetry d) [.budget] [] := s.setRetry_frame d _

theorem State.releaseHeard_frame : s.ChangesOnly s.releaseHeard [.budget, .cli] [] :=
  ((s.modBudget_frame _).mono (by decide) (by decide)).step (State.lookClaims_frame _) (by decide) (by decide)

theorem State.queueRelease_frame (d : Drop) : s.ChangesOnly (s.queueRelease d) [.cli] [] := by
  unfold State.queueRelease; split
  · exact .refl _ _ _
  · exact s.queueNote_frame _

theorem State.giveUpShare_frame (d : Drop) : s.ChangesOnly (s.giveUpShare d) [.budget, .cli] [] :=
  ((s.modBudget_frame _).mono (by decide) (by decide)).step (State.queueRelease_frame _ d) (by decide) (by decide)

theorem State.refreshView_frame (st : Station) (n : Nat) : s.ChangesOnly (s.refreshView st n) [.view] [] :=
  s.setView_frame st _

/-! ## The Frame Memory Manager -/

theorem State.changeHold_frame (v : Bool) : s.ChangesOnly (s.changeHold v) [.fmm, .cli] [] :=
  ((s.modFmm_frame _).mono (by decide) (by decide)).step (State.announce_frame _) (by decide) (by decide)

theorem State.evalHold_frame : s.ChangesOnly s.evalHold [.fmm, .cli] [] := by
  unfold State.evalHold
  split
  · exact .refl _ _ _
  · split
    · exact s.changeHold_frame _
    · split
      · exact s.changeHold_frame _
      · exact .refl _ _ _

theorem State.takePage_frame : s.ChangesOnly s.takePage.2 [.fmm, .cli] [] := by
  unfold State.takePage
  split <;> exact ((s.modFmm_frame _).mono (by decide) (by decide)).trans (State.evalHold_frame _)

theorem State.returnPage_frame (p : Nat) : s.ChangesOnly (s.returnPage p) [.fmm, .cli] [] :=
  ((s.modFmm_frame _).mono (by decide) (by decide)).trans (State.evalHold_frame _)

theorem State.returnPages_frame (ps : List Nat) : s.ChangesOnly (s.returnPages ps) [.fmm, .cli] [] :=
  State.ChangesOnly.foldl State.returnPage_frame ps s

/-! ## The Link Port and the Uplink Sender -/

theorem State.handMark_frame (d : Drop) (m : Mark) : s.ChangesOnly (s.handMark d m) [.links] [d] := s.modLink_frame d _

theorem State.heardItem_frame (d : Drop) : s.ChangesOnly (s.heardItem d) [.links] [d] := s.modLink_frame d _

theorem State.setPause_frame (p : Pause) : s.ChangesOnly (s.setPause p) [.uplink] [] := s.modUplink_frame _

theorem State.boundaryDecision_frame : s.ChangesOnly s.boundaryDecision [.uplink] [] := by
  unfold State.boundaryDecision
  split
  · exact .refl _ _ _
  · split
    · exact .refl _ _ _
    · exact s.setPause_frame _

/-! ## The Lens Controller and the sweep -/

theorem State.modAxis_frame (d : Drop) (ax : Axis) (f : AxisRec → AxisRec) : s.ChangesOnly (s.modAxis d ax f) [.lens] [d] :=
  s.modLens_frame d _

theorem State.modSweep_frame (d : Drop) (f : Sweep → Sweep) : s.ChangesOnly (s.modSweep d f) [.lens] [d] :=
  s.modLens_frame d _

theorem State.endSweep_frame (d : Drop) (o : SweepOutcome) (v : Option Nat) :
    s.ChangesOnly (s.endSweep d o v) [.lens, .cli] [d] :=
  ((s.modSweep_frame d _).mono (by decide) (by simp)).step (State.queueEvent_frame _ _) (by decide) (by simp)

theorem State.sweepGoto_frame (d : Drop) (t : Nat) : s.ChangesOnly (s.sweepGoto d t) [.lens] [d] := s.modAxis_frame d _ _

theorem State.sweepWait_frame (d : Drop) : s.ChangesOnly (s.sweepWait d) [.lens] [d] := s.modSweep_frame d _

theorem State.beginPoint_frame (d : Drop) : s.ChangesOnly (s.beginPoint d) [.lens] [d] := by
  unfold State.beginPoint
  simp only
  split
  · exact s.sweepWait_frame d
  · exact (s.modSweep_frame d _).trans (State.sweepGoto_frame _ d _)

theorem State.beginReturn_frame (d : Drop) : s.ChangesOnly (s.beginReturn d) [.lens, .cli] [d] := by
  unfold State.beginReturn
  simp only
  split
  · exact ((s.modSweep_frame d _).mono (by decide) (by simp)).trans (State.endSweep_frame _ d _ _)
  · exact ((s.modSweep_frame d _).trans (State.sweepGoto_frame _ d _)).mono (by decide) (by simp)

theorem State.endSweepBest_frame (d : Drop) : s.ChangesOnly (s.endSweepBest d) [.lens, .cli] [d] := s.endSweep_frame d _ _

theorem State.beginBest_frame (d : Drop) : s.ChangesOnly (s.beginBest d) [.lens, .cli] [d] := by
  unfold State.beginBest
  simp only
  split
  · exact (s.modSweep_frame d _).mono (by decide) (by simp)
  · split
    · exact ((s.modSweep_frame d _).mono (by decide) (by simp)).trans (State.endSweepBest_frame _ d)
    · exact ((s.modSweep_frame d _).trans (State.sweepGoto_frame _ d _)).mono (by decide) (by simp)

theorem State.sweepArrived_frame (d : Drop) : s.ChangesOnly (s.sweepArrived d) [.lens, .cli] [d] := by
  unfold State.sweepArrived
  split
  · exact (s.sweepWait_frame d).mono (by decide) (by simp)
  · exact s.endSweep_frame d _ _
  · exact s.endSweepBest_frame d
  · exact .refl _ _ _
  · exact .refl _ _ _

theorem State.sweepFocusEnded_frame (d : Drop) (o : LensOutcome) : s.ChangesOnly (s.sweepFocusEnded d o) [.lens, .cli] [d] := by
  unfold State.sweepFocusEnded
  split
  iterate 3 exact s.endSweep_frame d _ _
  · exact .refl _ _ _
  · split <;> exact s.endSweep_frame d _ _
  · split
    · exact s.endSweep_frame d _ _
    · exact s.sweepArrived_frame d

theorem State.queueLensDone_frame (d : Drop) (ax : Axis) (o : LensOutcome) : s.ChangesOnly (s.queueLensDone d ax o) [.cli] [] :=
  s.queueEvent_frame _

theorem State.releaseTurn_frame (d : Drop) : s.ChangesOnly (s.releaseTurn d) [.lens] [d] := s.modLens_frame d _

theorem State.axisLeft_frame (d : Drop) (ax : Axis) (o : LensOutcome) : s.ChangesOnly (s.axisLeft d ax o) [.lens, .cli] [d] := by
  unfold State.axisLeft
  split
  · exact (s.queueLensDone_frame d _ _).mono (by decide) (by simp)
  · split
    · exact s.sweepFocusEnded_frame d _
    · exact ((s.queueLensDone_frame d _ _).mono (by decide) (by simp)).step (State.releaseTurn_frame _ d) (by decide) (by simp)

theorem State.haltAxis_frame (d : Drop) (ax : Axis) : s.ChangesOnly (s.haltAxis d ax) [.lens, .cli] [d] := by
  unfold State.haltAxis
  split
  · split
    · exact (s.modAxis_frame d ax _).mono (by decide) (by simp)
    · exact ((s.modAxis_frame d ax _).mono (by decide) (by simp)).step (State.queueLensDone_frame _ d ax _) (by decide) (by simp)
  · exact .refl _ _ _

theorem State.stopSweep_frame (d : Drop) (o : SweepOutcome) : s.ChangesOnly (s.stopSweep d o) [.lens, .cli] [d] := by
  unfold State.stopSweep
  split
  · split
    · exact ((s.modAxis_frame d _ _).trans (State.modSweep_frame _ d _)).mono (by decide) (by simp)
    · exact ((s.modAxis_frame d _ _).mono (by decide) (by simp)).trans (State.endSweep_frame _ d _ _)
  · exact s.endSweep_frame d _ _

theorem State.linkError_frame (d : Drop) (ax : Axis) : s.ChangesOnly (s.linkError d ax) [.lens, .cli] [d] := by
  unfold State.linkError
  split
  · simp only
    split
    · exact (s.modAxis_frame d ax _).mono (by decide) (by simp)
    · exact ((s.modAxis_frame d ax _).mono (by decide) (by simp)).step (State.queueLensDone_frame _ d ax _) (by decide) (by simp)
  · exact .refl _ _ _

theorem State.lensLeaveReady_frame (d : Drop) : s.ChangesOnly (s.lensLeaveReady d) [.lens, .cli] [d] := by
  have h : s.ChangesOnly (((s.linkError d .focus).linkError d .iris).modLens d Lens.emptySlot) [.lens, .cli] [d] :=
    ((s.linkError_frame d _).trans (State.linkError_frame _ d _)).step (State.modLens_frame _ d _) (by decide) (by simp)
  unfold State.lensLeaveReady
  simp only
  split
  · exact h.trans (State.endSweep_frame _ d _ _)
  · exact h

theorem State.clearHomed_frame (d : Drop) : s.ChangesOnly (s.clearHomed d) [.lens] [d] := s.modLens_frame d _

/-! ## The Shot Builder and the Fragment Receiver -/

theorem State.modEntry_frame (t : Half) (f : Entry → Entry) : s.ChangesOnly (s.modEntry t f) [.shots] [] := s.modShots_frame _

theorem State.modPart_frame (t : Half) (d : Drop) (f : Part → Part) : s.ChangesOnly (s.modPart t d f) [.shots] [] :=
  s.modEntry_frame t _

theorem State.flagPart_frame (t : Half) (d : Drop) (f : PartFlags → PartFlags) :
    s.ChangesOnly (s.flagPart t d f) [.shots] [] := s.modPart_frame t d _

theorem State.offerPart_frame (d : Drop) (p : Part) : s.ChangesOnly (s.offerPart d p) [.lens, .cli] [d] := by
  unfold State.offerPart
  simp only
  split
  · exact .refl _ _ _
  · split
    · exact (s.modSweep_frame d _).mono (by decide) (by simp)
    · split
      · exact (((s.modSweep_frame d _).trans (State.modSweep_frame _ d _)).trans (State.beginPoint_frame _ d)).mono
          (by decide) (by simp)
      · exact ((s.modSweep_frame d _).mono (by decide) (by simp)).trans (State.beginBest_frame _ d)

theorem State.closeEntry_frame (t : Half) : s.ChangesOnly (s.closeEntry t) [.shots, .uplink] [] := by
  unfold State.closeEntry
  split
  · exact .refl _ _ _
  · split
    · exact ((s.modEntry_frame t _).mono (by decide) (by simp)).step (State.boundaryDecision_frame _) (by decide) (by simp)
    · exact .refl _ _ _

theorem State.closePart_frame (t : Half) (d : Drop) (c : ClosedStatus) :
    s.ChangesOnly (s.closePart t d c) [.shots, .rx, .lens, .cli, .uplink] [d] := by
  unfold State.closePart
  split
  · exact .refl _ _ _
  · split
    · exact ((((s.modPart_frame t d _).mono (by decide) (by simp)).step (State.modRx_frame _ d _) (by decide) (by simp)).step
        (State.offerPart_frame _ d _) (by decide) (by simp)).step (State.closeEntry_frame _ t) (by decide) (by simp)
    · exact .refl _ _ _

theorem State.closeOpenParts_frame (d : Drop) (c : ClosedStatus) :
    s.ChangesOnly (s.closeOpenParts d c) [.shots, .rx, .lens, .cli, .uplink] [d] :=
  State.ChangesOnly.foldl (fun s t => s.closePart_frame t d c) _ s

theorem State.timeoutEntry_frame (t : Half) :
    s.ChangesOnly (s.timeoutEntry t) [.shots, .rx, .lens, .cli, .uplink] Drop.all :=
  State.ChangesOnly.foldl (fun s d => (s.closePart_frame t d .timeout).mono (by decide) (by simp [Drop.mem_all])) _ s

theorem State.runt_frame (d : Drop) (t : Half) : s.ChangesOnly (s.runt d t) [.shots, .rx] [d] :=
  ((s.flagPart_frame t d _).mono (by decide) (by simp)).step (State.modRx_frame _ d _) (by decide) (by simp)

theorem State.endFragment_frame (d : Drop) : s.ChangesOnly (s.endFragment d) [.shots, .rx] [d] := by
  unfold State.endFragment
  split
  · exact .refl _ _ _
  · exact s.runt_frame d _
  · exact (s.modRx_frame d _).mono (by decide) (by simp)

theorem State.breakResult_frame (d : Drop) (t : Option Half) (r : Reflection) :
    s.ChangesOnly (s.breakResult d t r) [.shots] [] := by
  unfold State.breakResult
  split
  · exact (s.modPart_frame _ d _).trans (State.modShots_frame _ _)
  · exact s.modShots_frame _

/-! ## The Drop Power Unit -/

theorem State.openSwitch_frame (d : Drop) (st : DropState) : s.ChangesOnly (s.openSwitch d st) [.drops, .draws] [d] where
  fields b hb := by cases b <;> first | rfl | exact absurd (by decide) hb
  drops e he := by
    have h : e ≠ d := fun k => he (by simp [k])
    constructor <;> simp [State.openSwitch, h]

theorem State.darkenCapture_frame : s.ChangesOnly s.darkenCapture [.locator] [] := s.modLocator_frame _

theorem State.powerDown_frame (d : Drop) (st : DropState) : s.ChangesOnly (s.powerDown d st) powerFields [d] := by
  have h1 : s.ChangesOnly (((s.openSwitch d st).giveUpShare d).modLink d LinkPort.powerOff) powerFields [d] :=
    (((s.openSwitch_frame d st).mono (by decide) (by simp)).step (State.giveUpShare_frame _ d) (by decide) (by simp)).step
      (State.modLink_frame _ d _) (by decide) (by simp)
  unfold State.powerDown
  simp only
  generalize ((s.openSwitch d st).giveUpShare d).modLink d LinkPort.powerOff = a at h1
  have h2 : s.ChangesOnly (if (s.drops.get d).state = .ready then a.closeOpenParts d .powerLost else a) powerFields [d] := by
    split
    · exact h1.step (State.closeOpenParts_frame _ d _) (by decide) (by simp)
    · exact h1
  generalize (if (s.drops.get d).state = .ready then a.closeOpenParts d .powerLost else a) = b at h2
  have h3 := h2.step (b.endFragment_frame d) (by decide) (by simp)
  generalize b.endFragment d = c at h3
  have h4 : s.ChangesOnly (if (s.drops.get d).state = .ready then c.lensLeaveReady d else c) powerFields [d] := by
    split
    · exact h3.step (State.lensLeaveReady_frame _ d) (by decide) (by simp)
    · exact h3
  generalize (if (s.drops.get d).state = .ready then c.lensLeaveReady d else c) = e at h4
  have h5 := h4.step (e.clearHomed_frame d) (by decide) (by simp)
  split
  · exact h5.step (State.darkenCapture_frame _) (by decide) (by simp)
  · exact h5

theorem State.enterClaiming_frame (d : Drop) : s.ChangesOnly (s.enterClaiming d) claimFields [d] :=
  (((s.modDrop_frame d _).mono (by decide) (by simp)).step (State.clearHomed_frame _ d) (by decide) (by simp)).step
    (State.joinClaims_frame _ d) (by decide) (by simp)

theorem State.turnOn_frame (d : Drop) : s.ChangesOnly (s.turnOn d) claimFields [d] :=
  ((s.modDrop_frame d _).mono (by decide) (by simp)).trans (State.enterClaiming_frame _ d)

theorem State.wakeDrop_frame (d : Drop) : s.ChangesOnly (s.wakeDrop d) claimFields [d] := by
  unfold State.wakeDrop; split
  · exact s.enterClaiming_frame d
  · exact .refl _ _ _

theorem State.enterWarming_frame (d : Drop) : s.ChangesOnly (s.enterWarming d) [.drops, .links] [d] :=
  ((s.modDrop_frame d _).mono (by decide) (by simp)).step (State.modLink_frame _ d _) (by decide) (by simp)

theorem State.setRelayed_frame (d : Drop) (t : Option Half) : s.ChangesOnly (s.setRelayed d t) [.shots] [] :=
  s.modShots_frame _

theorem State.enterReady_frame (d : Drop) : s.ChangesOnly (s.enterReady d) [.drops, .shots, .cli] [d] :=
  (((s.modDrop_frame d _).mono (by decide) (by simp)).step (State.setRelayed_frame _ d _) (by decide) (by simp)).step
    (State.reportState_frame _ d _ _) (by decide) (by simp)

theorem State.enterFault_frame (d : Drop) (c : Cause) : s.ChangesOnly (s.enterFault d c) powerFields [d] :=
  ((s.powerDown_frame d _).step (State.modDrop_frame _ d _) (by decide) (by simp)).step
    (State.reportState_frame _ d _ _) (by decide) (by simp)

theorem State.trip_frame (d : Drop) (c : TripCause) : s.ChangesOnly (s.trip d c) powerFields [d] := by
  unfold State.trip
  simp only
  split
  · exact ((((s.modDrop_frame d _).mono (by decide) (by simp)).trans (State.powerDown_frame _ d _)).step
      (State.modDrop_frame _ d _) (by decide) (by simp)).step (State.reportState_frame _ d _ _) (by decide) (by simp)
  · exact ((s.modDrop_frame d _).mono (by decide) (by simp)).trans (State.enterFault_frame _ d _)

theorem State.sampleCurrent_frame (d : Drop) (n : Nat) : s.ChangesOnly (s.sampleCurrent d n) powerFields [d] := by
  unfold State.sampleCurrent
  simp only
  split
  · exact ((s.modDrop_frame d _).mono (by decide) (by simp)).trans (State.trip_frame _ d _)
  · exact (s.modDrop_frame d _).mono (by decide) (by simp)

theorem State.hush_frame (d : Drop) : s.ChangesOnly (s.hush d) [.drops, .links, .lens, .cli] [d] :=
  (((s.modDrop_frame d _).mono (by decide) (by simp)).step (State.handMark_frame _ d _) (by decide) (by simp)).step
    (State.lensLeaveReady_frame _ d) (by decide) (by simp)

theorem State.unhush_frame (d : Drop) : s.ChangesOnly (s.unhush d) [.drops, .links] [d] := by
  unfold State.unhush; split
  · exact ((s.handMark_frame d _).mono (by decide) (by simp)).trans (State.enterWarming_frame _ d)
  · exact .refl _ _ _

/-! ## Triggers and the opening of a shot -/

theorem State.wakeAll_frame (ds : List Drop) : s.ChangesOnly (s.wakeAll ds) claimFields ds := by
  have key : ∀ (es : List Drop) (s : State), (∀ e ∈ es, e ∈ ds) → s.ChangesOnly (s.wakeAll es) claimFields ds := by
    intro es
    induction es with
    | nil => intro s _; exact .refl _ _ _
    | cons e es ih =>
      intro s h
      exact ((s.wakeDrop_frame e).mono (by decide) (by simpa using h e (by simp))).trans
        (ih _ fun x hx => h x (List.mem_cons_of_mem _ hx))
  exact key ds s fun _ h => h

theorem State.relay_frame (t : Half) (d : Drop) : s.ChangesOnly (s.relay t d) [.links, .shots, .drops] [d] :=
  (((s.handMark_frame d _).mono (by decide) (by simp)).step (State.setRelayed_frame _ d _) (by decide) (by simp)).step
    (State.modDrop_frame _ d _) (by decide) (by simp)

theorem State.startPart_frame (t : Half) (p : Part) :
    s.ChangesOnly (State.startPart t s p) [.links, .shots, .drops, .lens, .cli] [p.drop] := by
  unfold State.startPart; split
  · exact (s.relay_frame t p.drop).mono (by decide) (by simp)
  · exact (s.offerPart_frame p.drop p).mono (by decide) (by simp)

theorem State.skipShot_frame (ds : List Drop) (b : Bool) : s.ChangesOnly (s.skipShot ds b) shotFields ds :=
  ((s.modShots_frame _).mono (by decide) (by simp)).step (State.wakeAll_frame _ ds) (by decide) (fun _ h => h)

theorem State.openingPart_drop (d : Drop) : (s.openingPart d).drop = d := by
  unfold State.openingPart; simp only; split_ifs <;> rfl

theorem State.openShot_frame (t : Half) (mask : Byte) (src : Station) (ds : List Drop) :
    s.ChangesOnly (s.openShot t mask src ds) shotFields ds := by
  have fold : ∀ (es : List Drop) (u v : State), (∀ e ∈ es, e ∈ ds) →
      u.ChangesOnly ((es.map v.openingPart).foldl (State.startPart t) u) shotFields ds := by
    intro es
    induction es with
    | nil => intro u v _; exact .refl _ _ _
    | cons e es ih =>
      intro u v h
      refine ((u.startPart_frame t _).mono (by decide) ?_).trans (ih _ v fun x hx => h x (List.mem_cons_of_mem _ hx))
      simpa [State.openingPart_drop] using h e (by simp)
  have h : s.ChangesOnly _ shotFields ds :=
    (((s.modShots_frame (·.add (s.newEntry t mask src (ds.map s.openingPart)))).mono (by decide) (by simp)).trans
      (fold ds _ s fun _ h => h)).step (State.wakeAll_frame _ ds) (by decide) (fun _ h => h)
  unfold State.openShot
  simp only
  split
  · exact h.step (State.boundaryDecision_frame _) (by decide) (by simp)
  · exact h

theorem State.handTrigger_frame (t : Half) (mask : Byte) (src : Station) :
    s.ChangesOnly (s.handTrigger t mask src) shotFields (s.involved mask) := by
  unfold State.handTrigger
  simp only
  split_ifs
  · exact .refl _ _ _
  · exact s.skipShot_frame _ _
  · exact s.skipShot_frame _ _
  · exact s.openShot_frame t mask src _

/-! ## The Line Locator -/

theorem State.modActive_frame (f : ActiveRequest → ActiveRequest) : s.ChangesOnly (s.modActive f) [.locator] [] :=
  s.modLocator_frame _

theorem State.reportLocate_frame (d : Drop) (o : Origin) (x : Bool) (out : LocateOutcome) (r : Option Reflection) :
    s.ChangesOnly (s.reportLocate d o x out r) [.cli] [] := s.queueEvent_frame _

theorem State.queueLocateEnd_frame (a : ActiveRequest) : s.ChangesOnly (s.queueLocateEnd a) [.cli] [] := by
  unfold State.queueLocateEnd; simp only; split
  · exact s.queueNote_frame _
  · exact .refl _ _ _

theorem State.endRequest_frame (a : ActiveRequest) : s.ChangesOnly (s.endRequest a) requestFields [a.drop] :=
  ((((s.queueLocateEnd_frame a).mono (by decide) (by simp)).step (State.modDrop_frame _ a.drop _) (by decide) (by simp)).step
    (State.modLocator_frame _ _) (by decide) (by simp)).step (State.lookClaims_frame _) (by decide) (by simp)

theorem State.finishRequest_frame (a : ActiveRequest) (o : LocateOutcome) :
    s.ChangesOnly (s.finishRequest a o) requestFields [a.drop] :=
  (s.endRequest_frame a).step (State.reportLocate_frame _ _ _ _ _ _) (by decide) (by simp)

theorem State.defer_frame (a : ActiveRequest) : s.ChangesOnly (s.defer a) requestFields [a.drop] := by
  unfold State.defer; split
  · exact ((s.modLocator_frame _).mono (by decide) (by simp)).trans (State.finishRequest_frame _ a _)
  · exact ((s.modActive_frame _).trans (State.modLocator_frame _ _)).mono (by decide) (by simp)

theorem State.lookBundle_frame (a : ActiveRequest) : s.ChangesOnly (s.lookBundle a) requestFields [a.drop] := by
  unfold State.lookBundle; simp only; split_ifs
  · exact ((s.queueNote_frame _).mono (by decide) (by simp)).step (State.modActive_frame _ _) (by decide) (by simp)
  · exact .refl _ _ _
  · exact s.defer_frame a

theorem State.enterBundle_frame (a : ActiveRequest) (c : CaptureType) :
    s.ChangesOnly (s.enterBundle a c) requestFields [a.drop] := by
  unfold State.enterBundle; split
  · exact (s.modActive_frame _).mono (by decide) (by simp)
  · exact ((s.modActive_frame _).mono (by decide) (by simp)).trans (State.lookBundle_frame _ _)

theorem State.holderGone_frame (b : Nat) : s.ChangesOnly (s.holderGone b) requestFields Drop.all := by
  unfold State.holderGone; split
  · exact .refl _ _ _
  · split
    · exact (s.lookBundle_frame _).mono (fun _ h => h) (by simp [Drop.mem_all])
    · exact .refl _ _ _

theorem State.startHeard_frame (st : Station) (b : Nat) : s.ChangesOnly (s.startHeard st b) [.locator] [] := by
  unfold State.startHeard; split
  · exact s.modLocator_frame _
  · exact .refl _ _ _

theorem State.endHeard_frame (st : Station) (b : Nat) : s.ChangesOnly (s.endHeard st b) requestFields Drop.all := by
  unfold State.endHeard; split
  · exact .refl _ _ _
  · split
    · exact ((s.modLocator_frame _).mono (by decide) (by simp)).trans (State.holderGone_frame _ b)
    · exact .refl _ _ _

theorem State.ownEndOver_frame (b : Nat) : s.ChangesOnly (s.ownEndOver b) [.locator] [] := s.modActive_frame _

theorem State.rivalStart_frame (b : Nat) : s.ChangesOnly (s.rivalStart b) requestFields Drop.all := by
  unfold State.rivalStart; split
  · exact .refl _ _ _
  · split
    · exact (((s.withdraw_frame _).mono (by decide) (by simp)).step (State.modActive_frame _ _) (by decide) (by simp)).trans
        ((State.defer_frame _ _).mono (fun _ h => h) (by simp [Drop.mem_all]))
    · exact .refl _ _ _

theorem State.requestFlash_frame (d : Drop) : s.ChangesOnly (s.requestFlash d) [.locator] [] := s.modLocator_frame _

theorem State.setHold_frame (d : Drop) : s.ChangesOnly (s.setHold d) [.drops, .lens, .cli] [d] := by
  unfold State.setHold; simp only; split
  · exact ((s.modDrop_frame d _).mono (by decide) (by simp)).step (State.stopSweep_frame _ d _) (by decide) (by simp)
  · exact (s.modDrop_frame d _).mono (by decide) (by simp)

theorem State.reportSites_frame (d : Drop) (cs : List SiteChange) : s.ChangesOnly (s.reportSites d cs) [.cli] [] :=
  State.ChangesOnly.foldl (fun s _ => s.queueEvent_frame _) cs s

theorem State.makeRecord_frame (c : Capture) (r : Reflection) :
    s.ChangesOnly (s.makeRecord c r) [.sites, .cli, .shots] [c.drop] := by
  have h : s.ChangesOnly _ [.sites, .cli, .shots] [c.drop] :=
    ((s.modSites_frame c.drop fun _ => ((s.sites.get c.drop).makeRecord (decide (c.type = .flash)) c.crosstalk c.trigger r).1).mono
      (by decide) (by simp)).step (State.reportSites_frame _ c.drop
        ((s.sites.get c.drop).makeRecord (decide (c.type = .flash)) c.crosstalk c.trigger r).2) (by decide) (by simp)
  unfold State.makeRecord; simp only; split
  · exact h.step (State.breakResult_frame _ _ _ _) (by decide) (by simp)
  · exact h

end

end Sys2Proof.Machine
end

