-- ==== Sys2Proof/Laws/Queues.lean ====
section
/-! SUPPORT. Which operations only queue EVENT notes. -/

namespace Sys2Proof.Machine

section
variable {p : NoteBody → Bool} {s t u : State}

theorem State.Queues.refl (s : State) : State.Queues p s s := ⟨[], by simp, rfl⟩

theorem State.Queues.of_cli (h : t.cli = s.cli) : State.Queues p s t := ⟨[], by simp, h⟩

theorem State.Queues.trans (h : State.Queues p s t) (k : State.Queues p t u) : State.Queues p s u := by
  obtain ⟨bs, hb, h⟩ := h
  obtain ⟨cs, hc, k⟩ := k
  refine ⟨bs ++ cs, ?_, by rw [k, h, List.foldl_append]⟩
  intro b m
  exact (List.mem_append.mp m).elim (hb b) (hc b)

theorem State.Queues.foldl {β : Type} {f : State → β → State} (h : ∀ (s : State) (b : β), State.Queues p s (f s b)) :
    ∀ (bs : List β) (s : State), State.Queues p s (bs.foldl f s)
  | [], s => .refl s
  | b :: bs, s => (h s b).trans (State.Queues.foldl h bs (f s b))

/-- Notes of a kind are notes of every wider kind. -/
theorem State.Queues.mono {q : NoteBody → Bool} (h : State.Queues p s t) (k : ∀ b, p b = true → q b = true) :
    State.Queues q s t := by
  obtain ⟨bs, hb, h⟩ := h
  exact ⟨bs, fun b m => k b (hb b m), h⟩

/-- What leaves the Cell Line Interface alone queues nothing. -/
theorem State.Queues.of_frame {l : List Block} {ds : List Drop} (h : s.ChangesOnly t l ds)
    (k : Block.cli ∉ l := by decide) : State.Queues p s t := .of_cli (h.fields .cli k)

end

theorem State.queueNote_queues (s : State) {p : NoteBody → Bool} {b : NoteBody} (h : p b = true) :
    State.Queues p s (s.queueNote b) := by
  unfold State.queueNote
  split
  · exact .refl s
  · exact ⟨[b], by simpa using h, rfl⟩

section
variable (s : State)

theorem State.queueEvent_queues (e : Event) : State.Queues NoteBody.isEvent s (s.queueEvent e) := s.queueNote_queues rfl

theorem State.reportState_queues (d : Drop) (st : DropState) (c : Option Cause) :
    State.Queues NoteBody.isEvent s (s.reportState d st c) := s.queueEvent_queues _

theorem State.reportSites_queues (d : Drop) (cs : List SiteChange) :
    State.Queues NoteBody.isEvent s (s.reportSites d cs) := State.Queues.foldl (fun s _ => s.queueEvent_queues _) cs s

theorem State.endSweep_queues (d : Drop) (o : SweepOutcome) (v : Option Nat) :
    State.Queues NoteBody.isEvent s (s.endSweep d o v) :=
  (State.Queues.of_cli (t := s.modSweep d _) rfl).trans (State.queueEvent_queues _ _)

theorem State.endSweepBest_queues (d : Drop) : State.Queues NoteBody.isEvent s (s.endSweepBest d) := s.endSweep_queues d _ _

theorem State.beginPoint_queues (d : Drop) : State.Queues NoteBody.isEvent s (s.beginPoint d) := .of_frame (s.beginPoint_frame d)

theorem State.beginReturn_queues (d : Drop) : State.Queues NoteBody.isEvent s (s.beginReturn d) := by
  unfold State.beginReturn
  simp only
  split
  · exact (State.Queues.of_cli (t := s.modSweep d _) rfl).trans (State.endSweep_queues _ d _ _)
  · exact .of_cli rfl

theorem State.beginBest_queues (d : Drop) : State.Queues NoteBody.isEvent s (s.beginBest d) := by
  unfold State.beginBest
  simp only
  split
  · exact .of_cli rfl
  · split
    · exact (State.Queues.of_cli (t := s.modSweep d _) rfl).trans (State.endSweepBest_queues _ d)
    · exact .of_cli rfl

theorem State.sweepArrived_queues (d : Drop) : State.Queues NoteBody.isEvent s (s.sweepArrived d) := by
  unfold State.sweepArrived
  split
  · exact .of_frame (s.sweepWait_frame d)
  · exact s.endSweep_queues d _ _
  · exact s.endSweepBest_queues d
  · exact .refl _
  · exact .refl _

theorem State.sweepFocusEnded_queues (d : Drop) (o : LensOutcome) :
    State.Queues NoteBody.isEvent s (s.sweepFocusEnded d o) := by
  unfold State.sweepFocusEnded
  split
  iterate 3 exact s.endSweep_queues d _ _
  · exact .refl _
  · split <;> exact s.endSweep_queues d _ _
  · split
    · exact s.endSweep_queues d _ _
    · exact s.sweepArrived_queues d

theorem State.queueLensDone_queues (d : Drop) (ax : Axis) (o : LensOutcome) :
    State.Queues NoteBody.isEvent s (s.queueLensDone d ax o) := s.queueEvent_queues _

theorem State.axisLeft_queues (d : Drop) (ax : Axis) (o : LensOutcome) :
    State.Queues NoteBody.isEvent s (s.axisLeft d ax o) := by
  unfold State.axisLeft
  split
  · exact s.queueLensDone_queues d _ _
  · split
    · exact s.sweepFocusEnded_queues d _
    · exact (s.queueLensDone_queues d _ _).trans (.of_frame (State.releaseTurn_frame _ d))

theorem State.haltAxis_queues (d : Drop) (ax : Axis) : State.Queues NoteBody.isEvent s (s.haltAxis d ax) := by
  unfold State.haltAxis
  split
  · split
    · exact .of_frame (s.modAxis_frame d ax _)
    · exact (State.Queues.of_frame (s.modAxis_frame d ax _)).trans (State.queueLensDone_queues _ d ax _)
  · exact .refl _

theorem State.stopSweep_queues (d : Drop) (o : SweepOutcome) : State.Queues NoteBody.isEvent s (s.stopSweep d o) := by
  unfold State.stopSweep
  split
  · split
    · exact .of_cli rfl
    · exact (State.Queues.of_frame (s.modAxis_frame d _ _)).trans (State.endSweep_queues _ d _ _)
  · exact s.endSweep_queues d _ _

theorem State.linkError_queues (d : Drop) (ax : Axis) : State.Queues NoteBody.isEvent s (s.linkError d ax) := by
  unfold State.linkError
  split
  · simp only
    split
    · exact .of_frame (s.modAxis_frame d ax _)
    · exact (State.Queues.of_frame (s.modAxis_frame d ax _)).trans (State.queueLensDone_queues _ d ax _)
  · exact .refl _

theorem State.lensLeaveReady_queues (d : Drop) : State.Queues NoteBody.isEvent s (s.lensLeaveReady d) := by
  have h : State.Queues NoteBody.isEvent s (((s.linkError d .focus).linkError d .iris).modLens d Lens.emptySlot) :=
    ((s.linkError_queues d _).trans (State.linkError_queues _ d _)).trans (.of_frame (State.modLens_frame _ d _))
  unfold State.lensLeaveReady
  simp only
  split
  · exact h.trans (State.endSweep_queues _ d _ _)
  · exact h

theorem State.offerPart_queues (d : Drop) (p : Part) : State.Queues NoteBody.isEvent s (s.offerPart d p) := by
  unfold State.offerPart
  simp only
  split
  · exact .refl _
  · split
    · exact .of_frame (s.modSweep_frame d _)
    · split
      · exact .of_frame (((s.modSweep_frame d _).trans (State.modSweep_frame _ d _)).trans (State.beginPoint_frame _ d))
      · exact (State.Queues.of_frame (s.modSweep_frame d _)).trans (State.beginBest_queues _ d)

theorem State.closePart_queues (t : Half) (d : Drop) (c : ClosedStatus) :
    State.Queues NoteBody.isEvent s (s.closePart t d c) := by
  unfold State.closePart
  split
  · exact .refl _
  · split
    · exact ((State.Queues.of_cli (t := (s.modPart t d _).modRx d _) rfl).trans (State.offerPart_queues _ d _)).trans
        (.of_frame (State.closeEntry_frame _ t))
    · exact .refl _

theorem State.closeOpenParts_queues (d : Drop) (c : ClosedStatus) :
    State.Queues NoteBody.isEvent s (s.closeOpenParts d c) := State.Queues.foldl (fun s t => s.closePart_queues t d c) _ s

theorem State.timeoutEntry_queues (t : Half) : State.Queues NoteBody.isEvent s (s.timeoutEntry t) :=
  State.Queues.foldl (fun s d => s.closePart_queues t d .timeout) _ s

end

end Sys2Proof.Machine
end

