-- ==== Sys2Proof/Laws/Requests.lean ====
section
/-! SUPPORT. What taking a REQUEST comes to: the act itself on the state with the note counted, where the premises of
12 R202 hold; and what each check before it answers. -/

namespace Sys2Proof.Machine

section
variable {s : State} {rank : Rank} {r : Request} {d : Drop}

theorem State.hear_foreign (src : Station) (f : State → State) (h : src.val ≠ s.station) :
    s.hear src f = f s.countHeard := if_neg h

@[simp] theorem State.addressed_countHeard : s.countHeard.addressed r = s.addressed r := rfl

@[simp] theorem State.ranked_countHeard (src : Station) : s.countHeard.ranked rank src = s.ranked rank src := rfl

theorem State.takeRequest_taken (h : s.Takes rank r) (k : RequestKind) (act : State → State) :
    s.takeRequest k rank r act = act s.countHeard := by
  simp [State.takeRequest, State.hear_foreign _ _ h.foreign, h.addressed, h.ranked]

theorem State.takeDropRequest_taken (h : s.TakesDrop rank r d) (k : RequestKind) (act : Drop → State → State) :
    s.takeDropRequest k rank r act = act d s.countHeard := by
  simp [State.takeDropRequest, State.takeRequest_taken h.toTakes, h.drop]

@[simp] theorem State.countHeard_drops : s.countHeard.drops = s.drops := rfl
@[simp] theorem State.countHeard_links : s.countHeard.links = s.links := rfl
@[simp] theorem State.countHeard_lens : s.countHeard.lens = s.lens := rfl
@[simp] theorem State.countHeard_rx : s.countHeard.rx = s.rx := rfl
@[simp] theorem State.countHeard_sites : s.countHeard.sites = s.sites := rfl
@[simp] theorem State.countHeard_budget : s.countHeard.budget = s.budget := rfl
@[simp] theorem State.countHeard_locator : s.countHeard.locator = s.locator := rfl
@[simp] theorem State.countHeard_shots : s.countHeard.shots = s.shots := rfl
@[simp] theorem State.countHeard_trig : s.countHeard.trig = s.trig := rfl
@[simp] theorem State.countHeard_uplink : s.countHeard.uplink = s.uplink := rfl
@[simp] theorem State.countHeard_fmm : s.countHeard.fmm = s.fmm := rfl
@[simp] theorem State.countHeard_view : s.countHeard.view = s.view := rfl
@[simp] theorem State.countHeard_cfg : s.countHeard.cfg = s.cfg := rfl
@[simp] theorem State.countHeard_station : s.countHeard.station = s.station := rfl
@[simp] theorem State.countHeard_loader : s.countHeard.loader = s.loader := rfl
@[simp] theorem State.countHeard_now : s.countHeard.now = s.now := rfl
@[simp] theorem State.countHeard_draws : s.countHeard.draws = s.draws := rfl
@[simp] theorem State.countHeard_queue : s.countHeard.cli.queue = s.cli.queue := rfl
@[simp] theorem State.countHeard_dropCfg : s.countHeard.dropCfg d = s.dropCfg d := rfl
@[simp] theorem State.countHeard_axis (ax : Axis) : s.countHeard.axis d ax = s.axis d ax := rfl
@[simp] theorem State.countHeard_sweep : s.countHeard.sweep d = s.sweep d := rfl
@[simp] theorem State.countHeard_isReady : s.countHeard.isReady d = s.isReady d := rfl

end

end Sys2Proof.Machine
end

