-- ==== Sys2Proof/Laws/Drops.lean ====
section
/-! SUPPORT. What the shared transitions of a drop do: entering CLAIMING, giving up power, and the closing of parts they
rest on. -/

namespace Sys2Proof.Machine

variable {s t : State}

/-! ## Reading through a frame -/

theorem State.ChangesOnly.get {l : List Block} {ds : List Drop} (h : s.ChangesOnly t l ds) (b : Block)
    (hb : b ∉ l := by decide) : b.same s t := h.fields b hb

theorem State.dropCfg_of (h : t.cfg = s.cfg) (d : Drop) : t.dropCfg d = s.dropCfg d := by
  unfold State.dropCfg; rw [h]

theorem State.stray_of (h : t.station = s.station) : t.stray = s.stray := by
  unfold State.stray; rw [h]

/-! ## Claims -/

/-- A look for the next claim queues at most one CLAIM. -/
theorem State.lookClaims_cli (s : State) :
    s.lookClaims.cli = s.cli ∨ ∃ e, s.lookClaims.cli = s.cli.enqueue (.claim e (s.dropCfg e).allowance none) := by
  unfold State.lookClaims
  split
  · exact .inl rfl
  · split
    · exact .inl rfl
    · rename_i e _
      unfold State.queueNote
      split
      · exact .inl rfl
      · exact .inr ⟨e.drop, rfl⟩

theorem State.enterClaiming_claims (s : State) (d : Drop) :
    s.Claims (s.enterClaiming d) d { s.drops.get d with state := .claiming } where
  frame := s.enterClaiming_frame d
  record := by
    show (State.lookClaims _).drops.get d = _
    rw [(State.lookClaims_frame _).get .drops]; simp [State.setDropState, State.clearHomed]
  queue := (State.lookClaims_frame _).get .budget
  homed := by
    show (State.lookClaims _).lens.get d = _
    rw [(State.lookClaims_frame _).get .lens]; simp [State.setDropState, State.clearHomed, Lens.unhomed]
  notes := State.lookClaims_cli _

theorem State.turnOn_claims (s : State) (d : Drop) :
    s.Claims (s.turnOn d) d { s.drops.get d with state := .claiming, onIntent := true } := by
  have h := (s.modDrop d fun r => { r with onIntent := true }).enterClaiming_claims d
  refine ⟨s.turnOn_frame d, ?_, h.queue, h.homed, h.notes⟩
  show (State.enterClaiming _ d).drops.get d = _
  rw [h.record]; simp

/-! ## Notes stay in the queue -/

theorem mem_eraseLast {α : Type} {p : α → Bool} {l : List α} {a : α} (ha : a ∈ l) (hp : p a = false) :
    a ∈ eraseLast p l := by
  unfold eraseLast
  rw [List.mem_reverse, List.mem_eraseP_of_neg]
  · exact List.mem_reverse.mpr ha
  · simp [hp]

/-- A note of class 0 or 1 that waits in the queue is not displaced by a note that joins (02 R41). -/
theorem Cli.enqueue_keeps (c : Cli) (b : NoteBody) {n : QNote} (hn : n ∈ c.queue) (hc : n.body.cls < 2) :
    n ∈ (c.enqueue b).queue := by
  have hw : ∀ k, 2 ≤ k → n.waits k = false := by
    intro k hk; simp [QNote.waits]; omega
  have room : n ∈ c.makeRoom.queue := by
    unfold Cli.makeRoom
    split_ifs
    · exact mem_eraseLast hn (hw 3 (by omega))
    · exact mem_eraseLast hn (hw 2 (by omega))
    · exact hn
  have hj : ∀ c' : Cli, n ∈ c'.queue → n ∈ (c'.join b).queue := fun c' h => List.mem_append_left _ h
  unfold Cli.enqueue
  split_ifs
  · exact hj _ hn
  · exact hn
  · exact hj _ hn
  · exact hn
  · exact hj _ hn
  · exact hj _ room

/-- A note of class 0 or 1 always joins (02 R41). -/
theorem Cli.enqueue_joins (c : Cli) {b : NoteBody} (hb : b.cls < 2) : (⟨b, [], false⟩ : QNote) ∈ (c.enqueue b).queue := by
  have hj : ∀ c' : Cli, (⟨b, [], false⟩ : QNote) ∈ (c'.join b).queue := fun c' => by simp [Cli.join]
  have h3 : b.cls ≠ 3 := by omega
  have h2 : b.cls ≠ 2 := by omega
  unfold Cli.enqueue
  simp only [h3, h2, if_false]
  split_ifs <;> exact hj _

theorem State.queueNote_keeps (s : State) (b : NoteBody) {n : QNote} (hn : n ∈ s.cli.queue) (hc : n.body.cls < 2) :
    n ∈ (s.queueNote b).cli.queue := by
  unfold State.queueNote
  split
  · exact hn
  · exact s.cli.enqueue_keeps b hn hc

/-- A RELEASE for a drop stands in the queue once it has been asked for (03 R64). -/
theorem State.queueRelease_holds (s : State) (d : Drop) (h : s.stray = false) :
    (s.queueRelease d).cli.queue.any (·.body.isReleaseOf d) = true := by
  unfold State.queueRelease
  split
  · assumption
  · unfold State.queueNote
    simp only [h, Bool.false_eq_true, if_false]
    exact List.any_eq_true.mpr ⟨_, s.cli.enqueue_joins (by show (1 : Nat) < 2; decide), by simp [NoteBody.isReleaseOf]⟩

/-- Notes that join displace no RELEASE. -/
theorem State.Queues.keepsReleases {p : NoteBody → Bool} (h : State.Queues p s t) {d : Drop}
    (k : s.cli.queue.any (·.body.isReleaseOf d) = true) : t.cli.queue.any (·.body.isReleaseOf d) = true := by
  obtain ⟨bs, -, hb⟩ := h
  have fold : ∀ (bs : List NoteBody) (c : Cli), c.queue.any (·.body.isReleaseOf d) = true →
      (bs.foldl Cli.enqueue c).queue.any (·.body.isReleaseOf d) = true := by
    intro bs
    induction bs with
    | nil => exact fun c h => h
    | cons b bs ih =>
      intro c h
      refine ih _ ?_
      obtain ⟨n, hn, hr⟩ := List.any_eq_true.mp h
      refine List.any_eq_true.mpr ⟨n, c.enqueue_keeps b hn ?_, hr⟩
      obtain ⟨body, f, o⟩ := n
      cases body <;> first | (show (1 : Nat) < 2; decide) | (simp [NoteBody.isReleaseOf] at hr)
  rw [hb]; exact fold bs _ k

end Sys2Proof.Machine
end

