-- ==== Sys2Proof/Laws/Leaving.lean ====
section
/-! SUPPORT. A drop that leaves READY: what the closing of its open parts does to a sweep (06 R121, 09 R169), and what
its lens does (08 R145, 09 R172). -/

namespace Sys2Proof.Machine

/-! ## The lens -/

theorem State.modLens_modLens (s : State) (d : Drop) (f g : Lens → Lens) :
    (s.modLens d f).modLens d g = s.modLens d (g ∘ f) := by
  simp [State.modLens]

theorem State.modLens_congr {s : State} {d : Drop} {f g : Lens → Lens} {l : PerDrop Lens} (hl : s.lens = l)
    (h : f (l.get d) = g (l.get d)) : s.modLens d f = s.modLens d g := by
  subst hl; simp only [State.modLens, h]

theorem State.queueNote_modLens (s : State) (d : Drop) (f : Lens → Lens) (b : NoteBody) :
    (s.modLens d f).queueNote b = (s.queueNote b).modLens d f := by
  unfold State.queueNote State.stray
  show (if (s.station == 15) = true then _ else _) = _
  split <;> rfl

theorem State.queueNotes_modLens (d : Drop) (f : Lens → Lens) (bs : List NoteBody) (s : State) :
    bs.foldl State.queueNote (s.modLens d f) = (bs.foldl State.queueNote s).modLens d f := by
  induction bs generalizing s with
  | nil => rfl
  | cons b bs ih => rw [List.foldl_cons, List.foldl_cons, State.queueNote_modLens, ih]

theorem State.queueNotes_lens (bs : List NoteBody) (s : State) : (bs.foldl State.queueNote s).lens = s.lens := by
  induction bs generalizing s with
  | nil => rfl
  | cons b bs ih => exact (ih _).trans ((s.queueNote_frame b).get .lens)

/-- One axis of a drop that leaves READY: its record, and its event behind the notes queued before (08 R145, R160). -/
theorem State.linkError_eq (s : State) (d : Drop) (ax : Axis) :
    s.linkError d ax =
      (if (s.axis d ax).mode.busy = true ∧ ¬(ax = .focus ∧ (s.sweep d).phase ≠ none) then
          [NoteBody.event (.lensDone d ax .link (s.axis d ax).position)]
        else []).foldl State.queueNote
        (s.modLens d fun l => l.setAxis ax (if (l.axis ax).mode.busy = true then (l.axis ax).failedBy .link else l.axis ax)) := by
  have hr : (s.sweep d).running = true ↔ (s.sweep d).phase ≠ none := by
    simp [Sweep.running, Option.isSome_iff_ne_none]
  unfold State.linkError
  by_cases hb : (s.axis d ax).mode.busy = true
  · have hm : (s.modLens d fun l => l.setAxis ax (if (l.axis ax).mode.busy = true then (l.axis ax).failedBy .link else l.axis ax)) =
        s.modAxis d ax (AxisRec.fail .link) := by
      simp only [State.modAxis, State.modLens]
      have hb' : ((s.lens.get d).axis ax).mode.busy = true := hb
      simp [hb', AxisRec.failedBy, AxisRec.fail]
    rw [hm, if_pos hb]
    simp only [hr]
    by_cases hs : ax = .focus ∧ (s.sweep d).phase ≠ none
    · simp [hs]
    · rw [if_neg hs, if_pos ⟨hb, hs⟩]
      simp only [List.foldl_cons, List.foldl_nil, State.queueLensDone, State.queueEvent]
      congr 3
      cases ax <;> simp [State.axis, State.modAxis, Lens.axis, Lens.setAxis, AxisRec.fail]
  · have hm : (s.modLens d fun l => l.setAxis ax (if (l.axis ax).mode.busy = true then (l.axis ax).failedBy .link else l.axis ax)) =
        s := by
      have hb' : ¬((s.lens.get d).axis ax).mode.busy = true := hb
      have : (s.lens.get d).setAxis ax ((s.lens.get d).axis ax) = s.lens.get d := by cases ax <;> rfl
      simp [State.modLens, hb', this]
    rw [hm]; simp [hb]

/-- A lens that leaves READY: every field, and every note it queues, in order (08 R145, R160; 09 R172). -/
theorem State.lensLeaveReady_eq (s : State) (d : Drop) :
    s.lensLeaveReady d = ((s.lens.get d).leavingNotes d).foldl State.queueNote (s.modLens d Lens.leftReady) := by
  have hr : ∀ w : Sweep, w.running = true ↔ w.phase ≠ none := by
    simp [Sweep.running, Option.isSome_iff_ne_none]
  unfold State.lensLeaveReady
  rw [s.linkError_eq d .focus, State.linkError_eq _ d .iris]
  simp only [State.sweep, State.axis, hr]
  simp only [State.queueNotes_lens, State.queueNotes_modLens, State.modLens_lens, PerDrop.get_set_same, State.modLens_modLens]
  simp only [Lens.axis, Lens.setAxis, Lens.emptySlot, Lens.leavingNotes, List.foldl_append, Function.comp]
  by_cases hs : (s.lens.get d).sweep.phase = none
  · simp [hs]
    refine State.modLens_congr ((State.queueNotes_lens _ _).trans (State.queueNotes_lens _ _)) ?_
    simp [hs, Lens.leftReady]; rfl
  · simp [hs, State.endSweep, State.modSweep, State.modLens_modLens, State.queueEvent, State.queueNote_modLens, State.axis,
      Lens.axis, State.queueNotes_lens]
    have hp : ∀ x : AxisRec, (if x.mode.busy = true then x.failedBy .link else x).position = x.position := by
      intro x; split <;> rfl
    refine Eq.trans (congrArg (fun n => State.modLens (State.queueNote _ (.event (.sweepDone d .link n none))) d _)
      (hp (s.lens.get d).focus)) (State.modLens_congr
      (((State.queueNote_frame _ _).get .lens).trans (State.queueNotes_lens _ _)) ?_)
    simp [hs, Lens.leftReady, Lens.emptySlot, Sweep.ended]
    exact ⟨rfl, rfl⟩

/-- The lens after a drop has left READY (08 R145, 09 R172). -/
theorem State.lensLeaveReady_lens (s : State) (d : Drop) :
    (s.lensLeaveReady d).lens.get d = (s.lens.get d).leftReady := by
  rw [State.lensLeaveReady_eq, State.queueNotes_modLens]
  simp [State.queueNotes_lens]

/-- What notes do to the Cell Line Interface is decided by it and by the station number. -/
theorem State.queueNotes_cli {s t : State} (h : s.station = t.station) (k : s.cli = t.cli) (bs : List NoteBody) :
    (bs.foldl State.queueNote s).cli = (bs.foldl State.queueNote t).cli := by
  induction bs generalizing s t with
  | nil => exact k
  | cons b bs ih =>
    refine ih ?_ ?_
    · exact ((s.queueNote_frame b).get .station).trans (h.trans ((t.queueNote_frame b).get .station).symm)
    · unfold State.queueNote State.stray
      rw [h]
      split
      · exact k
      · show s.cli.enqueue b = t.cli.enqueue b
        rw [k]

theorem State.queueRelease_cli {s t : State} {d : Drop} (h : s.station = t.station) (k : s.cli = t.cli)
    (g : s.dropCfg d = t.dropCfg d) : (s.queueRelease d).cli = (t.queueRelease d).cli := by
  unfold State.queueRelease
  rw [k, g]
  split
  · exact k
  · exact State.queueNotes_cli h k [_]

/-- The notes of a lens whose drop has left READY (08 R145, R160; 09 R172). -/
theorem State.lensLeaveReady_cli (s : State) (d : Drop) :
    (s.lensLeaveReady d).cli = (((s.lens.get d).leavingNotes d).foldl State.queueNote s).cli := by
  rw [State.lensLeaveReady_eq, State.queueNotes_modLens]; rfl

/-! ## The sweep passes the closed parts over -/

/-- A part closed with a status other than COMPLETE has no score (09 R165). -/
theorem Part.close_score (g : DropCfg) {c : ClosedStatus} (hc : c ≠ .complete) (p : Part) : (p.close g c).score = none := by
  simp only [Part.close, partScore]
  split <;> simp [hc]

/-- A running sweep passes a part without a score over, and nothing else changes (09 R169). -/
theorem State.offerPart_unscored (s : State) (d : Drop) {p : Part} (h : p.score = none) :
    s.offerPart d p = if (s.sweep d).phase = none then s else s.modSweep d Sweep.passOver := by
  have hr : (s.sweep d).running = false ↔ (s.sweep d).phase = none := by
    simp [Sweep.running, Option.isSome_eq_false_iff, Option.isNone_iff_eq_none]
  have ht : (s.sweep d).takes p = none := by
    unfold Sweep.takes; split <;> simp [h]
  unfold State.offerPart
  simp only [ht, Bool.not_eq_true']
  by_cases hs : (s.sweep d).phase = none
  · simp [hr.mpr hs, hs]
  · have : (s.sweep d).running = true := by simpa [hs] using hr
    simp [this, hs]

/-- A lens whose running sweep has passed `n` parts over. -/
def Lens.passing (n : Nat) (l : Lens) : Lens := { l with sweep := { l.sweep with passed := n } }

/-- What the close of one part with a status other than COMPLETE does to its drop's lens, and that it queues no note. -/
theorem State.closePart_passes (s : State) (t : Half) (d : Drop) {c : ClosedStatus} (hc : c ≠ .complete) :
    (s.closePart t d c).cli = s.cli ∧
    (s.closePart t d c).lens.get d =
      (s.lens.get d).passing
        (if (s.part t d).any (·.status.isOpen) = true ∧ (s.sweep d).phase ≠ none then bump (s.sweep d).passed
          else (s.sweep d).passed) := by
  have same : (s.lens.get d).passing (s.sweep d).passed = s.lens.get d := rfl
  unfold State.closePart
  split
  · rename_i h; simp [h, same]
  · rename_i p h
    split
    · rename_i ho
      simp only
      rw [(State.closeEntry_frame _ _).get .cli, (State.closeEntry_frame _ _).get .lens,
        State.offerPart_unscored _ _ (Part.close_score _ hc p)]
      have hs : (((s.modPart t d fun _ => p.close (s.dropCfg d) c).modRx d (·.partClosed t)).sweep d) = s.sweep d := rfl
      rw [hs]
      by_cases hp : (s.sweep d).phase = none
      · rw [if_pos hp]
        simp only [hp, ne_eq, not_true_eq_false, and_false, if_false]
        exact ⟨rfl, rfl⟩
      · rw [if_neg hp, if_pos ⟨by simpa [h] using ho, hp⟩]
        refine ⟨rfl, ?_⟩
        simp [State.modSweep, Lens.passing, Sweep.passOver, State.sweep, State.modPart, State.modEntry]
    · rename_i ho; simp [h, ho, same]

theorem State.part_congr {s t : State} (h : s.shots = t.shots) (u : Half) (e : Drop) : s.part u e = t.part u e := by
  simp only [State.part, State.findEntry, h]

theorem List.find?_nodup {α β : Type} [DecidableEq β] {f : α → β} {l : List α} {a : α} (h : (l.map f).Nodup) (ha : a ∈ l) :
    l.find? (fun x => decide (f x = f a)) = some a := by
  induction l with
  | nil => simp at ha
  | cons b l ih =>
    simp only [List.map_cons, List.nodup_cons] at h
    rcases List.mem_cons.mp ha with rfl | ha
    · simp
    · have : f b ≠ f a := fun k => h.1 (k ▸ List.mem_map_of_mem ha)
      simp [this, ih h.2 ha]

/-- A change of entries that keeps their trigger numbers keeps which entry is found. -/
theorem State.part_modEntry (s : State) (t u : Half) (e : Drop) (f : Entry → Entry) (hf : ∀ x, (f x).trigger = x.trigger) :
    (s.modEntry t f).part u e = if u = t then (s.findEntry u).bind fun x => (f x).part e else s.part u e := by
  have hm : (s.modEntry t f).findEntry u = (s.findEntry u).map fun x => if x.trigger = t then f x else x := by
    unfold State.findEntry
    show List.find? _ (s.shots.table.map _) = _
    rw [List.find?_map]
    congr 2
    funext x
    simp only [Function.comp]
    split <;> simp [hf]
  have ht : ∀ x, s.findEntry u = some x → x.trigger = u := fun x h => by simpa using List.find?_some h
  unfold State.part
  rw [hm]
  cases h : s.findEntry u with
  | none => simp
  | some x =>
    simp only [Option.map_some, Option.bind_some, ht x h]
    split <;> rfl

/-- The end of an entry keeps its parts. -/
theorem State.closeEntry_part (s : State) (t u : Half) (e : Drop) : (s.closeEntry t).part u e = s.part u e := by
  unfold State.closeEntry
  split
  · rfl
  · split
    · rw [State.part_congr ((State.boundaryDecision_frame _).get .shots), State.part_modEntry]
      · split <;> rfl
      · exact fun _ => rfl
    · rfl

/-- The close of one part leaves the parts of other shots as they are. -/
theorem State.closePart_part (s : State) {t u : Half} (h : u ≠ t) (d e : Drop) (c : ClosedStatus) :
    (s.closePart t d c).part u e = s.part u e := by
  unfold State.closePart
  split
  · rfl
  · split
    · simp only
      rw [State.closeEntry_part, State.part_congr ((State.offerPart_frame _ _ _).get .shots)]
      refine (State.part_modEntry s t u e (·.modPart d fun _ => _) fun _ => rfl).trans (if_neg h)
    · rfl

/-- A number increased by 1 at each of some passes. -/
theorem bumps_eq {α β : Type} (l : List α) (m : List β) (h : l.length = m.length) (n : Nat) :
    l.foldl (fun k _ => bump k) n = m.foldl (fun k _ => bump k) n := by
  induction l generalizing m n with
  | nil => rw [List.length_eq_zero_iff.mp h.symm]; rfl
  | cons a l ih =>
    cases m with
    | nil => simp at h
    | cons b m => exact ih m (by simpa using h) _

/-- The closing of a drop's open parts with a status other than COMPLETE queues no note, and a running sweep passes
over each part that was open (06 R119 to R121, 09 R169). -/
theorem State.closeParts_passes (d : Drop) {c : ClosedStatus} (hc : c ≠ .complete) (ts : List Half) (s : State) :
    (ts.foldl (fun s t => s.closePart t d c) s).cli = s.cli ∧
    ∃ n, (ts.foldl (fun s t => s.closePart t d c) s).lens.get d = (s.lens.get d).passing n ∧
      ((s.sweep d).phase = none → n = (s.sweep d).passed) ∧
      ((s.sweep d).phase ≠ none → ts.Nodup →
        n = (ts.filter fun t => (s.part t d).any (·.status.isOpen)).foldl (fun k _ => bump k) (s.sweep d).passed) := by
  induction ts generalizing s with
  | nil => exact ⟨rfl, _, rfl, fun _ => rfl, fun _ _ => rfl⟩
  | cons t ts ih =>
    obtain ⟨hq, hl⟩ := s.closePart_passes t d hc
    obtain ⟨iq, n, il, i0, i1⟩ := ih (s.closePart t d c)
    have hs : (s.closePart t d c).sweep d = { s.sweep d with
        passed := if (s.part t d).any (·.status.isOpen) = true ∧ (s.sweep d).phase ≠ none then bump (s.sweep d).passed
          else (s.sweep d).passed } := by
      simp only [State.sweep, hl]; rfl
    refine ⟨iq.trans hq, n, ?_, fun h => ?_, fun h hn => ?_⟩
    · rw [List.foldl_cons, il, hl]; rfl
    · rw [hs] at i0; simpa [h] using i0 h
    · rw [hs] at i1
      have hn' := List.nodup_cons.mp hn
      have hf : (ts.filter fun u => ((s.closePart t d c).part u d).any (·.status.isOpen)) =
          ts.filter fun u => (s.part u d).any (·.status.isOpen) := by
        refine List.filter_congr fun u hu => ?_
        rw [State.closePart_part s (fun (k : u = t) => hn'.1 (k ▸ hu)) d d c]
      rw [i1 h hn'.2, hf]
      by_cases ho : (s.part t d).any (·.status.isOpen) = true
      · simp [ho, h]
      · simp [ho, h]

/-- Where the shot table is sound a drop's open parts are the open ones found by their trigger numbers. -/
theorem State.openParts_length {s : State} (h : s.ShotLaw) (d : Drop) :
    ((s.shots.table.map Entry.trigger).filter fun t => (s.part t d).any (·.status.isOpen)).length =
      (s.openParts d).length := by
  have one : ∀ (ps : List Part), (ps.map Part.drop).Nodup →
      (ps.filter fun p => decide (p.drop = d) && p.status.isOpen).length =
        if (ps.find? fun p => decide (p.drop = d)).any (·.status.isOpen) = true then 1 else 0 := by
    intro ps
    induction ps with
    | nil => simp
    | cons p ps ih =>
      intro hn
      obtain ⟨h1, h2⟩ := List.nodup_cons.mp hn
      by_cases hp : p.drop = d
      · have : ps.filter (fun p => decide (p.drop = d) && p.status.isOpen) = [] := by
          refine List.filter_eq_nil_iff.mpr fun q hq hh => h1 (List.mem_map.mpr ⟨q, hq, ?_⟩)
          simp at hh; rw [hh.1, hp]
        by_cases ho : p.status.isOpen = true <;> simp [hp, ho, this]
      · simp [hp, ih h2]
  have all : ∀ L : List Entry, (∀ e ∈ L, (e.parts.map Part.drop).Nodup) → (∀ e ∈ L, s.part e.trigger d = e.part d) →
      ((L.map Entry.trigger).filter fun t => (s.part t d).any (·.status.isOpen)).length =
        (L.flatMap fun e => e.parts.filter fun p => decide (p.drop = d) && p.status.isOpen).length := by
    intro L
    induction L with
    | nil => intros; rfl
    | cons e L ih =>
      intro hd hp
      have hi := ih (fun x hx => hd x (by simp [hx])) (fun x hx => hp x (by simp [hx]))
      rw [List.flatMap_cons, List.length_append, ← hi, one _ (hd e (by simp)), List.map_cons, List.filter_cons,
        hp e (by simp)]
      unfold Entry.part
      split <;> simp [Nat.add_comm]
  refine all _ h.drops fun e he => ?_
  have : s.findEntry e.trigger = some e := List.find?_nodup h.numbers he
  rw [State.part, this]; rfl

/-- A drop's parts close with a status other than COMPLETE: no note is queued, and its lens has passed them over. -/
theorem State.closeOpenParts_passes (s : State) (d : Drop) {c : ClosedStatus} (hc : c ≠ .complete) :
    (s.closeOpenParts d c).cli = s.cli ∧ s.LensLeft d ((s.closeOpenParts d c).lens.get d).leftReady := by
  obtain ⟨hq, n, hl, h0, h1⟩ := State.closeParts_passes d hc (s.shots.table.map Entry.trigger) s
  refine ⟨hq, n, ?_, h0, fun h k => ?_⟩
  · show ((List.foldl _ s _).lens.get d).leftReady = _
    rw [hl]; rfl
  · rw [h1 h k.numbers]
    exact bumps_eq _ _ (State.openParts_length k d) _

theorem State.ShotLaw.congr {s t : State} (h : s.shots = t.shots) (k : s.ShotLaw) : t.ShotLaw := by
  obtain ⟨h1, h2, h3, h4, h5⟩ := k
  rw [h] at h1 h2 h3 h4 h5
  exact ⟨h1, h2, h3, h4, h5⟩

theorem State.LensLeft.congr {s t : State} {d : Drop} {x : Lens} (h : s.shots = t.shots) (k : s.lens = t.lens)
    (l : s.LensLeft d x) : t.LensLeft d x := by
  obtain ⟨n, hx, h0, h1⟩ := l
  rw [k] at hx h0 h1
  exact ⟨n, hx, h0, fun p q => by rw [h1 p (q.congr h.symm), State.openParts, State.openParts, h]⟩

end Sys2Proof.Machine
end

