-- ==== Sys2Proof/Laws/Memory.lean ====
section
/-! SUPPORT. The frame memory: a read after a write, and the canonical form that every write keeps. -/

namespace Sys2Proof.Machine

section
variable {a : Nat} {b : Byte}

theorem readByte_writeByte_same (m : Memory) (h : Memory.wf m = true) : readByte (writeByte a b m) a = b := by
  have below : ∀ (l : Memory) (k : Nat), Memory.wf l = true → (∀ p ∈ l.head?, k < p.1) → readByte l k = 0 := by
    intro l
    induction l with
    | nil => intros; rfl
    | cons p l ih =>
      obtain ⟨i, v⟩ := p
      intro k hw hk
      have hki : k < i := by simpa using hk
      simp only [Memory.wf, Bool.and_eq_true] at hw
      rw [readByte, if_neg (by omega)]
      apply ih _ hw.2
      intro q hq
      cases l with
      | nil => simp at hq
      | cons r l =>
        simp only [List.head?_cons, Option.mem_def, Option.some.injEq] at hq
        subst hq
        have := hw.1.2
        simp only [decide_eq_true_eq] at this
        omega
  induction m with
  | nil => rw [writeByte]; split <;> simp_all [readByte]
  | cons p m ih =>
    obtain ⟨i, v⟩ := p
    have hw := h
    simp only [Memory.wf, Bool.and_eq_true] at hw
    rw [writeByte]
    split
    · split
      · rename_i hlt hb
        rw [below _ _ h (by simpa using hlt), hb]
      · simp [readByte]
    · split
      · rename_i heq
        subst heq
        split
        · rename_i hb
          rw [hb]
          apply below _ _ hw.2
          intro q hq
          cases m with
          | nil => simp at hq
          | cons r m =>
            simp only [List.head?_cons, Option.mem_def, Option.some.injEq] at hq
            subst hq
            simpa using hw.1.2
        · simp [readByte]
      · rename_i hne
        rw [readByte, if_neg (by omega), ih hw.2]

theorem readByte_writeByte_other (m : Memory) {c : Nat} (h : c ≠ a) : readByte (writeByte a b m) c = readByte m c := by
  induction m with
  | nil => rw [writeByte]; split <;> simp [readByte, h.symm]
  | cons p m ih =>
    obtain ⟨i, v⟩ := p
    rw [writeByte]
    split
    · split
      · rfl
      · simp [readByte, h.symm]
    · split
      · rename_i heq
        subst heq
        split <;> simp [readByte, h.symm]
      · simp only [readByte, ih]

/-- A write puts no address in front of the old ones but its own. -/
theorem writeByte_head {m : Memory} {k : Nat} (hk : k < a) (h : ∀ p ∈ m.head?, k < p.1) (hw : Memory.wf m = true) :
    ∀ p ∈ (writeByte a b m).head?, k < p.1 := by
  cases m with
  | nil => rw [writeByte]; split <;> simp [hk]
  | cons p m =>
    obtain ⟨i, v⟩ := p
    have hi : k < i := by simpa using h
    simp only [Memory.wf, Bool.and_eq_true] at hw
    rw [writeByte]
    split
    · split <;> simp [hi, hk]
    · split
      · split
        · intro q hq
          cases m with
          | nil => simp at hq
          | cons r m =>
            simp only [List.head?_cons, Option.mem_def, Option.some.injEq] at hq
            subst hq
            have := hw.1.2
            simp only [decide_eq_true_eq] at this
            omega
        · simp [hk]
      · simp [hi]

/-- The canonical form of a list with an entry in front. -/
theorem wf_cons {i : Nat} {v : Byte} {m : Memory} :
    Memory.wf ((i, v) :: m) = true ↔ v ≠ 0 ∧ (∀ p ∈ m.head?, i < p.1) ∧ Memory.wf m = true := by
  cases m with
  | nil => simp [Memory.wf]
  | cons r m => obtain ⟨j, u⟩ := r; simp [Memory.wf, and_assoc]

theorem writeByte_wf (m : Memory) (h : Memory.wf m = true) : Memory.wf (writeByte a b m) = true := by
  induction m with
  | nil => rw [writeByte]; split <;> simp_all [Memory.wf]
  | cons p m ih =>
    obtain ⟨i, v⟩ := p
    have hw := wf_cons.1 h
    rw [writeByte]
    split
    · rename_i hlt
      split
      · exact h
      · rename_i hb
        exact wf_cons.2 ⟨hb, by simpa using hlt, h⟩
    · split
      · rename_i hlt heq
        subst heq
        split
        · exact hw.2.2
        · rename_i hb
          exact wf_cons.2 ⟨hb, hw.2.1, hw.2.2⟩
      · rename_i hlt hne
        exact wf_cons.2 ⟨hw.1, writeByte_head (by omega) hw.2.1 hw.2.2, ih hw.2.2⟩

end

theorem writeWord_wf (page offset : Nat) (w : Word) (m : Memory) (h : Memory.wf m = true) :
    Memory.wf (writeWord page offset w m) = true :=
  writeByte_wf _ (writeByte_wf _ (writeByte_wf _ (writeByte_wf _ h)))

theorem readWord_writeWord (page offset : Nat) (w : Word) (m : Memory) (h : Memory.wf m = true) :
    readWord (writeWord page offset w m) page offset = w := by
  have h0 := writeByte_wf (a := wordAddress page offset) (b := w.extractLsb' 0 8) m h
  have h1 := writeByte_wf (a := wordAddress page offset + 1) (b := w.extractLsb' 8 8) _ h0
  have h2 := writeByte_wf (a := wordAddress page offset + 2) (b := w.extractLsb' 16 8) _ h1
  simp only [readWord, writeWord]
  rw [readByte_writeByte_same _ h2, readByte_writeByte_other _ (by omega), readByte_writeByte_same _ h1,
    readByte_writeByte_other _ (by omega), readByte_writeByte_other _ (by omega), readByte_writeByte_same _ h0,
    readByte_writeByte_other _ (by omega), readByte_writeByte_other _ (by omega), readByte_writeByte_other _ (by omega),
    readByte_writeByte_same _ h]
  ext i hi
  simp only [BitVec.getElem_append, BitVec.getElem_extractLsb']
  split
  · simp [BitVec.getLsbD_eq_getElem hi]
  · split
    · rw [← BitVec.getLsbD_eq_getElem hi]; congr 1; omega
    · split
      · rw [← BitVec.getLsbD_eq_getElem hi]; congr 1; omega
      · rw [← BitVec.getLsbD_eq_getElem hi]; congr 1; omega

/-- A write of a word leaves every byte outside it as it was. -/
theorem readByte_writeWord_other (page offset : Nat) (w : Word) (m : Memory) {c : Nat}
    (h : c < wordAddress page offset ∨ wordAddress page offset + 4 ≤ c) :
    readByte (writeWord page offset w m) c = readByte m c := by
  simp only [writeWord]
  rw [readByte_writeByte_other _ (by omega), readByte_writeByte_other _ (by omega),
    readByte_writeByte_other _ (by omega), readByte_writeByte_other _ (by omega)]

/-- The frame memory after reset is in its canonical form. -/
theorem reset_memory_wf : Memory.wf State.reset.fmm.mem = true := rfl

end Sys2Proof.Machine
end

