-- ==== Sys2Proof/Laws/PowerDown.lean ====
section
/-! SUPPORT. What the end of a powered state does (01 R4), from what the closing of parts, the end of a fragment and the
lens leaving READY do. -/

namespace Sys2Proof.Machine

/-! ## Closing parts -/

/-- An entry has an open part of a drop. -/
def Entry.openFor (d : Drop) (e : Entry) : Bool := e.parts.any fun p => decide (p.drop = d) && p.status.isOpen

theorem State.dropHasOpenPart_eq (s : State) (d : Drop) : s.dropHasOpenPart d = s.shots.table.any (Entry.openFor d) := rfl

/-- What a map over the shot table keeps: trigger numbers, the drops of the parts, and a drop's lack of an open
part. -/
structure ClosesOnly (d : Drop) (g : Entry → Entry) : Prop where
  trigger : ∀ e, (g e).trigger = e.trigger
  drops : ∀ e, (g e).parts.map Part.drop = e.parts.map Part.drop
  opened : ∀ e, (g e).openFor d = true → e.openFor d = true

theorem ClosesOnly.id (d : Drop) : ClosesOnly d (fun e => e) := ⟨fun _ => rfl, fun _ => rfl, fun _ h => h⟩

theorem ClosesOnly.comp {d : Drop} {g k : Entry → Entry} (h : ClosesOnly d g) (j : ClosesOnly d k) :
    ClosesOnly d (fun e => k (g e)) :=
  ⟨fun e => (j.trigger _).trans (h.trigger e), fun e => (j.drops _).trans (h.drops e), fun e x => h.opened e (j.opened _ x)⟩

theorem Entry.openFor_modPart (e : Entry) (d : Drop) (p : Part) (hp : p.status.isOpen = false) :
    (e.modPart d fun _ => p).openFor d = false := by
  simp only [Entry.openFor, Entry.modPart, List.any_map, List.any_eq_false, Function.comp]
  intro q _
  by_cases h : q.drop = d <;> simp [h, hp]

theorem Entry.drops_modPart (e : Entry) (d : Drop) (p : Part) (hp : p.drop = d) :
    ((e.modPart d fun _ => p).parts.map Part.drop) = e.parts.map Part.drop := by
  simp only [Entry.modPart, List.map_map]
  refine List.map_congr_left fun q _ => ?_
  by_cases h : q.drop = d <;> simp [h, hp]

/-- The closing of an entry keeps its parts. -/
theorem State.closeEntry_table (s : State) (t : Half) : ∃ g : Entry → Entry,
    (s.closeEntry t).shots.table = s.shots.table.map g ∧ ∀ e, (g e).trigger = e.trigger ∧ (g e).parts = e.parts := by
  unfold State.closeEntry
  split
  · exact ⟨fun e => e, by simp, fun _ => ⟨rfl, rfl⟩⟩
  · split
    · refine ⟨_, congrArg Shots.table ((State.boundaryDecision_frame _).get .shots), fun e => ?_⟩
      split <;> exact ⟨rfl, rfl⟩
    · exact ⟨fun e => e, by simp, fun _ => ⟨rfl, rfl⟩⟩

/-- What a close of one part does to the shot table. -/
theorem State.closePart_table (s : State) (t : Half) (d : Drop) (c : ClosedStatus) : ∃ g : Entry → Entry,
    (s.closePart t d c).shots.table = s.shots.table.map g ∧ ClosesOnly d g ∧
      ((s.shots.table.map Entry.trigger).Nodup → (∀ e ∈ s.shots.table, (e.parts.map Part.drop).Nodup) →
        ∀ e ∈ s.shots.table, e.trigger = t → (g e).openFor d = false) := by
  have none_open : s.part t d = none → (s.shots.table.map Entry.trigger).Nodup →
      ∀ e ∈ s.shots.table, e.trigger = t → e.openFor d = false := by
    intro hp hn e he ht
    have : s.findEntry t = some e := by rw [State.findEntry, ← ht]; exact List.find?_nodup hn he
    simp only [State.part, this, Option.bind_some, Entry.part, List.find?_eq_none] at hp
    simp only [Entry.openFor, List.any_eq_false]
    intro q hq; simp [by simpa using hp q hq]
  unfold State.closePart
  split
  · rename_i hp
    exact ⟨fun e => e, by simp, .id d, fun hn _ => none_open hp hn⟩
  · rename_i p hp
    split
    · generalize hq : p.close (s.dropCfg d) c = q
      have hqo : q.status.isOpen = false := by rw [← hq]; rfl
      have hqd : q.drop = d := by
        rw [← hq]
        obtain ⟨e, -, he⟩ := Option.bind_eq_some_iff.mp hp
        simpa [Part.close] using List.find?_some he
      obtain ⟨g, hg, hk⟩ := State.closeEntry_table
        (((s.modPart t d fun _ => q).modRx d (·.partClosed t)).offerPart d q) t
      have ho : (((s.modPart t d fun _ => q).modRx d (·.partClosed t)).offerPart d q).shots =
          (s.modPart t d fun _ => q).shots :=
        (State.offerPart_frame _ d q).get .shots
      have hop : ∀ e, (g e).openFor d = e.openFor d := fun e => by simp [Entry.openFor, (hk e).2]
      refine ⟨fun e => g (if e.trigger = t then e.modPart d (fun _ => q) else e), ?_, ⟨fun e => ?_, fun e => ?_, fun e h => ?_⟩, ?_⟩
      · simp only
        rw [hg, ho]
        show ((s.shots.table.map _)).map g = _
        rw [List.map_map]; rfl
      · rw [(hk _).1]; split <;> rfl
      · rw [(hk _).2]; split
        · exact Entry.drops_modPart _ _ _ hqd
        · rfl
      · rw [hop] at h
        split at h
        · rw [Entry.openFor_modPart _ _ _ hqo] at h; simp at h
        · exact h
      · intro _ _ e _ ht
        rw [hop, if_pos ht, Entry.openFor_modPart _ _ _ hqo]
    · rename_i hno
      refine ⟨fun e => e, by simp, .id d, fun hn hd e he ht => ?_⟩
      have hf : s.findEntry t = some e := by rw [State.findEntry, ← ht]; exact List.find?_nodup hn he
      simp only [State.part, hf, Option.bind_some] at hp
      have hm := List.mem_of_find?_eq_some hp
      have hpd : p.drop = d := by simpa using List.find?_some hp
      simp only [Entry.openFor, List.any_eq_false]
      intro q hq
      by_cases hqd : q.drop = d
      · have : q = p := by
          have h1 := List.find?_nodup (hd e he) hq
          rw [hqd] at h1
          exact Option.some.inj (h1.symm.trans hp)
        simp [this, hno]
      · simp [hqd]

/-- After the closing of a drop's open parts it has none (06 R119, R120). -/
theorem State.closeOpenParts_closed {s : State} (h : s.ShotLaw) (d : Drop) (c : ClosedStatus) :
    (s.closeOpenParts d c).dropHasOpenPart d = false := by
  have key : ∀ (ts : List Half) (u : State) (g : Entry → Entry), u.shots.table = s.shots.table.map g → ClosesOnly d g →
      ∃ k : Entry → Entry, (ts.foldl (fun u t => u.closePart t d c) u).shots.table = s.shots.table.map k ∧
        ClosesOnly d k ∧ (∀ e, (k e).openFor d = true → (g e).openFor d = true) ∧
        (∀ e ∈ s.shots.table, e.trigger ∈ ts → (k e).openFor d = false) := by
    intro ts
    induction ts with
    | nil => exact fun u g hu hg => ⟨g, hu, hg, fun _ x => x, by simp⟩
    | cons t ts ih =>
      intro u g hu hg
      obtain ⟨j, hj, hjo, hjc⟩ := u.closePart_table t d c
      obtain ⟨k, hk, hko, hkm, hkc⟩ := ih (u.closePart t d c) (fun e => j (g e))
        (by rw [hj, hu, List.map_map]; rfl) (hg.comp hjo)
      refine ⟨k, hk, hko, fun e x => hjo.opened _ (hkm e x), fun e he ht => ?_⟩
      rcases List.mem_cons.mp ht with ht | ht
      · have hn : (u.shots.table.map Entry.trigger).Nodup := by
          rw [hu, List.map_map, show Entry.trigger ∘ g = Entry.trigger from funext hg.trigger]; exact h.numbers
        have hd : ∀ x ∈ u.shots.table, (x.parts.map Part.drop).Nodup := by
          rw [hu]; intro x hx
          obtain ⟨y, hy, rfl⟩ := List.mem_map.mp hx
          rw [hg.drops]; exact h.drops y hy
        have := hjc hn hd (g e) (by rw [hu]; exact List.mem_map_of_mem he) ((hg.trigger e).trans ht)
        exact Bool.eq_false_iff.mpr fun x => by simp [hkm e x] at this
      · exact hkc e he ht
  obtain ⟨k, hk, -, -, hc⟩ := key (s.shots.table.map Entry.trigger) s (fun e => e) (by simp) (.id d)
  rw [State.dropHasOpenPart_eq]
  show (List.foldl _ s _).shots.table.any _ = false
  rw [hk]
  simp only [List.any_map, List.any_eq_false, Function.comp]
  exact fun e he => by simpa using hc e he (List.mem_map_of_mem he)

/-! ## The end of a fragment -/

/-- After a fragment has ended the context is IDLE (05 R100, R102). -/
theorem State.endFragment_idle (s : State) (d : Drop) : ((s.endFragment d).rx.get d).mode = .idle := by
  unfold State.endFragment
  split
  · assumption
  · simp [State.runt, State.flagPart, State.modPart, State.modEntry, Receiver.toIdle]
  · simp [Receiver.toIdle]

/-- The close of a part leaves an IDLE context as it is. -/
theorem State.closePart_idle {s : State} {d : Drop} (t : Half) (c : ClosedStatus) (h : (s.rx.get d).mode = .idle) :
    ((s.closePart t d c).rx.get d).mode = .idle := by
  unfold State.closePart
  split
  · exact h
  · split
    · simp only
      rw [(State.closeEntry_frame _ _).get .rx, (State.offerPart_frame _ _ _).get .rx]
      simp [State.modPart, State.modEntry, Receiver.partClosed, h]
    · exact h

theorem State.closeOpenParts_idle {s : State} {d : Drop} (c : ClosedStatus) (h : (s.rx.get d).mode = .idle) :
    ((s.closeOpenParts d c).rx.get d).mode = .idle := by
  unfold State.closeOpenParts
  generalize s.shots.table.map Entry.trigger = ts
  induction ts generalizing s with
  | nil => exact h
  | cons t ts ih => exact ih (State.closePart_idle t c h)

/-- The end of a fragment opens no part. -/
theorem State.endFragment_parts {s : State} {d : Drop} (h : s.dropHasOpenPart d = false) :
    (s.endFragment d).dropHasOpenPart d = false := by
  unfold State.endFragment
  split
  · exact h
  · rename_i t _
    simp only [State.dropHasOpenPart, State.runt, State.flagPart, State.modPart, State.modEntry, State.modRx_shots,
      State.modShots_shots, List.any_map, List.any_eq_false, Function.comp] at h ⊢
    intro e he
    specialize h e he
    split
    · simp only [Entry.modPart, List.any_map, List.any_eq_true, not_exists, not_and, Function.comp] at h ⊢
      intro p hp
      specialize h p hp
      split <;> simpa using h
    · exact h
  · exact h

/-! ## The lens leaves READY -/

/-- A lens that has left READY is at rest, with its slot empty and no sweep running (08 R145, 09 R172). -/
theorem Lens.leftReady_rest (l : Lens) :
    l.leftReady.busy = false ∧ l.leftReady.slot = none ∧ l.leftReady.sweep.phase = none := by
  have h : ∀ x : AxisRec, (if x.mode.busy = true then x.failedBy .link else x).mode.busy = false := by
    intro x; split
    · rfl
    · rename_i h; simpa using h
  refine ⟨by simp [Lens.busy, Lens.leftReady, h], rfl, ?_⟩
  simp only [Lens.leftReady]; split
  · assumption
  · rfl

/-! ## The end of a powered state -/

/-- What a powered drop's way into an unpowered state does, with the drop record it leaves (01 R4). -/
theorem State.powerDown_spec (s : State) (d : Drop) {next : DropState} (hn : next.powered = false) :
    s.PowersDown (s.powerDown d next) d ∧
      (s.powerDown d next).drops.get d = { (s.drops.get d).stopPowered with state := next, measured := s.residual } := by
  have hf := s.powerDown_frame d next
  unfold State.powerDown at hf ⊢
  simp only at hf ⊢
  have a_drops : (((s.openSwitch d next).giveUpShare d).modLink d LinkPort.powerOff).drops = (s.openSwitch d next).drops :=
    (State.giveUpShare_frame _ d).get .drops
  have a_budget : (((s.openSwitch d next).giveUpShare d).modLink d LinkPort.powerOff).budget =
      { s.budget with ownHeld := s.budget.ownHeld - (s.dropCfg d).allowance } :=
    ((State.queueRelease_frame _ d).get .budget)
  have a_links : (((s.openSwitch d next).giveUpShare d).modLink d LinkPort.powerOff).links.get d =
      { locked := false, beatRun := 0, silence := .stopped, sending := none, waiting := [] } := by
    simp [LinkPort.powerOff, LinkPort.unlock]
  have a_shots : (((s.openSwitch d next).giveUpShare d).modLink d LinkPort.powerOff).shots = s.shots :=
    (State.giveUpShare_frame _ d).get .shots
  have a_loc : (((s.openSwitch d next).giveUpShare d).modLink d LinkPort.powerOff).locator = s.locator :=
    (State.giveUpShare_frame _ d).get .locator
  have a_lens : (((s.openSwitch d next).giveUpShare d).modLink d LinkPort.powerOff).lens = s.lens :=
    (State.giveUpShare_frame _ d).get .lens
  have a_station : (((s.openSwitch d next).giveUpShare d).modLink d LinkPort.powerOff).station = s.station :=
    (State.giveUpShare_frame _ d).get .station
  have a_cli : (((s.openSwitch d next).giveUpShare d).modLink d LinkPort.powerOff).cli = (s.queueRelease d).cli := by
    exact State.queueRelease_cli rfl rfl rfl
  generalize ((s.openSwitch d next).giveUpShare d).modLink d LinkPort.powerOff = a at *
  have b_frame : a.ChangesOnly (if (s.drops.get d).state = .ready then a.closeOpenParts d .powerLost else a)
      [.shots, .rx, .lens, .cli, .uplink] [d] := by
    split
    · exact a.closeOpenParts_frame d _
    · exact .refl _ _ _
  have b_cli : (if (s.drops.get d).state = .ready then a.closeOpenParts d .powerLost else a).cli = a.cli := by
    split
    · exact (a.closeOpenParts_passes d (by decide)).1
    · rfl
  have b_lens : ((s.drops.get d).state = .ready → s.LensLeft d
        ((if (s.drops.get d).state = .ready then a.closeOpenParts d .powerLost else a).lens.get d).leftReady) ∧
      ((s.drops.get d).state ≠ .ready →
        (if (s.drops.get d).state = .ready then a.closeOpenParts d .powerLost else a).lens = s.lens) := by
    refine ⟨fun k => ?_, fun k => ?_⟩
    · rw [if_pos k]; exact (a.closeOpenParts_passes d (by decide)).2.congr a_shots a_lens
    · rw [if_neg k]; exact a_lens
  have b_parts : s.ShotLaw → (s.drops.get d).state = .ready →
      (if (s.drops.get d).state = .ready then a.closeOpenParts d .powerLost else a).dropHasOpenPart d = false := by
    intro h k
    rw [if_pos k]; exact State.closeOpenParts_closed (h.congr a_shots.symm) d _
  have b_same : (s.drops.get d).state = .ready →
      ((if (s.drops.get d).state = .ready then a.closeOpenParts d .powerLost else a).lens.get d).leavingNotes d =
        (s.lens.get d).leavingNotes d := by
    intro k
    obtain ⟨-, n, hl, -, -⟩ := State.closeParts_passes (c := .powerLost) d (by decide) (a.shots.table.map Entry.trigger) a
    rw [if_pos k]
    show ((List.foldl _ a _).lens.get d).leavingNotes d = _
    rw [hl, a_lens]; rfl
  generalize (if (s.drops.get d).state = .ready then a.closeOpenParts d .powerLost else a) = b at *
  have c_idle := b.endFragment_idle d
  have c_parts : s.ShotLaw → (s.drops.get d).state = .ready → (b.endFragment d).dropHasOpenPart d = false :=
    fun h k => State.endFragment_parts (b_parts h k)
  have c_frame := b.endFragment_frame d
  generalize b.endFragment d = c at *
  have e_frame : c.ChangesOnly (if (s.drops.get d).state = .ready then c.lensLeaveReady d else c) [.lens, .cli] [d] := by
    split
    · exact c.lensLeaveReady_frame d
    · exact .refl _ _ _
  have c_lens : c.lens = b.lens := c_frame.get .lens
  have c_cli : c.cli = (s.queueRelease d).cli := (c_frame.get .cli).trans (b_cli.trans a_cli)
  have c_station : c.station = s.station :=
    (c_frame.get .station).trans ((b_frame.get .station).trans a_station)
  have e_cli : (if (s.drops.get d).state = .ready then c.lensLeaveReady d else c).cli =
      ((if (s.drops.get d).state = .ready then (s.lens.get d).leavingNotes d else []).foldl State.queueNote
        (s.queueRelease d)).cli := by
    by_cases k : (s.drops.get d).state = .ready
    · obtain ⟨n, hn, -, -⟩ := b_lens.1 k
      have hl : (c.lens.get d).leavingNotes d = (s.lens.get d).leavingNotes d := by
        rw [c_lens]; exact b_same k
      simp only [if_pos k]
      rw [State.lensLeaveReady_cli, hl]
      exact State.queueNotes_cli (c_station.trans ((State.queueRelease_frame s d).get .station).symm) c_cli _
    · simp only [if_neg k]; exact c_cli
  have e_lens : ((s.drops.get d).state = .ready → s.LensLeft d
        ((if (s.drops.get d).state = .ready then c.lensLeaveReady d else c).lens.get d)) ∧
      ((s.drops.get d).state ≠ .ready →
        (if (s.drops.get d).state = .ready then c.lensLeaveReady d else c).lens = s.lens) := by
    refine ⟨fun k => ?_, fun k => ?_⟩
    · rw [if_pos k, State.lensLeaveReady_lens, c_lens]; exact b_lens.1 k
    · rw [if_neg k, c_lens]; exact b_lens.2 k
  generalize (if (s.drops.get d).state = .ready then c.lensLeaveReady d else c) = e at *
  have g_frame : (e.clearHomed d).ChangesOnly
      (if (s.drops.get d).state = .hushed then (e.clearHomed d).darkenCapture else e.clearHomed d) [.locator] [] := by
    split
    · exact State.darkenCapture_frame _
    · exact .refl _ _ _
  have g_loc : (if (s.drops.get d).state = .hushed then (e.clearHomed d).darkenCapture else e.clearHomed d).locator =
      if (s.drops.get d).state = .hushed then
        { s.locator with capture := s.locator.capture.map fun c => { c with type := .dark } } else s.locator := by
    have : (e.clearHomed d).locator = s.locator :=
      ((e_frame.get .locator).trans ((c_frame.get .locator).trans (b_frame.get .locator))).trans a_loc
    split
    · simp only [State.darkenCapture, State.modLocator_locator, this]
    · exact this
  generalize (if (s.drops.get d).state = .hushed then (e.clearHomed d).darkenCapture else e.clearHomed d) = g at *
  have lens : g.lens.get d = (e.lens.get d).unhomed := by
    rw [g_frame.get .lens]; simp [State.clearHomed, Lens.unhomed]
  have record : g.drops.get d = { (s.drops.get d).stopPowered with state := next, measured := s.residual } := by
    rw [g_frame.get .drops]
    show e.drops.get d = _
    rw [e_frame.get .drops, c_frame.get .drops, b_frame.get .drops, a_drops]
    simp [State.openSwitch]
  have notes : g.cli = e.cli := (g_frame.get .cli).trans ((e.clearHomed_frame d).get .cli)
  have release : e.cli = ((if (s.drops.get d).state = .ready then (s.lens.get d).leavingNotes d else []).foldl
      State.queueNote (s.queueRelease d)).cli → s.stray = false → g.cli.queue.any (·.body.isReleaseOf d) = true := by
    intro h k
    rw [notes, h]
    exact (State.Queues.foldl (p := fun _ => true) (fun s b => s.queueNote_queues rfl) _ _).keepsReleases
      (s.queueRelease_holds d k)
  refine ⟨⟨hf, by rw [record]; exact hn, by rw [record]; exact ⟨rfl, rfl, rfl, rfl, rfl, rfl⟩, ?_, notes.trans e_cli,
    release e_cli, ?_, ?_, ?_, fun h k => ?_, fun k => ⟨_, e_lens.1 k, lens⟩, fun k => ?_, fun k => ?_, fun k => ?_⟩, record⟩
  · rw [g_frame.get .budget]
    exact ((e_frame.get .budget).trans ((c_frame.get .budget).trans (b_frame.get .budget))).trans a_budget
  · rw [g_frame.get .links]
    exact (congrArg (PerDrop.get · d) ((e_frame.get .links).trans ((c_frame.get .links).trans (b_frame.get .links)))).trans a_links
  · rw [g_frame.get .rx]
    show (e.rx.get d).mode = _
    rw [e_frame.get .rx]; exact c_idle
  · rw [lens]; exact ⟨rfl, rfl⟩
  · have : g.shots = c.shots := (g_frame.get .shots).trans (e_frame.get .shots)
    rw [State.dropHasOpenPart, this]; exact c_parts h k
  · rw [lens, e_lens.2 k]
  · rw [g_loc, if_pos k]
  · rw [g_loc, if_neg k]

section
variable {s u : State} {d : Drop} {f : DropRec → DropRec}

/-- A change of the drop record before the end of its power that keeps its state. -/
theorem State.PowersDown.after_modDrop (h : (s.modDrop d f).PowersDown u d)
    (hf : (f (s.drops.get d)).state = (s.drops.get d).state) : s.PowersDown u d := by
  have hr : ((s.modDrop d f).drops.get d).state = (s.drops.get d).state := by simpa using hf
  have e := h.parts; have l := h.lens; have c := h.capture; have k := h.locator
  have n := h.notes; have o := h.other
  rw [hr] at e l c k n o
  have st : (State.queueRelease (s.modDrop d f) d).station = (s.queueRelease d).station :=
    ((State.queueRelease_frame _ d).get .station).trans ((s.queueRelease_frame d).get .station).symm
  exact ⟨((s.modDrop_frame d f).mono (by decide) (by simp)).trans h.frame, h.unpowered, h.timers, h.share,
    n.trans (State.queueNotes_cli st (State.queueRelease_cli rfl rfl rfl) _), h.release, h.port, h.context, h.homed,
    fun q => e ⟨q.1, q.2, q.3, q.4, q.5⟩,
    fun q => (l q).imp fun _ v => ⟨State.LensLeft.congr (s := s.modDrop d f) rfl rfl v.1, v.2⟩, o, c, k⟩

/-- A change of the drop record behind the end of its power that keeps its state and its powered timers. -/
theorem State.PowersDown.modDrop (h : s.PowersDown u d) (hs : ∀ r, (f r).state = r.state)
    (ht : ∀ r, (f r).rampWindow = r.rampWindow ∧ (f r).warmTimer = r.warmTimer ∧
      (f r).relockWindow = r.relockWindow ∧ (f r).stableTimer = r.stableTimer ∧ (f r).napTimer = r.napTimer ∧
      (f r).steadyTrip = r.steadyTrip) : s.PowersDown (u.modDrop d f) d := by
  obtain ⟨t1, t2, t3, t4, t5, t6⟩ := ht (u.drops.get d)
  have t := h.timers
  refine ⟨h.frame.step (u.modDrop_frame d f) (by decide) (by simp), by simpa [hs] using h.unpowered, ?_, h.share,
    h.notes, h.release, h.port, h.context, h.homed, h.parts, h.lens, h.other, h.capture, h.locator⟩
  simpa [t1, t2, t3, t4, t5, t6] using t

end

end Sys2Proof.Machine
end

