-- ==== Sys2Proof/WellFormed.lean ====
section
/-! DEFINITION. Which commands can stand for an event of the hub: the checks on operands that the operand types
do not already make. `exec` is total on every command; these checks say which operands the world can give it. -/

namespace Sys2Proof

/-- A REQUEST note carries 0 to 5 argument bytes (02 R47). -/
def Request.wellFormed (r : Request) : Bool := decide (r.args.length ≤ 5)

/-- A bundle number on the line is 1 to 15 (02 R47). -/
def bundleWellFormed (b : Nat) : Bool := decide (1 ≤ b ∧ b ≤ 15)

/-- A bundle note as received names a bundle 1 to 15 (02 R47). -/
def BundleArrival.wellFormed : BundleArrival → Bool
  | .received _ b _ => bundleWellFormed b
  | .echo => true

/-- The loader reads the 177 bytes of the image, or is not acknowledged (12 R206). -/
def EepromRead.wellFormed : EepromRead → Bool
  | .noAcknowledge => true
  | .image bytes => decide (bytes.length = 177)

/-- A recessive bit read as dominant inside the arbitration field is a loss and no send error (02 R33, R38). -/
def BitError.wellFormed (e : BitError) : Bool :=
  !(decide (e.field = .arbitration) && !e.sentDominant)

/-- The head answers with 0 to 16 steps done (08 R141). -/
def LensAck.wellFormed (a : LensAck) : Bool := decide (a.stepsDone ≤ 16)

/-- The commands that can stand for an event. -/
def Instr.wellFormed : Instr → Bool
  | .powerOnReset _ => true
  | .cellReset _ target _ => decide (target.toNat ≤ 15)
  | .loadEnd read => read.wellFormed
  | .startupWaitEnd => true
  | .noteStart => true
  | .arbitrationLoss => true
  | .sendError e => e.wellFormed
  | .noteEcho => true
  | .noteDiscarded _ => true
  | .ownNumberHeard => true
  | .noteHeard _ => true
  | .triggerNote _ => true
  | .claimReceived _ _ => true
  | .claimEcho => true
  | .releaseReceived _ _ => true
  | .releaseEcho => true
  | .presenceReceived _ _ => true
  | .locateStartNote a => a.wellFormed
  | .locateEndNote a => a.wellFormed
  | .presenceTimerExpiry => true
  | .viewAgeExpiry _ => true
  | .retryTimerExpiry _ => true
  | .powerOn r => r.wellFormed
  | .powerOff r => r.wellFormed
  | .wake r => r.wellFormed
  | .clear r => r.wellFormed
  | .queryDrop r => r.wellFormed
  | .powerGood _ => true
  | .rampWindowExpiry _ => true
  | .currentAboveSteady _ _ => true
  | .currentBelowSteady _ _ => true
  | .steadyTripExpiry _ => true
  | .hardTrip _ => true
  | .backoffExpiry _ => true
  | .stableTimerExpiry _ => true
  | .napTimerExpiry _ => true
  | .warmTimerExpiry _ => true
  | .relockWindowExpiry _ => true
  | .lockGain _ => true
  | .lockLoss _ _ => true
  | .lockTimeout _ _ => true
  | .beat _ => true
  | .openWord _ _ => true
  | .dataWord _ _ => true
  | .closeWord _ _ => true
  | .shotTimeout _ => true
  | .lensAck _ a => a.wellFormed
  | .ackTimerExpiry _ => true
  | .burstHandover _ => true
  | .markSent _ => true
  | .lensHome r => r.wellFormed
  | .lensMove r => r.wellFormed
  | .lensNudge r => r.wellFormed
  | .lensHalt r => r.wellFormed
  | .lensPush r => r.wellFormed
  | .lensPop r => r.wellFormed
  | .queryLens r => r.wellFormed
  | .lensSweep r => r.wellFormed
  | .pointTimerExpiry _ => true
  | .querySweep r => r.wellFormed
  | .triggerInputRise => true
  | .triggerInputFall => true
  | .qualifyTimerExpiry => true
  | .slotMark _ => true
  | .recordStart => true
  | .uplinkWordSent => true
  | .linkDown => true
  | .linkUp => true
  | .restartSend => true
  | .locate r => r.wellFormed
  | .locateHalt r => r.wellFormed
  | .flashStart => true
  | .flashStale _ => true
  | .requestActivate => true
  | .quiesceEnd => true
  | .holderExpiry b => bundleWellFormed b
  | .launchStart => true
  | .settleEnd => true
  | .shotComplete samples => decide (samples.length = Config.sampleCount)
  | .querySites r => r.wellFormed
  | .clearSites r => r.wellFormed
  | .queryStation r => r.wellFormed
  | .unknownRequestKind k r => r.wellFormed && !(RequestKind.all.any fun q => q.value == k)

end Sys2Proof
end

