-- ==== Sys2Proof/Tests/Slice0.lean ====
section
/-! SUPPORT. Tests: the ill-formed commands each check refuses, the spec's worked examples, and for each statement with
hypotheses a state and operands that meet them. -/

namespace Sys2Proof.Tests

open Sys2Proof.Machine

/-! ## Ill-formed commands -/

/-- A request of station 13 to station 3 for D1. -/
def req (args : List Byte) : Request := { src := 13, target := 3, drop := 1, args := args }

theorem test_wf_request_args :
    (Instr.powerOn (req [0, 0, 0, 0, 0, 0])).wellFormed = false ∧ (Instr.powerOn (req [0, 0, 0, 0, 0])).wellFormed := by
  decide
theorem test_wf_bundle_zero :
    (Instr.locateStartNote (.received 4 0 1)).wellFormed = false ∧ (Instr.locateEndNote (.received 4 16 1)).wellFormed = false ∧
      (Instr.holderExpiry 0).wellFormed = false ∧ (Instr.holderExpiry 15).wellFormed := by
  decide
theorem test_wf_image_length :
    (Instr.loadEnd (.image (List.replicate 176 0))).wellFormed = false ∧
      (Instr.loadEnd (.image (List.replicate 177 0))).wellFormed := by
  decide +kernel
theorem test_wf_arbitration_error :
    (Instr.sendError ⟨.arbitration, false, false⟩).wellFormed = false ∧
      (Instr.sendError ⟨.arbitration, true, false⟩).wellFormed := by
  decide
theorem test_wf_ack_steps :
    (Instr.lensAck .d0 ⟨17, false, 0⟩).wellFormed = false ∧ (Instr.lensAck .d0 ⟨16, false, 0⟩).wellFormed := by
  decide
theorem test_wf_reset_target :
    (Instr.cellReset 4 16 ⟨3, true⟩).wellFormed = false ∧ (Instr.cellReset 4 15 ⟨3, true⟩).wellFormed := by
  decide
theorem test_wf_sample_count :
    (Instr.shotComplete (List.replicate 511 0)).wellFormed = false ∧
      (Instr.shotComplete (List.replicate 512 0)).wellFormed := by
  decide +kernel
theorem test_wf_unknown_kind :
    (Instr.unknownRequestKind 28 (req [])).wellFormed = false ∧ (Instr.unknownRequestKind 29 (req [])).wellFormed := by
  decide

/-! ## Worked examples of the spec -/

/-- 02 R43: the parity of the five pins. -/
theorem test_latch_station : latchStation ⟨0b0011, true⟩ = 3 ∧ latchStation ⟨0b0011, false⟩ = 15 ∧ latchStation ⟨0b0111, false⟩ = 7 := by
  decide
/-- 01 R8: the steady trip level. -/
theorem test_steady_level : steadyLevel 600 = 750 ∧ steadyLevel 1250 = 1562 ∧ steadyLevel 0 = 0 := by decide
/-- 07 R128: free = (mark − place) modulo L, 0 taken as L. -/
theorem test_ring_free : ringFree 8 5 5 = 8 ∧ ringFree 8 2 5 = 5 ∧ ringFree 8 6 5 = 1 := by decide
/-- 09, worked score: G 12800, N 32, S 3600, M 36 give 1023. -/
theorem test_score : scoreOf { g := 12800, n := 32, s := 3600, m := 36, carry := none } = 1023 := by decide
/-- 11, worked capture: the distance, the reach and their formula. -/
theorem test_distance : distanceOf 2190 660 = 33851 ∧ reachOf 40 660 = 123781 := by decide
/-- 11, the samples of the worked capture, as far as it names them. -/
def workedSamples : List Nat :=
  List.replicate 8 512 ++ List.replicate 4 912 ++ List.replicate 135 512 ++ [552, 616] ++ List.replicate 6 512 ++ [842] ++
    List.replicate 356 512
/-- 11, worked capture: an OPEN at 33,851 mm with q 211. -/
theorem test_capture : analyse workedSamples 64 660 40 = some { kind := .open, distance := 33851, q := 211 } := by
  decide +kernel
/-- 11, worked table, sequence 41: (33851 + 33990) / 2 = 33920. -/
theorem test_gather :
    ((Site.mk .open 33851 1 40 40 0 none).gather ⟨.stepUp, 33990, 41, true, some 7300⟩) =
      ⟨.open, 33920, 2, 40, 41, 1, some 7300⟩ := by
  decide
/-- 11, worked table, sequence 44: the combination of slots 0 and 2. -/
theorem test_combine :
    Site.combine 45 ⟨.open, 33920, 2, 40, 41, 1, some 7300⟩ ⟨.stepUp, 34060, 2, 43, 44, 1, some 7311⟩ =
      ⟨.open, 33990, 4, 40, 44, 2, some 7311⟩ := by
  decide
/-- 08 R149: the home search limits. -/
theorem test_home_limit : homeSearchLimit 30000 = 30064 ∧ homeSearchLimit 4000 = 4064 := by decide
/-- 02 R31, R32, R34: a PRESENCE frame, read back. -/
theorem test_frame_round_trip :
    let f : FrameFields := { cls := 3, station := 7, kind := 16, payload := [0, 0, 0, 0xff, 0x1f] }
    receiveFrame f.lineBits = .ok f := by
  decide +kernel

/-! ## States the witnesses are built from -/

/-- A drop section with everything in use. -/
def dropT : DropCfg :=
  { defaultedDrop with
    enabled := true, scoring := true, allowance := 500, napSeconds := 9, bundle := 5, startPattern := 0xa5
    endPattern := 0x5a, frameSize := 2, focusRange := 100, irisRange := 50, focusBacklash := 4 }

/-- A configuration with the four drops alike. -/
def cfgT : Configuration :=
  { station :=
      { defaultedStation with
        cellBudget := 2000, origin := true, localMask := 1, ringLength := 8, pauseThreshold := 3, holdThreshold := 3
        releaseThreshold := 6 }
    drops := PerDrop.const dropT }

/-- A loaded hub, station 3, past its start-up wait, with four pages free. -/
def hub : State :=
  { State.reset with
    station := 3
    loader := .loaded
    cfg := some cfgT
    cli := { resetCli 0 with startWait := .stopped, presenceTimer := .running 0 250000 }
    fmm := { freeList := [1, 2, 3, 4], freeCount := 4, hold := false, lowWater := 4, takeFailures := 0, mem := [] } }

/-- The hub with D1's record changed. -/
def at1 (f : DropRec → DropRec) : State := hub.modDrop .d1 f

/-- The hub with D1 in a state. -/
def in1 (st : DropState) : State := at1 fun r => { r with state := st }

/-- A state with every drop's allowance changed. -/
def allowed (n : Nat) (s : State) : State :=
  { s with cfg := some { cfgT with drops := PerDrop.const { dropT with allowance := n } } }

/-- The hub with D1's port LOCKED. -/
def locked1 (st : DropState) (run : Nat) : State :=
  (in1 st).modLink .d1 fun l => { l with locked := true, beatRun := run, silence := .running 0 4000 }

/-- A running timer. -/
def on : Timer := .running 0 1

/-- The hub with notes in its queue. -/
def queued (q : List QNote) : State := { hub with cli := { hub.cli with queue := q } }

/-- The hub with one note, on the line. -/
def lineT (b : NoteBody) : State := queued [⟨b, [], true⟩]

/-- An entry of the shot table with one part of D1. -/
def entryT (n : Half) (st : EntryState) (p : Part) : Entry :=
  { trigger := n, origin := 4, mask := 1, state := st, age := if st = .open then on else .stopped, skipped := 0
    parts := [p] }

/-- A part of D1 that receives, with its words stored in a chain. -/
def partT (words : Nat) (chain : List Nat) : Part :=
  { hub.freshPart .d1 with status := .receiving, words := words, chain := chain }

/-- The hub with D1 READY in lock, its context in a fragment of shot 7. -/
def inside1 (p : Part) (arrived : Nat) : State :=
  { (locked1 .ready 9).modRx .d1 (fun r => { r with mode := .inside 7, arrived := arrived }) with
    shots := { hub.shots with table := [entryT 7 .open p] } }

/-- The hub with D1 READY and its lens changed. -/
def lens1 (f : Lens → Lens) : State := (in1 .ready).modLens .d1 f

/-- An axis that moves up to a goal. -/
def movingT : AxisRec := { resetAxis with mode := .moving .up, target := 40, legGoal := some 40, homed := true }

/-- The hub with its locator changed. -/
def loc (f : Locator → Locator) : State := hub.modLocator f

/-- An active request for D1. -/
def activeT (p : LocatePhase) (t : CaptureType) (b : BundleState) : ActiveRequest :=
  { drop := .d1, k := 0, requester := 13, phase := p, type := t, bundleState := b, deferrals := 8, haltOwed := false }

/-- A capture on D1. -/
def captureT (t : CaptureType) : Capture :=
  { type := t, drop := .d1, k := 0, shotsDone := 0, sums := List.replicate 512 0, crosstalk := false, trigger := none
    stopOwed := false }

/-- A record of a site table. -/
def siteT (x : Nat) : Site := ⟨.open, x, 1, 0, 0, 0, none⟩

/-- Every request of station 13 for D1 is taken by a hub configured so. -/
theorem takes_service {s : State} (h : s.station = 3) (hc : s.cfg = some cfgT) (a : List Byte) :
    s.TakesDrop .service (req a) .d1 := by
  refine ⟨⟨?_, ?_, ?_⟩, rfl⟩
  · rw [h]; exact (by decide : (13 : Station).val ≠ 3)
  · simp only [State.addressed, State.stray, h]; rfl
  · simp only [State.ranked, State.isController, State.isService, hc]; exact (by decide : (inStationSet cfgT.station.controllerSet 13 && inStationSet cfgT.station.serviceSet 13) = true)

theorem takes_controller {s : State} (h : s.station = 3) (hc : s.cfg = some cfgT) (a : List Byte) :
    s.TakesDrop .controller (req a) .d1 := by
  refine ⟨⟨?_, ?_, ?_⟩, rfl⟩
  · rw [h]; exact (by decide : (13 : Station).val ≠ 3)
  · simp only [State.addressed, State.stray, h]; rfl
  · simp only [State.ranked, State.isController, hc]; exact (by decide : inStationSet cfgT.station.controllerSet 13 = true)

/-! ## Witnesses: drops, power and link -/

theorem witness_power_on_and_off :
    (in1 .off).TakesDrop .service (req []) .d1 ∧ ((in1 .off).drops.get .d1).state = .off ∧
    (in1 .fault).TakesDrop .service (req []) .d1 ∧ ((in1 .fault).drops.get .d1).state = .fault ∧
    (in1 .ready).TakesDrop .service (req []) .d1 ∧ ((in1 .ready).drops.get .d1).state.powered = true ∧
    (in1 .claiming).TakesDrop .service (req []) .d1 ∧ ((in1 .claiming).drops.get .d1).state = .claiming :=
  ⟨takes_service rfl rfl _, rfl, takes_service rfl rfl _, rfl, takes_service rfl rfl _, rfl, takes_service rfl rfl _, rfl⟩
theorem witness_wake_and_clear :
    (in1 .napping).TakesDrop .controller (req []) .d1 ∧ ((in1 .napping).drops.get .d1).state = .napping ∧
    (in1 .fault).TakesDrop .service (req []) .d1 ∧ ((in1 .fault).drops.get .d1).state = .fault :=
  ⟨takes_controller rfl rfl _, rfl, takes_service rfl rfl _, rfl⟩
theorem witness_warm_and_lock :
    (let s := at1 fun r => { r with state := .ramping, rampWindow := on }
     (s.drops.get .d1).state = .ramping ∧ (s.drops.get .d1).rampWindow.isRunning = true ∧ (s.dropCfg .d1).allowance ≠ 0 ∧
       ((allowed 0 s).dropCfg .d1).allowance = 0) ∧
    ((in1 .warming).drops.get .d1).state.powered = true ∧ ((in1 .warming).links.get .d1).locked = false := by
  decide
theorem witness_trips :
    (let r := (at1 fun r => { r with state := .ramping, rampWindow := on, tripSeries := 2 }).drops.get .d1
     r.state = .ramping ∧ r.rampWindow.isRunning = true ∧ ¬r.tripSeries < 2) ∧
    (let r := (at1 fun r => { r with state := .ready, steadyTrip := on, tripSeries := 1 }).drops.get .d1
     r.state.powered = true ∧ r.steadyTrip.isRunning = true ∧ r.tripSeries < 2) ∧
    ((allowed 1000 (in1 .ramping)).drops.get .d1).state = .ramping ∧
    ((allowed 1000 (in1 .ramping)).dropCfg .d1).allowance = 1000 ∧
    ((in1 .ramping).drops.get .d1).state = .ramping ∧ ((in1 .ramping).dropCfg .d1).allowance < 1000 ∧
    ((in1 .off).drops.get .d1).state.powered = false := by
  decide
/-- 01 R3, R9: in RAMPING a measured current of twice the allowance; at 2000 mA the trip. -/
theorem witness_samples :
    ((in1 .ready).drops.get .d1).state.powered = true ∧ ¬2000 ≤ min 4095 1999 ∧ 2000 ≤ min 4095 2000 ∧
    ¬2000 ≤ min (2 * ((in1 .ramping).dropCfg .d1).allowance) (min 4095 5000) ∧
    2000 ≤ min (2 * ((allowed 1000 (in1 .ramping)).dropCfg .d1).allowance) (min 4095 5000) := by
  decide
theorem witness_backoff :
    (let r := (at1 fun r => { r with state := .tripped, backoffTimer := on }).drops.get .d1
     r.state = .tripped ∧ r.backoffTimer.isRunning = true) ∧
    (in1 .tripped).TakesDrop .service (req []) .d1 ∧ ((in1 .tripped).drops.get .d1).state = .tripped :=
  ⟨by decide, takes_service rfl rfl _, rfl⟩
theorem witness_timers :
    (let r := (at1 fun r => { r with state := .warming, warmTimer := on }).drops.get .d1
     r.state = .warming ∧ r.warmTimer.isRunning = true) ∧
    (let r := (at1 fun r => { r with state := .lost, relockWindow := on }).drops.get .d1
     r.state = .lost ∧ r.relockWindow.isRunning = true) ∧
    (let r := (at1 fun r => { r with state := .ready, napTimer := on, stableTimer := on }).drops.get .d1
     r.state = .ready ∧ r.napTimer.isRunning = true ∧ r.stableTimer.isRunning = true) := by
  decide

/-- The hub's shot table, empty, keeps its law. -/
theorem shotLaw_of_empty {s : State} (h : s.shots.table = []) : s.ShotLaw := by
  constructor <;> simp [h]

/-- The shot table with one entry of one part, open exactly while the part is, keeps its law. -/
theorem shotLaw_of_entry {s : State} {st : EntryState} {p : Part} (h : s.shots.table = [entryT 7 st p])
    (hp : p.status.isOpen = decide (st = .open)) : s.ShotLaw := by
  have ho : (entryT 7 st p).hasOpenPart = decide (st = .open) := by simp [entryT, Entry.hasOpenPart, hp]
  constructor
  · rw [h]; exact (by decide : 1 ≤ Config.shotTableSize)
  · rw [h]; simp
  · intro e he; rw [h] at he; simp only [List.mem_singleton] at he; subst he; simp [entryT]
  · intro e he; rw [h] at he; simp only [List.mem_singleton] at he; subst he; rw [ho]; simp [entryT]
  · intro e he; rw [h] at he; simp only [List.mem_singleton] at he; subst he
    cases st <;> simp [entryT, on, Timer.isRunning]

theorem witness_lock_loss :
    (locked1 .ready 6).Locked .d1 ∧ ((locked1 .ready 6).links.get .d1).silence.isRunning = true ∧
    ((locked1 .ready 6).drops.get .d1).state = .ready ∧ (locked1 .ready 6).ShotLaw ∧
    (locked1 .warming 6).Locked .d1 ∧ ((locked1 .warming 6).drops.get .d1).state ≠ .ready ∧
    (inside1 (partT 0 []) 3).ShotLaw ∧ (inside1 (partT 0 []) 3).part 7 .d1 = some (partT 0 []) ∧
    (partT 0 []).status.isOpen = true ∧ ((inside1 (partT 0 []) 3).rx.get .d1).mode = .inside 7 :=
  ⟨rfl, rfl, rfl, shotLaw_of_empty rfl, rfl, by decide, shotLaw_of_entry rfl rfl, rfl, rfl, rfl⟩
theorem witness_sixth_beat :
    (locked1 .warming 5).Locked .d1 ∧ ((locked1 .warming 5).links.get .d1).beatRun = 5 ∧
    ((locked1 .warming 5).drops.get .d1).state = .warming ∧ (locked1 .warming 4).Locked .d1 ∧
    (let s := (locked1 .lost 5).modDrop .d1 fun r => { r with relockWindow := on }
     s.Locked .d1 ∧ (s.drops.get .d1).state = .lost ∧ (s.drops.get .d1).relockWindow.isRunning = true) :=
  ⟨rfl, rfl, rfl, rfl, rfl, rfl, rfl⟩
theorem witness_marks :
    ((hub.modLink .d1 fun l => { l with sending := some ⟨.hush, 0⟩, waiting := [⟨.unhush, 0⟩] }).links.get .d1).sending =
      some ⟨.hush, 0⟩ := by
  decide
/-- 01 R15: a trigger mark joins behind the trigger mark and before the burst of its own moment. -/
theorem witness_marks_of_a_moment :
    let b : Mark := .burst { axis := .focus, up := true, steps := 16, stopAtHome := false } 0
    let l : LinkPort :=
      { locked := true, beatRun := 6, silence := on, sending := some ⟨.trigger 7, 5⟩, waiting := [⟨b, 5⟩] }
    l.sending.toList ++ l.waiting = [⟨.trigger 7, 5⟩] ++ [⟨b, 5⟩] ∧
      l.hand 5 (.trigger 8) = { l with waiting := [⟨.trigger 8, 5⟩, ⟨b, 5⟩] } := by
  decide

/-! ## Witnesses: the cell line and the budget -/

theorem witness_note_start :
    let s := queued [⟨.presence none, [], false⟩, ⟨.trigger none 1, [], false⟩]
    s.stray = false ∧ s.cli.startWait = .stopped ∧ s.loader ≠ .loading ∧ s.cli.queue ≠ [] ∧ s.onLine = none := by
  decide
theorem witness_failed_attempt :
    let n : QNote := ⟨.presence none, List.replicate 7 .contention, true⟩
    (queued [⟨.trigger none 1, [], false⟩, n]).cli.queue = [⟨.trigger none 1, [], false⟩] ++ n :: [] ∧ n.onLine = true ∧
      (∀ m ∈ [(⟨.trigger none 1, [], false⟩ : QNote)], m.onLine = false) ∧ ¬n.failures.length < 7 := by
  decide
theorem witness_no_block :
    let n : QNote := ⟨.presence none, [], true⟩
    (lineT (.presence none)).cli.queue = [] ++ n :: [] ∧ n.onLine = true ∧ (n.body.cls = 2 ∨ n.body.cls = 3) ∧
      (4 : Station).val ≠ hub.station := by
  decide
theorem witness_presence :
    (4 : Station).val ≠ hub.station ∧ hub.stray = false ∧ hub.cli.presenceTimer.isRunning = true ∧
    (State.viewEntry { hub with view := List.replicate 15 ⟨on, 5, false⟩ } 4).present = true := by
  decide
/-- A queue of 12 with its class-3 note, or its class-2 note, in front. -/
def fullQueue (b : NoteBody) : Cli :=
  { hub.cli with queue := ⟨b, [], false⟩ :: List.replicate 11 ⟨.trigger none 1, [], false⟩ }
theorem witness_queue :
    (fullQueue (.presence none)).queue.length = 12 ∧
    (fullQueue (.presence none)).queue =
      [] ++ ⟨.presence none, [], false⟩ :: List.replicate 11 ⟨.trigger none 1, [], false⟩ ∧
    NoteBody.cls (.presence none) = 3 ∧ NoteBody.cls (.trigger none 1) < 2 ∧
    NoteBody.cls (.answer ⟨4, 1, 1, .done, .noValue⟩) = 2 ∧
    (∀ x ∈ (fullQueue (.answer ⟨4, 1, 1, .done, .noValue⟩)).queue, x.body.cls = 3 → x.onLine = true) := by
  decide
/-- 03 R57: a total that meets the cell budget is granted, one above it is void. -/
theorem witness_claim_received :
    (4 : Station).val ≠ hub.station ∧
    ((hub.view.eraseIdx 4).map ViewEntry.held).sum + hub.budget.ownHeld + 1500 + 500 ≤ 2000 ∧
    ¬((hub.view.eraseIdx 4).map ViewEntry.held).sum + hub.budget.ownHeld + 1501 + 500 ≤ 2000 := by
  decide
theorem witness_claim_echo :
    let s := (lineT (.claim .d1 500 (some 500))).modDrop .d1 fun r => { r with state := .claiming }
    let u := (lineT (.claim .d1 500 (some 2001))).modDrop .d1 fun r => { r with state := .claiming, locateHold := true }
    s.onLine = some ⟨.claim .d1 500 (some 500), [], true⟩ ∧ s.cfg = some cfgT ∧ (s.drops.get .d1).state = .claiming ∧
      (s.drops.get .d1).locateHold = false ∧ ((s.view.eraseIdx s.station).map ViewEntry.held).sum + 0 + 500 ≤ 2000 ∧
    u.onLine = some ⟨.claim .d1 500 (some 2001), [], true⟩ ∧ (u.drops.get .d1).locateHold = true ∧
      ¬((u.view.eraseIdx u.station).map ViewEntry.held).sum + 1501 + 500 ≤ 2000 := by
  decide
/-- The hub with a claim entry of D1. -/
def claims (r : RetryState) : State := { hub with budget := { hub.budget with claims := [⟨.d1, r⟩] } }
theorem witness_retries :
    (4 : Station).val ≠ hub.station ∧
    (lineT (.release .d1 500 none)).onLine = some ⟨.release .d1 500 none, [], true⟩ ∧
    (⟨.d1, .waiting on⟩ : ClaimEntry) ∈ (claims (.waiting on)).budget.claims := by
  decide
theorem witness_next_claim :
    (lineT (.claim .d1 500 none)).cli.queue.any (·.body.isClaim) = true ∧
    (∀ e ∈ (claims (.waiting on)).budget.claims, e.retry ≠ .sendable) ∧
    (claims .sendable).cli.queue.any (·.body.isClaim) = false ∧ (claims .sendable).stray = false ∧
    (claims .sendable).budget.claims = [] ++ ⟨.d1, .sendable⟩ :: [] ∧
    ((claims .sendable).drops.get .d1).locateHold = false := by
  decide

/-! ## Witnesses: triggers, shots and fragments -/

theorem witness_input :
    hub.cfg = some cfgT ∧ hub.trig.inputLevel = .low ∧ cfgT.station.qualifyUs = 0 ∧
    (let s := hub.modTrig fun u => { u with inputLevel := .qualifying, qualifyTimer := on }
     s.trig.inputLevel = .qualifying ∧ s.trig.qualifyTimer.isRunning = true) ∧
    ({ cfgT with station := { cfgT.station with qualifyUs := 1000 } } : Configuration).station.qualifyUs ≠ 0 ∧
    hub.isService 13 = true ∧ (13 : Station).val ≠ hub.station := by
  decide
theorem witness_input_reset : ∃ t, exec (.powerOnReset ⟨3, true⟩) hub = .next t := ⟨_, rfl⟩
theorem witness_trigger_note :
    (4 : Station).val ≠ hub.station ∧
    (lineT (.trigger (some 7) 1)).onLine = some ⟨.trigger (some 7) 1, [], true⟩ ∧
    (3 : Station).val = (lineT (.trigger (some 7) 1)).station := by
  decide
/-- The drops a mask involves. -/
def involvedBy (s : State) (mask : Byte) : List Drop :=
  Drop.all.filter fun d => (s.dropCfg d).enabled && mask.getLsbD (s.dropCfg d).group
theorem witness_trigger_opens :
    involvedBy hub 1 ≠ [] ∧ hub.shots.table.length < 16 ∧ (∀ e ∈ hub.shots.table, e.trigger ≠ 7) ∧
    ((in1 .ready).drops.get .d1).locateHold = false ∧ involvedBy hub 2 = [] := by
  decide
/-- A shot table of 16 entries. -/
def full16 : State :=
  { hub with shots := { hub.shots with table := (List.range 16).map fun i => entryT (BitVec.ofNat 16 i) .closed (shutPart .d1 .asleep none) } }
theorem witness_trigger_skipped :
    16 ≤ full16.shots.table.length ∧ involvedBy full16 1 ≠ [] ∧
    (∃ e ∈ (inside1 (partT 0 []) 0).shots.table, e.trigger = 7) ∧ (inside1 (partT 0 []) 0).shots.table.length < 16 := by
  decide

theorem witness_timeout :
    let s := inside1 (partT 0 []) 0
    s.ShotLaw ∧ entryT 7 .open (partT 0 []) ∈ s.shots.table ∧ (entryT 7 .open (partT 0 [])).state = .open :=
  ⟨shotLaw_of_entry rfl rfl, by decide, rfl⟩
theorem witness_open_word :
    let s := { inside1 (partT 0 []) 0 with rx := hub.rx }
    s.Locked .d1 ∧ s.ShotLaw ∧ s.shots.table = [] ++ entryT 7 .open (partT 0 []) :: [] ∧
    (entryT 7 .open (partT 0 [])).part .d1 = some (partT 0 []) ∧
    (entryT 7 .open (partT 0 [])).trigger.extractLsb' 0 8 = (0xa5070001 : Word).extractLsb' 16 8 ∧
    (∀ i, i < 8 → (s.dropCfg .d1).startMask.getLsbD i = true →
      ((0xa5070001 : Word).extractLsb' 24 8).getLsbD i = (s.dropCfg .d1).startPattern.getLsbD i) ∧
    ¬(∀ i, i < 8 → (s.dropCfg .d1).startMask.getLsbD i = true →
      ((0xa4070001 : Word).extractLsb' 24 8).getLsbD i = (s.dropCfg .d1).startPattern.getLsbD i) :=
  ⟨rfl, shotLaw_of_entry rfl rfl, rfl, rfl, by decide, by decide, by decide⟩

/-- The frame memory with its first `k` pages taken. -/
def taken (k : Nat) : FrameMemory :=
  { resetFrameMemory with freeList := List.range' k (4096 - k), freeCount := 4096 - k }

/-- A state whose chains are the first pages of the frame memory keeps the memory's law. -/
theorem memoryLaw_of {s : State} {k : Nat} (h : s.fmm = taken k) (hc : s.chained = List.range k) (hk : k ≤ 4096) :
    s.MemoryLaw := by
  have hl : s.fmm.freeList = List.range' k (4096 - k) := by rw [h]; rfl
  refine ⟨by rw [h]; rfl, by rw [h]; simp [taken], ?_, ?_, by rw [hl, hc]; simp; omega⟩
  · rw [hl, hc]
    intro p hp
    simp only [List.mem_append, List.mem_range', List.mem_range] at hp
    simp only [isPage, Config.pageCount]
    omega
  · rw [hl, hc, List.nodup_append]
    refine ⟨List.nodup_range', List.nodup_range, ?_⟩
    intro a ha b hb
    simp only [List.mem_range', List.mem_range] at ha hb
    omega

theorem witness_data_word_first :
    let s := { inside1 (partT 0 []) 4095 with fmm := taken 0 }
    s.Locked .d1 ∧ s.MemoryLaw ∧ s.ShotLaw ∧ (s.rx.get .d1).mode = .inside 7 ∧ s.part 7 .d1 = some (partT 0 []) ∧
    (s.rx.get .d1).arrived < 4096 ∧ (partT 0 []).flags.truncated = false ∧
    (partT 0 []).chain.length * 16384 ≤ (partT 0 []).words ∧ s.fmm.freeList.head? = some 0 :=
  ⟨rfl, memoryLaw_of rfl rfl (by decide), shotLaw_of_entry rfl rfl, rfl, rfl, by decide, rfl, by decide, rfl⟩
theorem witness_data_word_next :
    let s := { inside1 (partT 16383 [0]) 0 with fmm := taken 1 }
    s.Locked .d1 ∧ s.MemoryLaw ∧ s.ShotLaw ∧ s.part 7 .d1 = some (partT 16383 [0]) ∧
    ¬(partT 16383 [0]).chain.length * 16384 ≤ (partT 16383 [0]).words ∧ (partT 16383 [0]).chain.getLast? = some 0 :=
  ⟨rfl, memoryLaw_of rfl rfl (by decide), shotLaw_of_entry rfl rfl, rfl, by decide, rfl⟩
theorem witness_other_data_words :
    (locked1 .ready 9).Locked .d1 ∧ ((locked1 .ready 9).rx.get .d1).mode = .idle ∧
    (let s := (locked1 .ready 9).modRx .d1 fun r => { r with mode := .skip true }
     s.Locked .d1 ∧ (s.rx.get .d1).mode = .skip true) ∧
    (let s := inside1 (partT 0 []) 4096
     s.Locked .d1 ∧ (s.rx.get .d1).mode = .inside 7 ∧ s.part 7 .d1 = some (partT 0 []) ∧ 4096 ≤ (s.rx.get .d1).arrived) ∧
    (let s := { inside1 (partT 0 []) 4095 with fmm := { hub.fmm with freeList := [], freeCount := 0 } }
     (s.rx.get .d1).arrived < 4096 ∧ (partT 0 []).chain.length * 16384 ≤ (partT 0 []).words ∧ s.fmm.freeList = []) :=
  ⟨rfl, rfl, ⟨rfl, rfl⟩, ⟨rfl, rfl, rfl, by decide⟩, by decide, by decide, rfl⟩
theorem witness_close_word :
    let s := inside1 (partT 2 [9]) 2
    s.Locked .d1 ∧ (s.rx.get .d1).mode = .inside 7 ∧
    (∀ i, i < 8 → (s.dropCfg .d1).endMask.getLsbD i = true →
      ((0x5a000002 : Word).extractLsb' 24 8).getLsbD i = (s.dropCfg .d1).endPattern.getLsbD i) ∧
    ¬(∀ i, i < 8 → (s.dropCfg .d1).endMask.getLsbD i = true →
      ((0x5b000002 : Word).extractLsb' 24 8).getLsbD i = (s.dropCfg .d1).endPattern.getLsbD i) :=
  ⟨rfl, rfl, by decide, by decide⟩
/-- 06 R117, 09 R165: the last fragment of the one open part, with the sums of the worked score. -/
theorem witness_close_word_complete :
    let p := { partT 2 [9] with sums := some { g := 12800, n := 32, s := 3600, m := 36, carry := none } }
    let s := (inside1 p 2).modRx .d1 fun r => { r with last := true }
    s.Locked .d1 ∧ (s.rx.get .d1).mode = .inside 7 ∧ (s.rx.get .d1).last = true ∧ s.ShotLaw ∧
    entryT 7 .open p ∈ s.shots.table ∧ (entryT 7 .open p).part .d1 = some p ∧ p.status.isOpen = true ∧
    (s.dropCfg .d1).scoring = true ∧ p.flags.truncated = false ∧
    min 16777215 (12800 / 32 * (65536 / max 1 (3600 / 36)) / 256) = 1023 :=
  ⟨rfl, rfl, rfl, shotLaw_of_entry rfl rfl, List.mem_singleton.2 rfl, rfl, rfl, rfl, rfl, by decide⟩
theorem witness_close_word_shut :
    let p := { partT 2 [9] with status := .closed .timeout }
    let s := inside1 p 2
    s.Locked .d1 ∧ (s.rx.get .d1).mode = .inside 7 ∧ s.part 7 .d1 = some p ∧ p.status.isOpen = false :=
  ⟨rfl, rfl, rfl, rfl⟩
/-- 05 R89: at the hold threshold the flag is not set, one below it is. -/
theorem witness_hold :
    hub.cfg = some cfgT ∧ hub.stray = false ∧ ¬3 < cfgT.station.holdThreshold ∧ 2 < cfgT.station.holdThreshold ∧
      cfgT.station.releaseThreshold ≤ 6 := by
  decide

/-! ## Witnesses: the uplink -/

/-- The hub past its restart, with one CLOSED entry. -/
def ringT (i : Option Nat) (p : Part) : State :=
  { hub with
    shots := { hub.shots with table := [entryT 7 (if i.isSome then .sending else .closed) p] }
    uplink := { hub.uplink with restartOwed := false, pause := .none, mark := 4, place := 1, record := i } }

theorem witness_boundary :
    let s := ringT none (shutPart .d1 .asleep none)
    s.cfg = some cfgT ∧ s.uplink.record = none ∧ s.uplink.pause ≠ .restart ∧ s.uplink.restartOwed = false := by
  decide
theorem witness_slot_mark :
    let s := ringT none (shutPart .d1 .asleep none)
    s.cfg = some cfgT ∧ s.uplink.linkUp = true ∧ s.uplink.pause ≠ .restart ∧ cfgT.station.ringLength ≤ 8 ∧
      7 < cfgT.station.ringLength ∧ hub.uplink.pause = .restart ∧ hub.uplink.restartOwed = true ∧
      ({ hub.uplink with restartOwed := false } : Uplink).pause = .restart := by
  decide
/-- 07 R129: with the larger of 2 and the pause threshold free, a record begins. -/
theorem witness_record_start :
    let s := ringT none (shutPart .d1 .asleep none)
    s.cfg = some cfgT ∧ s.shots.table = entryT 7 .closed (shutPart .d1 .asleep none) :: [] ∧
      (entryT 7 .closed (shutPart .d1 .asleep none)).state = .closed ∧ s.uplink.record = none ∧ s.uplink.pause = .none ∧
      s.uplink.restartOwed = false ∧ s.uplink.linkUp = true ∧
      max 2 cfgT.station.pauseThreshold = (s.uplink.mark + 8 - s.uplink.place) % 8 := by
  decide
/-- A part of one stored word and a frame of two: place 0 is stored, place 1 is fill. -/
def sentPart : Part := { partT 1 [9] with status := .closed .complete }
theorem witness_uplink_words :
    let s := ringT (some 9) sentPart
    let e := entryT 7 .sending sentPart
    s.cfg = some cfgT ∧ s.shots.table = e :: [] ∧ s.uplink.record = some 9 ∧ s.uplink.linkUp = true ∧
      (s.recordFields e).length = 9 ∧ e.parts = [] ++ sentPart :: [] ∧ 1 < (s.dropCfg .d1).frameSize ∧
      s.dataPlace e.parts (9 - 9) = some (sentPart, 0) ∧ 0 < sentPart.words ∧ sentPart.chain.head? = some 9 ∧
      s.dataPlace e.parts (10 - 9) = some (sentPart, 1) ∧ sentPart.words ≤ 1 ∧ s.recordLength e = 11 := by
  decide
theorem witness_link :
    hub.uplink.linkUp = true ∧ hub.uplink.restartOwed = true ∧ hub.loader ≠ .loading ∧
    ({ hub.uplink with linkUp := false, record := some 0 } : Uplink).record.isSome = true := by
  decide

/-! ## Witnesses: the lens and sweeps -/

theorem witness_burst :
    let b : Burst := { axis := .focus, up := true, steps := 16, stopAtHome := false }
    let s := lens1 fun l => { l with focus := movingT }
    (s.lens.get .d1).slot = none ∧ ((s.lens.get .d1).axis .focus).Needs .focus b ∧
    (∀ other c, other ≠ .focus → ¬((s.lens.get .d1).axis other).Needs other c) := by
  refine ⟨rfl, ⟨rfl, .inr (.inr (.inr ⟨rfl, by decide⟩))⟩, ?_⟩
  intro other c ho hn
  cases other
  · exact ho rfl
  · rcases hn.2 with h | h | h | h <;> exact absurd h.1 (by decide)
theorem witness_burst_lost :
    let b : Burst := { axis := .focus, up := true, steps := 16, stopAtHome := false }
    let s := lens1 fun l => { l with focus := movingT, slot := some (b, 0), ackTimer := on }
    (s.lens.get .d1).slot = some (b, 0) ∧ (s.lens.get .d1).ackTimer.isRunning = true ∧
      (s.lens.get .d1).sweep.phase = none := by
  decide
theorem witness_sweep_ends :
    (let w := { resetSweep with phase := some .move, endOwed := some .halted }
     w.phase ≠ none ∧ w.endOwed = some .halted) ∧
    (let w := { resetSweep with phase := some .best, table := [(12, 7)] }
     w.endOwed = none ∧ w.phase = some .best ∧ ∀ e ∈ w.table, e.2 < 7 ∨ (e.2 = 7 ∧ 12 ≤ e.1)) := by
  decide
theorem witness_ack :
    let b : Burst := { axis := .focus, up := true, steps := 16, stopAtHome := false }
    let s := (locked1 .ready 6).modLens .d1 fun l => { l with focus := { movingT with position := 24 }, slot := some (b, 0) }
    s.Locked .d1 ∧ (s.lens.get .d1).slot = some (b, 0) ∧ ((s.lens.get .d1).axis .focus).mode = .moving .up ∧
      ((s.lens.get .d1).axis .focus).legGoal = some (24 + 16) :=
  ⟨rfl, rfl, rfl, rfl⟩
theorem witness_lens_requests :
    let s := lens1 fun l => { l with focus := { l.focus with homed := true }, stack := [⟨some 40, none⟩] }
    s.TakesDrop .controller (req [0, 0, 40]) .d1 ∧ (s.drops.get .d1).locateHold = false ∧
      (s.lens.get .d1).sweep.phase = none ∧ (s.drops.get .d1).state = .ready ∧ (s.lens.get .d1).focus.homed = true ∧
      (s.lens.get .d1).focus.mode = .idle ∧ (s.lens.get .d1).stack ≠ [] ∧ (s.dropCfg .d1).scoring = true :=
  ⟨takes_controller rfl rfl _, rfl, rfl, rfl, rfl, rfl, by decide, rfl⟩
theorem witness_halt :
    let s := lens1 fun l => { l with focus := movingT }
    s.TakesDrop .controller (req []) .d1 ∧ ((s.lens.get .d1).axis .focus).mode.busy = true :=
  ⟨takes_controller rfl rfl _, rfl⟩
theorem witness_point_timer :
    let w := ((lens1 fun l => { l with sweep := { l.sweep with phase := some .wait, pointTimer := on } }).lens.get .d1).sweep
    w.phase = some .wait ∧ w.pointTimer.isRunning = true := by
  decide
theorem witness_sweep_point :
    let w := { resetSweep with phase := some .wait, start := 12, pointCount := 2 }
    let p := { shutPart .d1 .complete none with focus := some 12, score := some 7 }
    w.phase = some .wait ∧ p.flags.moving = false ∧ p.focus = some (w.start + w.pointIndex * w.stride) ∧
      p.score = some 7 ∧ w.pointIndex + 1 < w.pointCount ∧ ({ w with pointIndex := 1 } : Sweep).pointCount ≤ 1 + 1 := by
  decide

/-! ## Witnesses: the Line Locator and sites -/

/-- The locator's holder view with station 4 at bundle 5. -/
def heldBy (st : Station) : List (Option Holder) := (List.replicate 15 none).set 4 (some ⟨st, 0⟩)

theorem witness_bundle :
    (4 : Station).val ≠ hub.station ∧ hub.locator.holder 5 = none ∧
    (let s := loc fun l => { l with active := some (activeT .bundle .quiet .queued) }
     s.locator.active = some (activeT .bundle .quiet .queued) ∧ (s.dropCfg .d1).bundle = 5) ∧
    ((loc fun l => { l with holders := heldBy 4 }).locator.holder 5 = some ⟨4, 0⟩) ∧
    (lineT (.locateEnd 5 .d1)).onLine = some ⟨.locateEnd 5 .d1, [], true⟩ ∧ (3 : Station).val = hub.station := by
  decide
theorem witness_locate :
    hub.TakesDrop .controller (req [7]) .d1 ∧ (∀ e ∈ hub.locator.requests, e.drop ≠ .d1) ∧
    hub.locator.active.map ActiveRequest.drop ≠ some .d1 ∧
    (let s := loc fun l => { l with requests := [⟨.d0, 0, 13⟩, ⟨.d1, 6, 13⟩] }
     s.TakesDrop .controller (req []) .d1 ∧ s.locator.requests = [⟨.d0, 0, 13⟩] ++ ⟨.d1, 6, 13⟩ :: [] ∧
       ∀ x ∈ [(⟨.d0, 0, 13⟩ : RequestEntry)] ++ [], x.drop ≠ .d1) ∧
    (∀ p t b c, let s := loc fun l => { l with active := some (activeT p t b), capture := c }
     s.TakesDrop .controller (req []) .d1 ∧ s.locator.active = some (activeT p t b) ∧ s.locator.capture = c ∧
       (activeT p t b).phase = p ∧ (activeT p t b).requester = (req []).src ∧ ∀ e ∈ s.locator.requests, e.drop ≠ .d1) :=
  ⟨takes_controller rfl rfl _, by decide, by decide, ⟨takes_controller rfl rfl _, rfl, by decide⟩,
    fun _ _ _ _ => ⟨takes_controller rfl rfl _, rfl, rfl, rfl, rfl, nofun⟩⟩
theorem witness_phases :
    (let s := loc fun l => { l with requests := [⟨.d1, 0, 13⟩] }
     s.locator.active = none ∧ s.locator.requests = ⟨.d1, 0, 13⟩ :: [] ∧ (s.drops.get .d1).state.powered = false) ∧
    (let s := (in1 .ready).modLocator fun l => { l with active := some (activeT .quiesce .quiet .none) }
     s.locator.active = some (activeT .quiesce .quiet .none) ∧ (s.drops.get .d1).state = .ready ∧
       s.dropHasOpenPart .d1 = false ∧ (s.lens.get .d1).busy = false) ∧
    (let s := (in1 .lost).modLocator fun l => { l with active := some (activeT .launch .quiet .held) }
     s.locator.active = some (activeT .launch .quiet .held) ∧ s.locator.capture = none ∧ (s.drops.get .d1).state = .lost) ∧
    (let s := loc fun l => { l with active := some (activeT .settle .quiet .held), settle := on }
     s.locator.active = some (activeT .settle .quiet .held) ∧ s.locator.settle.isRunning = true) ∧
    (let s := (in1 .ready).modLocator fun l => { l with active := some (activeT .launch .quiet .held) }
     s.locator.active = some (activeT .launch .quiet .held) ∧ s.locator.capture = none ∧ (s.drops.get .d1).state = .ready) ∧
    ((in1 .off).sweep .d1).phase = none ∧
    (let s := lens1 fun l =>
      { l with
        focus := movingT
        slot := some ({ axis := .focus, up := true, steps := 16, stopAtHome := false }, 0)
        sweep := { l.sweep with phase := some .move } }
     (s.lens.get .d1).sweep.phase ≠ none ∧ (s.lens.get .d1).focus.mode.busy = true ∧
       ((s.lens.get .d1).slot.map fun b => b.1.axis) = some .focus) := by
  decide
theorem witness_captures :
    (let s := loc fun l => { l with flashes := [⟨.d1, 0, some 7⟩] }
     s.locator.flashes = ⟨.d1, 0, some 7⟩ :: [] ∧ s.locator.capture = none ∧ s.locator.active = none) ∧
    (loc fun l => { l with capture := some (captureT .flash) }).locator.capture = some (captureT .flash) ∧
    (captureT .flash).stopOwed = false ∧ 2 ^ (captureT .flash).k ≤ (captureT .flash).shotsDone + 1 :=
  ⟨⟨rfl, rfl, rfl⟩, rfl, rfl, (by decide : 2 ^ 0 ≤ 0 + 1)⟩
/-- 06 R123: a LINK_LOST part of a CLOSED entry takes the flash's result. -/
theorem witness_break :
    let p := { partT 0 [] with status := .closed .linkLost }
    let s := { hub with shots := { hub.shots with table := [entryT 7 .closed p] } }
    s.ShotLaw ∧ entryT 7 .closed p ∈ s.shots.table ∧ (entryT 7 .closed p).trigger = 7 ∧
      (entryT 7 .closed p).part .d1 = some p ∧ (entryT 7 .closed p).state = .closed ∧ p.brk = none ∧
      hub.shots.table = [] :=
  ⟨shotLaw_of_entry rfl rfl, List.mem_singleton.2 rfl, rfl, rfl, rfl, rfl, rfl⟩
theorem witness_capture_samples : (captureT .flash).sums.length = 512 ∧ (List.replicate 512 (0 : BitVec 10)).length = 512 := by
  exact ⟨List.length_replicate, List.length_replicate⟩

/-- A table whose slots 0 and 1 hold sites 151 mm apart. -/
def tableT : SiteTable := { resetSites with slots := [some (siteT 1000), some (siteT 1151), none, none] }
theorem tableT_law : tableT.Law := by
  have hs : ∀ i v, tableT.site i = some v → (i = 0 ∧ v = siteT 1000) ∨ (i = 1 ∧ v = siteT 1151) := by
    intro i v h
    match i with
    | 0 => simp [tableT, SiteTable.site] at h; simp [h]
    | 1 => simp [tableT, SiteTable.site] at h; simp [h]
    | 2 => simp [tableT, SiteTable.site] at h
    | 3 => simp [tableT, SiteTable.site] at h
    | i + 4 => simp [tableT, SiteTable.site] at h
  refine ⟨rfl, ?_, ?_⟩
  · intro i v h; rcases hs i v h with ⟨-, rfl⟩ | ⟨-, rfl⟩ <;> decide
  · intro i j v w hij hv hw
    rcases hs i v hv with ⟨rfl, rfl⟩ | ⟨rfl, rfl⟩ <;> rcases hs j w hw with ⟨rfl, rfl⟩ | ⟨rfl, rfl⟩
    · exact absurd rfl hij
    · intro _; decide
    · intro _; decide
    · exact absurd rfl hij
/-- A record at 1,002 mm moves slot 0 to 1,001, which is 150 from slot 1: the two are combined. -/
theorem witness_sites :
    tableT.Law ∧ ReflectionKind.siteKind .open = some .open ∧ tableT.site 0 = some (siteT 1000) ∧
    tableT.site 1 = some (siteT 1151) ∧ (1000 * 1 + 1002) / (1 + 1) + 150 = 1151 ∧
    ¬(1151 ≤ 1000 + 150) ∧ ReflectionKind.siteKind .near = none ∧
    analyse workedSamples 64 660 40 ≠ none ∧ tableT.site 2 = none :=
  ⟨tableT_law, by decide, rfl, rfl, by decide, by decide, rfl, by rw [test_capture]; simp, rfl⟩

/-! ## Witnesses: requests, resets and the machine as a whole -/

/-- The hub with a controller set and a service set that hold station 13 or not. -/
def sets (controller service : Bool) : State :=
  { hub with
    cfg := some
      { cfgT with
        station :=
          { cfgT.station with
            controllerSet := if controller then 0x2000 else 0, serviceSet := if service then 0x2000 else 0 } } }
theorem witness_queries :
    hub.Takes .controller (req []) ∧ hub.TakesDrop .service (req []) .d1 ∧
    (req []).src.val ≠ hub.station ∧ ({ req [] with src := 3 } : Request).src.val = hub.station ∧ hub.station ≠ 15 ∧
    (req []).target.toNat = hub.station ∧ ({ req [] with target := 4 } : Request).target.toNat ≠ hub.station ∧
    3 < ({ req [] with drop := 4 } : Request).drop.toNat ∧
    (∀ c, (sets false true).cfg = some c → c.station.controllerSet.getLsbD 13 = false) ∧
    (∀ c, (sets true false).cfg = some c →
      c.station.controllerSet.getLsbD 13 = true ∧ c.station.serviceSet.getLsbD 13 = false) ∧
    (∀ k ∈ RequestKind.all, k.value ≠ 6) ∧ ((req [61]).args.getD 0 0).toNat = 61 ∧ (req []).drop.toNat = Drop.d1.toNat :=
  ⟨(takes_controller rfl rfl _).toTakes, takes_service rfl rfl _, by decide, by decide, by decide, by decide, by decide,
    by decide, by rintro c ⟨⟩; decide, by rintro c ⟨⟩; decide, by decide, by decide, by decide⟩

/-- A hub that is LOADING, with its number latched. -/
def loadingT : State := { State.reset with station := 3 }
/-- An image of zeros but for its length, its format number and its sum. -/
def imageT : List Byte := [0, 177, 1] ++ List.replicate 172 0 ++ [0xff, 0x4e]
theorem loadingT_budget : loadingT.BudgetLaw := by
  refine ⟨by decide, ?_, by decide, by decide, by simp [loadingT, State.reset, resetCli], by decide, ?_, ?_⟩
  · intro d; cases d <;> decide
  · intro _ d; cases d <;> decide
  · simp [loadingT, State.reset, resetCli]
theorem imageT_accepted : imageAccepted imageT := by
  refine ⟨?_, ?_, ?_⟩ <;> decide +kernel
theorem witness_loading :
    loadingT.loader = .loading ∧ loadingT.BudgetLaw ∧ imageAccepted imageT ∧ ¬imageAccepted [] ∧ loadingT.station ≠ 15 ∧
      loadingT.cli.queue.length < 8 ∧ hub.loader ≠ .loading ∧ hub.isService 13 = true ∧
      (13 : Station).val ≠ hub.station ∧ loadingT.Takes .controller (req []) ∧ loadingT.cfg = none :=
  ⟨rfl, loadingT_budget, imageT_accepted, fun h => absurd h.1 (by decide), by decide, by decide, by decide, by decide,
    by decide, ⟨by decide, by decide, by decide⟩, rfl⟩
theorem witness_step : ({ hub with pending := [.linkDown] } : State).pending = .linkDown :: [] ∧ hub.pending = [] := ⟨rfl, rfl⟩
/-- The hub with a record in progress, at the stored word of its one part. -/
def sendingT : State := { ringT (some 9) { sentPart with chain := [0] } with fmm := taken 1 }
theorem sendingT_record : sendingT.RecordLaw := by
  have hd : ∀ d, (sendingT.dropCfg d).frameSize = 2 := by intro d; cases d <;> rfl
  refine ⟨by decide, fun h => absurd h (by decide), fun d => by rw [hd]; decide, fun h => absurd h (by decide), ?_⟩
  rintro i ⟨⟩
  refine ⟨_, [], rfl, rfl, by decide, by simp, ?_⟩
  intro before p after h
  match before, after with
  | [], [] =>
    obtain rfl : _ = p := (List.cons.inj h).1
    decide
  | [], _ :: _ => simp [entryT] at h
  | _ :: _, _ => simp [entryT] at h
/-- The hub with D1 in a fragment of an open part. -/
def fragmentT : State := { inside1 (partT 1 [0]) 1 with fmm := taken 1 }
theorem fragmentT_record : fragmentT.RecordLaw := by
  refine ⟨by decide, fun h => absurd h (by decide), ?_, ?_, fun i h => nomatch (show none = some i from h)⟩
  · intro d; cases d <;> decide
  · intro _ e he
    obtain rfl := List.mem_singleton.1 (show e ∈ [entryT 7 .open (partT 1 [0])] from he)
    refine ⟨by decide, ?_⟩
    intro p hp
    obtain rfl := List.mem_singleton.1 (show p ∈ [partT 1 [0]] from hp)
    rfl
theorem witness_memory_law :
    sendingT.MemoryLaw ∧ sendingT.ShotLaw ∧ sendingT.RxLaw ∧ sendingT.RecordLaw ∧
    fragmentT.MemoryLaw ∧ fragmentT.ShotLaw ∧ fragmentT.RxLaw ∧ fragmentT.RecordLaw := by
  refine ⟨memoryLaw_of rfl rfl (by decide), shotLaw_of_entry rfl rfl, ?_, sendingT_record,
    memoryLaw_of rfl rfl (by decide), shotLaw_of_entry rfl rfl, ?_, fragmentT_record⟩
  · intro d n h; cases d <;> exact nomatch (show RxMode.idle = .inside n from h)
  · intro d n h
    cases d with
    | d1 => cases h; exact ⟨_, rfl, rfl⟩
    | _ => exact nomatch (show RxMode.idle = .inside n from h)

theorem hub_budget : hub.BudgetLaw := by
  refine ⟨by decide, ?_, by decide, by decide, by simp [hub, resetCli], by decide, by simp [hub], by simp [hub]⟩
  intro d
  cases d <;> decide
theorem witness_budget_law : hub.BudgetLaw ∧ ∃ t, step hub = .next t := ⟨hub_budget, _, rfl⟩
theorem witness_part_law : hub.PartLaw ∧ hub.BudgetLaw ∧ ∃ t, step hub = .next t := by
  refine ⟨⟨shotLaw_of_empty rfl, ?_, ?_, ?_, ?_⟩, hub_budget, _, rfl⟩
  · intro d; cases d <;> simp [hub, State.reset, resetLocator, PerDrop.const, PerDrop.get, resetDrop]
  · intro d h; cases d <;> exact absurd h (by decide)
  · intro a h; simp [hub, State.reset, resetLocator] at h
  · intro a h; simp [hub, State.reset, resetLocator] at h
theorem witness_drop_laws :
    hub.HushLaw ∧ hub.PortLaw ∧ hub.TimerLaw ∧ hub.BudgetLaw ∧ ∃ t, step hub = .next t := by
  refine ⟨?_, ?_, ?_, hub_budget, _, rfl⟩
  · intro d
    cases d <;> simp [hub, State.reset, resetLocator, Locator.quietOn, PerDrop.const, PerDrop.get, resetDrop]
  · intro d; cases d <;> decide
  · intro d; cases d <;> constructor <;> decide
theorem witness_view_and_sites : hub.ViewLaw ∧ hub.SiteLaw ∧ ∃ t, step hub = .next t := by
  refine ⟨⟨by decide, by decide, by decide, ?_⟩, ?_, _, rfl⟩
  · intro e he; simp [hub, State.reset, absentView] at he; subst he; rfl
  · have hs : ∀ i, resetSites.site i = none := by
      intro i
      match i with
      | 0 | 1 | 2 | 3 => rfl
      | i + 4 => simp [SiteTable.site, resetSites, List.getD]
    intro d
    have : hub.sites.get d = resetSites := by cases d <;> rfl
    rw [this]
    refine ⟨rfl, ?_, ?_⟩
    · intro i v h; rw [hs] at h; simp at h
    · intro i j v w _ h; rw [hs] at h; simp at h
theorem witness_frames :
    NoteKind.allows .request 8 = true ∧ NoteKind.allows .cellReset 1 = true ∧ (3 < 4) ∧ (14 < 15) := by decide

end Sys2Proof.Tests
end

/-! PROOF. What each command can change: one frame for every command, from the frames of the shared operations. -/

namespace Sys2Proof.Machine

/-! ## Frames of requests and receipts -/

section
variable {s t : State} {l m : List Block} {ds : List Drop}

/-- A frame of any drops is a frame of all of them. -/
theorem State.ChangesOnly.wide (h : s.ChangesOnly t l ds) (hl : ∀ b ∈ l, b ∈ m) : s.ChangesOnly t m Drop.all :=
  h.mono hl fun d _ => d.mem_all

theorem State.ChangesOnly.ite {c : Prop} [Decidable c] {u : State} (h : c → s.ChangesOnly t l ds)
    (k : ¬c → s.ChangesOnly u l ds) : s.ChangesOnly (if c then t else u) l ds := by
  split
  · exact h ‹_›
  · exact k ‹_›

/-- An event that either acts or changes nothing. -/
theorem State.ChangesOnly.iteRefl {c : Prop} [Decidable c] (h : s.ChangesOnly t l ds) :
    s.ChangesOnly (if c then t else s) l ds := .ite (fun _ => h) fun _ => .refl s l ds

theorem State.hear_frame (src : Station) {f : State → State} (hc : .cli ∈ l) (h : ∀ u : State, u.ChangesOnly (f u) l ds) :
    s.ChangesOnly (s.hear src f) l ds :=
  .ite (fun _ => s.ownNumber_frame.mono (by simpa using hc) (by simp))
    fun _ => (s.countHeard_frame.mono (by simpa using hc) (by simp)).trans (h _)

theorem State.takeRequest_frame (k : RequestKind) (rank : Rank) (r : Request) {f : State → State} (hc : .cli ∈ l)
    (h : ∀ u : State, u.ChangesOnly (f u) l ds) : s.ChangesOnly (s.takeRequest k rank r f) l ds :=
  State.hear_frame r.src hc fun u =>
    .ite (fun _ => .refl _ _ _) fun _ =>
      .ite (fun _ => h u) fun _ => (u.answer_frame _ _ _ _).mono (by simpa using hc) (by simp)

theorem State.takeDropRequest_frame (k : RequestKind) (rank : Rank) (r : Request) {f : Drop → State → State}
    (hc : .cli ∈ l) (h : ∀ (d : Drop) (u : State), u.ChangesOnly (f d u) l Drop.all) :
    s.ChangesOnly (s.takeDropRequest k rank r f) l Drop.all :=
  State.takeRequest_frame k rank r hc fun u => by
    split
    · exact h _ u
    · exact (u.answer_frame _ _ _ _).wide (by simpa using hc)

theorem State.takeLensRequest_frame (k : RequestKind) (r : Request) (b : Bool) {f : Drop → State → State}
    (hc : .cli ∈ l) (h : ∀ (d : Drop) (u : State), u.ChangesOnly (f d u) l Drop.all) :
    s.ChangesOnly (s.takeLensRequest k r b f) l Drop.all :=
  State.takeDropRequest_frame k _ r hc fun d u => by
    have a : ∀ c v, u.ChangesOnly (u.answer k.value r c v) l Drop.all := fun c v =>
      (u.answer_frame _ _ _ _).wide (by simpa using hc)
    exact .ite (fun _ => a _ _) fun _ => .ite (fun _ => a _ _) fun _ => .ite (fun _ => a _ _) fun _ => h d u

end

/-! ## Frames of the commands' own operations -/

section
variable (s : State)

theorem State.driveNote_frame : s.ChangesOnly s.driveNote [.cli] [] := by
  unfold State.driveNote; split
  · exact s.modCli_frame _
  · exact .refl _ _ _

theorem State.loseArbitration_frame : s.ChangesOnly s.loseArbitration [.cli] [] :=
  (s.modCli_frame _).trans (State.modCounters_frame _ _)

theorem State.abortNote_frame : s.ChangesOnly s.abortNote [.cli] [] :=
  (s.modCli_frame _).trans (State.modCounters_frame _ _)

theorem State.dropNote_frame (l : List ErrorClass) : s.ChangesOnly (s.dropNote l) [.cli] [] :=
  (s.modCli_frame _).trans (State.modCounters_frame _ _)

/-- What the end of a note on the line can change in the blocks that queue notes (02 R39). -/
def dropFields : List Block := [.cli, .trig, .budget, .drops, .locator]

theorem State.tellDropped_frame (b : NoteBody) : s.ChangesOnly (s.tellDropped b) dropFields Drop.all := by
  unfold State.tellDropped
  split
  · exact (s.modTrig_frame _).wide (by decide)
  · have h : ∀ u : State, s.ChangesOnly u [.budget] [] → s.ChangesOnly u.lookClaims dropFields Drop.all := fun u h =>
      (h.wide (by decide)).step u.lookClaims_frame (by decide) (by simp)
    refine h _ (.ite (fun _ => (s.modBudget_frame _).trans (State.waitRetry_frame _ _)) fun _ => s.modBudget_frame _)
  · exact .refl _ _ _
  · split
    · exact .iteRefl ((s.finishRequest_frame _ _).wide (by decide))
    · exact .refl _ _ _
  · rename_i b _
    have h : s.ChangesOnly (s.ownEndOver b) dropFields Drop.all := (s.ownEndOver_frame b).wide (by decide)
    exact .ite (fun _ => (h.step (State.modLocator_frame _ _) (by decide) (by simp)).step (State.holderGone_frame _ _)
      (by decide) fun _ h => h) fun _ => h
  all_goals exact .refl _ _ _

theorem State.takeTrigger_frame (n : Half) (mask : Byte) (src : Station) :
    s.ChangesOnly (s.takeTrigger n mask src) (.trig :: shotFields) Drop.all := by
  refine State.ChangesOnly.trans ?_ ((State.handTrigger_frame _ n mask src).wide (by decide))
  have h : s.ChangesOnly _ (.trig :: shotFields) Drop.all := (s.modTrig_frame (·.number n)).wide (by decide)
  exact .ite (fun _ => h.step (State.queueEvent_frame _ _) (by decide) (by simp)) fun _ => h

theorem State.triggerEcho_frame : s.ChangesOnly s.triggerEcho (.trig :: shotFields) Drop.all := by
  unfold State.triggerEcho
  split
  · exact ((s.echoed_frame.wide (by decide)).step (State.modTrig_frame _ _) (by decide) (by simp)).trans
      (State.takeTrigger_frame _ _ _ _)
  · exact .refl _ _ _

theorem State.takeEdge_frame : s.ChangesOnly s.takeEdge [.trig, .cli] [] := by
  unfold State.takeEdge
  split
  · exact .refl _ _ _
  · refine .ite (fun _ => .refl _ _ _) fun _ => ?_
    have h : s.ChangesOnly _ [.trig, .cli] [] :=
      (s.modTrig_frame fun u => { u with edgeCount := bumpLong u.edgeCount }).mono (by decide) (by simp)
    exact .ite (fun _ => h.step (State.modTrig_frame _ _) (by decide) (by simp)) fun _ =>
      (h.step (State.queueNote_frame _ _) (by decide) (by simp)).step (State.modTrig_frame _ _) (by decide) (by simp)

theorem State.riseSeen_frame : s.ChangesOnly s.riseSeen [.draws, .trig, .cli] [] := by
  have h : s.ChangesOnly (match s.cfg with | some _ => s | none => { s with draws := s.draws + 1 })
      [.draws, .trig, .cli] [] := by
    split
    · exact .refl _ _ _
    · exact ⟨fun b hb => by cases b <;> first | rfl | exact absurd (by decide) hb, fun _ _ => ⟨rfl, rfl, rfl, rfl, rfl⟩⟩
  unfold State.riseSeen
  exact .ite (fun _ => (h.step (State.modTrig_frame _ _) (by decide) (by simp)).step (State.takeEdge_frame _) (by decide)
    (by simp)) fun _ => h.step (State.modTrig_frame _ _) (by decide) (by simp)

theorem State.drawIfUnloaded_frame : s.ChangesOnly s.drawIfUnloaded [.draws] [] := by
  unfold State.drawIfUnloaded
  split
  · exact .refl _ _ _
  · exact ⟨fun b hb => by cases b <;> first | rfl | exact absurd (by decide) hb, fun _ _ => ⟨rfl, rfl, rfl, rfl, rfl⟩⟩

theorem State.enterRamping_frame (d : Drop) : s.ChangesOnly (s.enterRamping d) [.drops] [d] := s.modDrop_frame d _

/-- What the verdict on the own claim can change (03 R61). -/
theorem State.applyVerdict_frame (d : Drop) (amount total : Nat) :
    s.ChangesOnly (s.applyVerdict d amount total) [.cli, .budget, .drops] [d] := by
  have hb : ∀ f, s.ChangesOnly (s.modBudget f) [.cli, .budget, .drops] [d] := fun f =>
    (s.modBudget_frame f).mono (by decide) (by simp)
  refine .ite (fun _ => .ite (fun _ => ?_) fun _ => ?_) fun _ => .ite (fun _ => ?_) fun _ => hb _
  · exact ((hb _).step (State.leaveClaims_frame _ d) (by decide) (by simp)).step (State.enterRamping_frame _ d)
      (by decide) (by simp)
  · exact ((s.queueRelease_frame d).mono (by decide) (by simp)).step (State.modBudget_frame _ _) (by decide) (by simp)
  · exact (hb _).step (State.waitRetry_frame _ d) (by decide) (by simp)

theorem State.loseBurst_frame (d : Drop) (b : Burst) : s.ChangesOnly (s.loseBurst d b) [.lens, .cli] [d] :=
  ((s.modLens_frame d _).trans (State.modAxis_frame _ d _ _)).mono (by decide) (by simp) |>.trans
    (State.axisLeft_frame _ d _ _)

theorem State.applyAck_frame (d : Drop) (b : Burst) (a : LensAck) : s.ChangesOnly (s.applyAck d b a) [.lens, .cli] [d] := by
  have hl : ∀ (u : State) f, u.ChangesOnly (u.modLens d f) [.lens, .cli] [d] := fun u f =>
    (u.modLens_frame d f).mono (by decide) (by simp)
  unfold State.applyAck
  simp only
  split
  · exact hl s _
  · exact hl s _
  · exact ((hl s _).trans (hl _ _)).trans (State.axisLeft_frame _ d _ _)

theorem State.takeAck_frame (d : Drop) (a : LensAck) : s.ChangesOnly (s.takeAck d a) [.lens, .cli] [d] := by
  have hl : ∀ (u : State) f, u.ChangesOnly (u.modLens d f) [.lens, .cli] [d] := fun u f =>
    (u.modLens_frame d f).mono (by decide) (by simp)
  unfold State.takeAck
  split
  · exact hl s _
  · exact (hl s _).trans (State.applyAck_frame _ d _ a)

theorem State.markStarts_frame (d : Drop) (m : Mark) : s.ChangesOnly (s.markStarts d m) [.lens, .locator] [d] := by
  unfold State.markStarts
  split
  · exact .refl _ _ _
  · exact .refl _ _ _
  · split
    · exact .iteRefl ((s.modLocator_frame _).mono (by decide) (by simp))
    · exact .refl _ _ _
  · split
    · exact .iteRefl ((s.modLens_frame d _).mono (by decide) (by simp))
    · exact .refl _ _ _

theorem State.startHoming_frame (d : Drop) (axes : List Axis) : s.ChangesOnly (s.startHoming d axes) [.lens] [d] := by
  cases axes with
  | nil => exact .refl _ _ _
  | cons ax rest =>
    exact (s.modAxis_frame d ax _).trans (.foldl (fun u a => u.modAxis_frame d a _) rest _)

theorem State.moveDrop_frame (k : RequestKind) (r : Request) (d : Drop) (ax : Axis) (n : Int) (v : Bool) :
    s.ChangesOnly (s.moveDrop k r d ax n v) [.lens, .cli] Drop.all := by
  have ans : ∀ (u : State) c a, u.ChangesOnly (u.answer k.value r c a) [.lens, .cli] Drop.all := fun u c a =>
    (u.answer_frame _ r c a).wide (by decide)
  exact .ite (fun _ => ans s _ _) fun _ => .ite (fun _ => ans s _ _) fun _ => .ite (fun _ => ans s _ _) fun _ =>
    .ite (fun _ => ans s _ _) fun _ => ((s.modAxis_frame d ax _).wide (by decide)).trans (ans _ _ _)

theorem State.popDrop_frame (r : Request) (d : Drop) : s.ChangesOnly (s.popDrop r d) [.lens, .cli] Drop.all := by
  have ans : ∀ (u : State) k c a, u.ChangesOnly (u.answer k r c a) [.lens, .cli] Drop.all := fun u k c a =>
    (u.answer_frame k r c a).wide (by decide)
  refine .ite (fun _ => ans s _ _ _) fun _ => .ite (fun _ => ans s _ _ _) fun _ => ?_
  split
  · exact ans s _ _ _
  · exact .ite (fun _ => ans s _ _ _) fun _ => ((s.modLens_frame d _).wide (by decide)).trans (ans _ _ _ _)

theorem State.sweepDrop_frame (r : Request) (d : Drop) : s.ChangesOnly (s.sweepDrop r d) [.lens, .cli] Drop.all := by
  have ans : ∀ (u : State) k c a, u.ChangesOnly (u.answer k r c a) [.lens, .cli] Drop.all := fun u k c a =>
    (u.answer_frame k r c a).wide (by decide)
  exact .ite (fun _ => ans s _ _ _) fun _ => .ite (fun _ => ans s _ _ _) fun _ => .ite (fun _ => ans s _ _ _) fun _ =>
    .ite (fun _ => ans s _ _ _) fun _ => (((s.modSweep_frame d _).trans (State.beginPoint_frame _ d)).wide (by decide)).trans
      (ans _ _ _ _)

theorem State.haltLens_frame (d : Drop) : s.ChangesOnly (s.haltLens d) [.lens, .cli] [d] :=
  (State.ChangesOnly.ite (fun _ => s.stopSweep_frame d _) fun _ => s.haltAxis_frame d _).trans (State.haltAxis_frame _ d _)

/-- What a fragment's words can change at a drop's context and its part (05 R95 to R99). -/
def wordFields : List Block := [.rx, .shots]

theorem State.bindFragment_frame (d : Drop) (t : Half) (w : Word) : s.ChangesOnly (s.bindFragment d t w) [.rx, .shots] [d] := by
  unfold State.bindFragment
  exact ((s.modPart_frame t d _).mono (by decide) (by simp)).step (State.modRx_frame _ d _) (by decide) (by simp)

theorem State.startFragment_frame (d : Drop) (w : Word) : s.ChangesOnly (s.startFragment d w) wordFields [d] := by
  have hr : ∀ f, s.ChangesOnly (s.modRx d f) wordFields [d] := fun f => (s.modRx_frame d f).mono (by decide) (by simp)
  unfold State.startFragment
  refine .ite (fun _ => hr _) fun _ => ?_
  split
  · exact (s.bindFragment_frame d _ w).mono (by decide) (by simp)
  · exact .ite (fun _ => hr _) fun _ => hr _

theorem State.lengthError_frame (d : Drop) (t : Half) : s.ChangesOnly (s.lengthError d t) [.rx, .shots] [d] :=
  ((s.flagPart_frame t d _).mono (by decide) (by simp)).step (State.modRx_frame _ d _) (by decide) (by simp)

/-- What the closing of a fragment can change (05 R99, 06 R121). -/
def closeFields : List Block := [.shots, .rx, .lens, .cli, .uplink]

theorem State.endWord_frame (d : Drop) (t : Half) (w : Word) : s.ChangesOnly (s.endWord d t w) closeFields [d] := by
  have he : s.ChangesOnly (s.lengthError d t) closeFields [d] := (s.lengthError_frame d t).mono (by decide) (by simp)
  refine .ite (fun _ => he.step (State.modRx_frame _ d _) (by decide) (by simp)) fun _ => ?_
  have hi : s.ChangesOnly ((if endCount w ≠ (s.rx.get d).arrived then s.lengthError d t else s).modRx d Receiver.toIdle)
      closeFields [d] :=
    (State.ChangesOnly.iteRefl he).step (State.modRx_frame _ d _) (by decide) (by simp)
  exact .ite (fun _ => hi.step (State.closePart_frame _ t d _) (by decide) (by simp)) fun _ => hi

theorem State.closeAt_frame (d : Drop) (w : Word) : s.ChangesOnly (s.closeAt d w) closeFields [d] := by
  unfold State.closeAt
  split
  · exact (s.modRx_frame d _).mono (by decide) (by simp)
  · exact (s.modRx_frame d _).mono (by decide) (by simp)
  · exact s.endWord_frame d _ w

/-- What a payload word can change (05 R97, R98; 05 R89). -/
def payloadFields : List Block := [.rx, .shots, .fmm, .cli]

variable {s} {t : State}

theorem State.storeWord_frame {d : Drop} {n : Half} {page words : Nat} {w : Word}
    (h : s.storeWord d n page words w = .next t) : s.ChangesOnly t payloadFields [d] := by
  unfold State.storeWord at h
  simp only at h
  split at h
  · cases h
    exact ((s.modFmm_frame _).mono (by decide) (by simp)).step (State.modPart_frame _ n d _) (by decide) (by simp)
  · cases h

theorem State.payloadWord_frame {d : Drop} {n : Half} {p : Part} {k : Nat} {w : Word}
    (h : s.payloadWord d n p k w = .next t) : s.ChangesOnly t payloadFields [d] := by
  have lose : ∀ u : State, u.ChangesOnly (u.loseWord d n) payloadFields [d] := fun u =>
    ((u.modPart_frame n d _).mono (by decide) (by simp)).step (State.modRx_frame _ d _) (by decide) (by simp)
  have take : s.ChangesOnly s.takePage.2 payloadFields [d] := s.takePage_frame.mono (by decide) (by simp)
  unfold State.payloadWord at h
  split at h
  · cases h
    exact ((s.flagPart_frame n d _).mono (by decide) (by simp)).step (State.modRx_frame _ d _) (by decide) (by simp)
  · split at h
    · cases h; exact lose s
    · split at h
      · split at h
        · rename_i page u hp
          rw [hp] at take
          exact (take.step (State.modPart_frame _ n d _) (by decide) (by simp)).trans (State.storeWord_frame h)
        · rename_i u hp
          rw [hp] at take
          cases h
          exact take.trans (lose u)
      · exact State.storeWord_frame h

theorem State.dataAt_frame {d : Drop} {w : Word} (h : s.dataAt d w = .next t) : s.ChangesOnly t payloadFields [d] := by
  have rx : ∀ f, s.ChangesOnly (s.modRx d f) payloadFields [d] := fun f => (s.modRx_frame d f).mono (by decide) (by simp)
  unfold State.dataAt at h
  split at h
  · cases h; exact rx _
  · cases h; exact .refl _ _ _
  · simp only at h
    split at h
    · exact (rx _).trans (State.payloadWord_frame h)
    · cases h; exact rx _

/-- What the sending of a record's word can change (07 R132 to R134). -/
def sendFields : List Block := [.shots, .uplink, .fmm, .cli]

theorem State.sendWord_frame {fill : Word} {r : RecordWord} (h : s.sendWord fill r = .next t) :
    s.ChangesOnly t sendFields [] := by
  have sent : ∀ w, s.ChangesOnly (s.sent w) sendFields [] := fun w => (s.modUplink_frame _).mono (by decide) (by simp)
  unfold State.sendWord at h
  split at h
  · cases h; exact sent _
  · cases h; exact (sent _).step (State.modUplink_frame _ _) (by decide) (by simp)
  · simp only at h
    split at h
    · cases h
      exact ((sent _).step (State.modShots_frame _ _) (by decide) (by simp)).step (State.returnPages_frame _ _) (by decide)
        (by simp)
    · cases h

theorem State.afterWord_frame (s : State) (i n : Nat) : s.ChangesOnly (s.afterWord i n) sendFields [] := by
  refine .ite (fun _ => (s.modUplink_frame _).mono (by decide) (by simp)) fun _ => ?_
  exact (((s.modShots_frame _).mono (by decide) (by simp)).step (State.modUplink_frame _ _) (by decide) (by simp)).step
    (State.boundaryDecision_frame _) (by decide) (by simp)

end

/-! ## Frames of the drops' and the locator's own operations -/

section
variable (s : State)

/-- What a turned-off drop can change (01 R26): what a power-down can. -/
theorem State.turnOff_frame (d : Drop) : s.ChangesOnly (s.turnOff d) powerFields [d] := by
  have off : ∀ u : State, u.ChangesOnly (u.settleOff d) powerFields [d] := fun u =>
    ((u.modDrop_frame d _).mono (by decide) (by simp)).step (State.clearHomed_frame _ d) (by decide) (by simp)
  unfold State.turnOff
  split
  · exact .refl _ _ _
  · exact ((s.leaveClaims_frame d).mono (by decide) (by simp)).trans (off _)
  iterate 3 exact off s
  all_goals exact (s.powerDown_frame d _).step (State.modDrop_frame _ d _) (by decide) (by simp)

theorem State.readyLost_frame (d : Drop) (o : LossOrder) :
    s.ChangesOnly (s.readyLost d o) [.drops, .rx, .shots, .lens, .cli, .uplink, .locator] [d] := by
  have close : ∀ u : State, u.ChangesOnly (u.closeLost d o) [.drops, .rx, .shots, .lens, .cli, .uplink, .locator] [d] := by
    intro u
    have c : ∀ v : State, v.ChangesOnly (v.closeOpenParts d .linkLost) [.drops, .rx, .shots, .lens, .cli, .uplink, .locator] [d] :=
      fun v => (v.closeOpenParts_frame d _).mono (by decide) (by simp)
    have e : ∀ v : State, v.ChangesOnly (v.endFragment d) [.drops, .rx, .shots, .lens, .cli, .uplink, .locator] [d] :=
      fun v => (v.endFragment_frame d).mono (by decide) (by simp)
    cases o
    · exact (e u).trans (c _)
    · exact (c u).trans (e _)
  exact ((((s.modDrop_frame d _).mono (by decide) (by simp)).trans (close _)).step (State.requestFlash_frame _ d) (by decide)
    (by simp)).step (State.lensLeaveReady_frame _ d) (by decide) (by simp)

/-- What a loss of lock can change (01 R17). -/
def lossFields : List Block := [.drops, .links, .rx, .shots, .lens, .cli, .uplink, .locator]

theorem State.loseLock_frame (d : Drop) (o : LossOrder) : s.ChangesOnly (s.loseLock d o) lossFields [d] := by
  have h : s.ChangesOnly (s.modLink d LinkPort.unlock) lossFields [d] := (s.modLink_frame d _).mono (by decide) (by simp)
  exact .ite (fun _ => h.step (State.readyLost_frame _ d o) (by decide) (by simp)) fun _ =>
    h.step (State.endFragment_frame _ d) (by decide) (by simp)

theorem State.beatSeen_frame (d : Drop) : s.ChangesOnly (s.beatSeen d) [.drops, .shots, .cli] [d] := by
  unfold State.beatSeen
  refine .iteRefl (.ite (fun _ => s.enterReady_frame d) fun _ => .iteRefl ?_)
  exact ((s.modDrop_frame d _).mono (by decide) (by simp)).trans (State.enterReady_frame _ d)

theorem State.endCapture_frame (c : Capture) (o : LocateOutcome) (r : Option Reflection) :
    s.ChangesOnly (s.endCapture c o r) [.locator, .drops, .links, .cli] Drop.all := by
  have h : s.ChangesOnly ((s.modLocator fun l => { l with capture := none, settle := .stopped }).unhush c.drop)
      [.locator, .drops, .links, .cli] Drop.all :=
    ((s.modLocator_frame _).wide (by decide)).step (State.unhush_frame _ _) (by decide) (by simp [Drop.mem_all])
  refine State.ChangesOnly.step ?_ (State.reportLocate_frame _ _ _ _ _ _) (by decide) (by simp)
  split
  · exact h
  iterate 2 exact h.step (State.endRequest_frame _ _) (by decide) (by simp [Drop.mem_all])
  · exact h

theorem State.haltActive_frame (a : ActiveRequest) :
    s.ChangesOnly (s.haltActive a).1 [.locator, .drops, .links, .cli] Drop.all := by
  have fin : ∀ u : State, u.ChangesOnly (u.finishRequest a .halted) [.locator, .drops, .links, .cli] Drop.all :=
    fun u => (u.finishRequest_frame a _).wide (by decide)
  have wd : s.ChangesOnly (s.withdrawStart a) [.locator, .drops, .links, .cli] Drop.all :=
    .iteRefl ((s.withdraw_frame _).wide (by decide))
  unfold State.haltActive
  split
  iterate 3 exact wd.trans (fin _)
  · split
    · exact s.endCapture_frame _ _ _
    · exact fin s
  · dsimp only
    exact (s.modLocator_frame _).wide (by decide)

theorem State.locateHaltDrop_frame (r : Request) (d : Drop) :
    s.ChangesOnly (s.locateHaltDrop r d) [.locator, .drops, .links, .cli] Drop.all := by
  have ans : ∀ (u : State) k c v, u.ChangesOnly (u.answer k r c v) [.locator, .drops, .links, .cli] Drop.all :=
    fun u k c v => (u.answer_frame k r c v).wide (by decide)
  have count : s.ChangesOnly s.countHalt [.locator, .drops, .links, .cli] Drop.all := (s.modLocator_frame _).wide (by decide)
  unfold State.locateHaltDrop
  simp only
  split
  · exact ans s _ _ _
  · refine .ite (fun _ => State.ChangesOnly.trans ?_ (ans _ _ _ _)) fun _ => ans s _ _ _
    exact (count.step (State.modLocator_frame _ _) (by decide) (by simp)).step (State.reportLocate_frame _ _ _ _ _ _)
      (by decide) (by simp)
  · exact .ite (fun _ => (count.trans (State.haltActive_frame _ _)).trans (ans _ _ _ _)) fun _ => ans s _ _ _

theorem State.ownStart_frame (st : Station) (b : Nat) : s.ChangesOnly (s.ownStart st b) [.locator] [] := by
  unfold State.ownStart
  simp only
  split
  · exact .ite (fun _ => (s.startHeard_frame st b).trans (State.modActive_frame _ _)) fun _ => s.startHeard_frame st b
  · exact s.startHeard_frame st b

theorem State.startEcho_frame : s.ChangesOnly s.startEcho requestFields Drop.all := by
  unfold State.startEcho
  split
  · exact (s.echoed_frame.wide (by decide)).step (State.ownStart_frame _ _ _) (by decide) (by simp)
  · exact .refl _ _ _

theorem State.endEcho_frame : s.ChangesOnly s.endEcho requestFields Drop.all := by
  unfold State.endEcho
  split
  · exact ((s.echoed_frame.wide (by decide)).step (State.ownEndOver_frame _ _) (by decide) (by simp)).trans
      (State.endHeard_frame _ _ _)
  · exact .refl _ _ _

theorem State.activate_frame (e : RequestEntry) (rest : List RequestEntry) :
    s.ChangesOnly (s.activate e rest) [.locator, .drops, .lens, .cli] Drop.all := by
  have h : ∀ f, s.ChangesOnly ((s.modLocator f).setHold e.drop) [.locator, .drops, .lens, .cli] Drop.all := fun f =>
    ((s.modLocator_frame _).wide (by decide)).step (State.setHold_frame _ _) (by decide) (by simp [Drop.mem_all])
  exact .ite (fun _ => h _) fun _ => (h _).step (State.enterBundle_frame _ _ _) (by decide) (by simp [Drop.mem_all])

theorem State.launch_frame (a : ActiveRequest) :
    s.ChangesOnly (s.launch a) [.locator, .drops, .links, .lens, .cli] Drop.all := by
  refine .ite (fun _ => ?_) fun _ => .ite (fun _ => ?_) fun _ => .iteRefl ?_
  · exact (s.modLocator_frame _).wide (by decide)
  · exact ((s.hush_frame _).wide (by decide)).step (State.modLocator_frame _ _) (by decide) (by simp)
  · exact ((s.queueLocateEnd_frame a).wide (by decide)).step (State.modActive_frame _ _) (by decide) (by simp)

/-- What the end of a capture can change, its record with it (10 R184, 11 R194). -/
def captureFields : List Block := [.locator, .drops, .links, .cli, .sites, .shots]

theorem State.finishCapture_frame (c : Capture) : s.ChangesOnly (s.finishCapture c) captureFields Drop.all := by
  have count : ∀ f, s.ChangesOnly (s.modLocator f) captureFields Drop.all := fun f => (s.modLocator_frame f).wide (by decide)
  unfold State.finishCapture
  simp only
  split
  · exact (count _).step (State.endCapture_frame _ _ _ _) (by decide) fun _ h => h
  · exact ((count _).step (State.makeRecord_frame _ _ _) (by decide) (by simp [Drop.mem_all])).step
      (State.endCapture_frame _ _ _ _) (by decide) fun _ h => h

theorem State.shotDone_frame (c : Capture) : s.ChangesOnly (s.shotDone c) captureFields Drop.all :=
  .ite (fun _ => (s.endCapture_frame _ _ _).wide (by decide)) fun _ =>
    .ite (fun _ => s.finishCapture_frame c) fun _ => (s.modLocator_frame _).wide (by decide)

end

/-! ## The frame of every command -/

/-- What a reset can change: everything but the time and the queue of commands (01 R1, 12 R208). -/
def resetFields : List Block :=
  [.draws, .pins, .station, .loader, .clampedFields, .resetsRefused, .cfg, .drops, .links, .cli, .view, .budget, .trig,
    .fmm, .rx, .shots, .uplink, .lens, .locator, .sites]

/-- What the end of loading can change (12 R206, R207; 01 R30). -/
def loadFields : List Block := [.loader, .cfg, .clampedFields, .drops, .lens, .budget, .cli]

/-- The fields of the state that a command can change. -/
def touchedBy : Instr → List Block
  | .powerOnReset _ | .cellReset _ _ _ => resetFields
  | .loadEnd _ => loadFields
  | .startupWaitEnd | .noteStart | .arbitrationLoss | .noteEcho | .noteDiscarded _ | .ownNumberHeard | .noteHeard _
  | .presenceTimerExpiry | .queryLens _ | .querySweep _ | .querySites _ | .unknownRequestKind _ _ => [.cli]
  | .sendError _ => dropFields
  | .triggerNote _ => .trig :: shotFields
  | .claimReceived _ _ | .presenceReceived _ _ => [.cli, .view]
  | .claimEcho => [.cli, .budget, .drops]
  | .releaseReceived _ _ => [.cli, .view, .budget]
  | .releaseEcho | .retryTimerExpiry _ => [.cli, .budget]
  | .locateStartNote _ | .locateEndNote _ | .holderExpiry _ | .quiesceEnd => requestFields
  | .viewAgeExpiry _ => [.view]
  | .powerOn _ | .wake _ | .backoffExpiry _ => claimFields
  | .powerOff _ | .rampWindowExpiry _ | .currentAboveSteady _ _ | .currentBelowSteady _ _ | .steadyTripExpiry _
  | .hardTrip _ | .napTimerExpiry _ | .warmTimerExpiry _ | .relockWindowExpiry _ => powerFields
  | .clear _ => [.drops, .lens, .cli]
  | .queryDrop _ | .queryStation _ => [.draws, .cli]
  | .powerGood _ => [.drops, .links]
  | .stableTimerExpiry _ => [.drops]
  | .lockGain _ => [.links]
  | .lockLoss _ _ | .lockTimeout _ _ => lossFields
  | .beat _ => [.drops, .links, .rx, .shots, .cli]
  | .openWord _ _ => .links :: wordFields
  | .dataWord _ _ => .links :: payloadFields
  | .closeWord _ _ => .links :: closeFields
  | .shotTimeout _ => [.shots, .rx, .lens, .cli, .uplink]
  | .lensAck _ _ => [.links, .lens, .cli]
  | .burstHandover _ => [.links, .lens]
  | .markSent _ => [.links, .lens, .locator]
  | .ackTimerExpiry _ | .lensHome _ | .lensMove _ | .lensNudge _ | .lensHalt _ | .lensPush _ | .lensPop _ | .lensSweep _
  | .pointTimerExpiry _ => [.lens, .cli]
  | .triggerInputRise => [.draws, .trig, .cli]
  | .triggerInputFall => [.trig]
  | .qualifyTimerExpiry => [.trig, .cli]
  | .slotMark _ | .linkDown | .linkUp | .restartSend => [.uplink]
  | .recordStart => [.shots, .uplink]
  | .uplinkWordSent => sendFields
  | .locate _ => [.locator, .cli]
  | .locateHalt _ => [.locator, .drops, .links, .cli]
  | .flashStart | .flashStale _ | .settleEnd => [.locator]
  | .requestActivate => [.locator, .drops, .lens, .cli]
  | .launchStart => [.locator, .drops, .links, .lens, .cli]
  | .shotComplete _ => captureFields
  | .clearSites _ => [.sites, .cli]

section
variable {s t : State}

theorem State.ChangesOnly.of_next {u : State} {l m : List Block} {ds : List Drop}
    (k : (.next u : Host.Outcome State Fault Refusal) = .next t) (h : s.ChangesOnly u l ds) (hl : ∀ b ∈ l, b ∈ m) :
    s.ChangesOnly t m Drop.all := by
  cases k; exact h.wide hl

theorem State.resetAll_frame (s : State) (pins : Pins) :
    s.ChangesOnly (s.resetAll pins) resetFields Drop.all where
  fields b hb := by cases b <;> first | rfl | exact absurd (by decide) hb
  drops d hd := absurd d.mem_all hd

theorem State.cellReset_frame (s : State) (pins : Pins) :
    s.ChangesOnly (s.cellReset pins) resetFields Drop.all where
  fields b hb := by cases b <;> first | rfl | exact absurd (by decide) hb
  drops d hd := absurd d.mem_all hd

theorem State.load_frame (s : State) (read : EepromRead) : s.ChangesOnly (s.load read) [.loader, .cfg, .clampedFields] [] := by
  unfold State.load
  split <;>
    exact ⟨fun b hb => by cases b <;> first | rfl | exact absurd (by decide) hb, fun _ _ => ⟨rfl, rfl, rfl, rfl, rfl⟩⟩

theorem State.autoPower_frame (s : State) (d : Drop) : s.ChangesOnly (s.autoPower d) claimFields [d] :=
  .iteRefl (s.turnOn_frame d)

/-- A command changes nothing but the fields it touches. -/
theorem exec_frame (c : Instr) (h : exec c s = .next t) : s.ChangesOnly t (touchedBy c) Drop.all := by
  cases c with
  | powerOnReset pins => exact .of_next h (s.resetAll_frame pins) fun _ h => h
  | cellReset src target pins =>
    refine .of_next h (State.hear_frame (l := resetFields) (ds := Drop.all) src (by decide) fun u => ?_) fun _ h => h
    exact .iteRefl (.ite (fun _ => u.cellReset_frame pins) fun _ =>
      ⟨fun b hb => by cases b <;> first | rfl | exact absurd (by decide) hb, fun _ _ => ⟨rfl, rfl, rfl, rfl, rfl⟩⟩)
  | loadEnd read =>
    refine .of_next (l := loadFields) (ds := Drop.all) h (.iteRefl ?_) fun _ h => h
    exact (((s.load_frame read).wide (by decide)).step (State.announce_frame _) (by decide) (by simp)).trans
      (.foldl (fun u d => (u.autoPower_frame d).wide (by decide)) _ _)
  | startupWaitEnd => exact .of_next h (.ite (fun _ => .refl _ _ _) fun _ => s.modCli_frame _) (by decide)
  | noteStart => exact .of_next h (.iteRefl ((s.modCli_frame _).trans (State.driveNote_frame _))) (by decide)
  | arbitrationLoss => exact .of_next h (.iteRefl s.loseArbitration_frame) (by decide)
  | sendError e =>
    refine .of_next (l := dropFields) (ds := Drop.all) h ?_ fun _ h => h
    split
    · exact .refl s _ Drop.all
    · exact .ite (fun _ => s.loseArbitration_frame.wide (by decide)) fun _ =>
        .ite (fun _ => (s.abortNote_frame.wide (by decide)).step (State.modCli_frame _ _) (by decide) (by simp)) fun _ =>
          ((s.abortNote_frame.wide (by decide)).step (State.dropNote_frame _ _) (by decide) (by simp)).trans
            (State.tellDropped_frame _ _)
  | noteEcho =>
    refine .of_next (l := [.cli]) (ds := []) h ?_ (by decide)
    split
    · exact .iteRefl s.echoed_frame
    · exact .refl _ _ _
  | noteDiscarded f => exact .of_next h (s.modCounters_frame _) fun _ h => h
  | ownNumberHeard => exact .of_next h s.ownNumber_frame (by decide)
  | noteHeard src => exact .of_next h (State.hear_frame (l := [.cli]) (ds := []) src (by decide) fun u => .refl u _ _) fun _ h => h
  | triggerNote note =>
    refine .of_next (l := .trig :: shotFields) (ds := Drop.all) h ?_ fun _ h => h
    split
    · exact State.hear_frame _ (by decide) fun u => u.takeTrigger_frame _ _ _
    · exact s.triggerEcho_frame
  | claimReceived src n =>
    exact .of_next h (State.hear_frame (l := [.cli, .view]) (ds := []) src (by decide) fun u =>
      (u.refreshView_frame _ _).mono (by decide) (by simp)) fun _ h => h
  | claimEcho =>
    refine .of_next (l := [.cli, .budget, .drops]) (ds := Drop.all) h ?_ (by decide)
    split
    · exact ((s.echoed_frame.wide (by decide)).step (State.applyVerdict_frame _ _ _ _) (by decide) (by simp [Drop.mem_all])).step
        (State.lookClaims_frame _) (by decide) (by simp)
    · exact .refl _ _ _
  | releaseReceived src n =>
    exact .of_next h (State.hear_frame (l := [.cli, .view, .budget]) (ds := []) src (by decide) fun u =>
      ((u.refreshView_frame _ _).mono (by decide) (by simp)).step (State.releaseHeard_frame _) (by decide) (by simp))
      fun _ h => h
  | releaseEcho =>
    refine .of_next (l := [.cli, .budget]) (ds := []) h ?_ (by decide)
    split
    · exact (s.echoed_frame.mono (by decide) (by simp)).step (State.releaseHeard_frame _) (by decide) (by simp)
    · exact .refl _ _ _
  | presenceReceived src p =>
    exact .of_next h (State.hear_frame (l := [.cli, .view]) (ds := []) src (by decide) fun u =>
      ((u.refreshView_frame _ _).mono (by decide) (by simp)).step (State.setView_frame _ _ _) (by decide) (by simp))
      fun _ h => h
  | locateStartNote note =>
    refine .of_next (l := requestFields) (ds := Drop.all) h ?_ fun _ h => h
    split
    · exact State.hear_frame _ (by decide) fun u =>
        ((u.startHeard_frame _ _).wide (by decide)).trans (State.rivalStart_frame _ _)
    · exact s.startEcho_frame
  | locateEndNote note =>
    refine .of_next (l := requestFields) (ds := Drop.all) h ?_ fun _ h => h
    split
    · exact State.hear_frame _ (by decide) fun u => u.endHeard_frame _ _
    · exact s.endEcho_frame
  | presenceTimerExpiry => exact .of_next h (.iteRefl s.announce_frame) (by decide)
  | viewAgeExpiry st => exact .of_next h (.iteRefl (s.setView_frame st _)) fun _ h => h
  | retryTimerExpiry d =>
    exact .of_next h (.iteRefl (((s.setRetry_frame d _).mono (m := [.cli, .budget]) (by decide) (fun _ h => h)).step
      (State.lookClaims_frame _) (by decide) (by simp))) fun _ h => h
  | powerOn r =>
    refine .of_next h (State.takeDropRequest_frame (l := claimFields) _ _ r (by decide) fun d u => ?_) fun _ h => h
    have ans : ∀ (v : State) c, v.ChangesOnly (v.answerDrop .powerOn r d c) claimFields Drop.all := fun v c =>
      (v.answer_frame _ _ _ _).wide (by decide)
    refine .ite (fun _ => ans u _) fun _ => ?_
    split
    · exact ((u.turnOn_frame d).wide (by decide)).trans (ans _ _)
    · exact ans u _
    all_goals exact ans u _
  | powerOff r =>
    refine .of_next h (State.takeDropRequest_frame (l := powerFields) _ _ r (by decide) fun d u => ?_) fun _ h => h
    exact (((u.modDrop_frame d _).wide (by decide)).step (State.turnOff_frame _ d) (by decide) (by simp [Drop.mem_all])).step
      (State.answer_frame _ _ _ _ _) (by decide) (by simp)
  | wake r =>
    refine .of_next h (State.takeDropRequest_frame (l := claimFields) _ _ r (by decide) fun d u => ?_) fun _ h => h
    exact .ite (fun _ => ((u.wakeDrop_frame d).wide (by decide)).step (State.answer_frame _ _ _ _ _) (by decide) (by simp))
      fun _ => (u.answer_frame _ _ _ _).wide (by decide)
  | clear r =>
    refine .of_next h (State.takeDropRequest_frame (l := [.drops, .lens, .cli]) _ _ r (by decide) fun d u => ?_) fun _ h => h
    exact .ite (fun _ => (((u.modDrop_frame d _).wide (by decide)).step (State.clearHomed_frame _ d) (by decide)
      (by simp [Drop.mem_all])).step (State.answer_frame _ _ _ _ _) (by decide) (by simp))
      fun _ => (u.answer_frame _ _ _ _).wide (by decide)
  | queryDrop r =>
    refine .of_next h (State.takeDropRequest_frame (l := [.draws, .cli]) _ _ r (by decide) fun d u => ?_) fun _ h => h
    split
    · exact (u.drawIfUnloaded_frame.wide (by decide)).step (State.answer_frame _ _ _ _ _) (by decide) (by simp)
    · exact (u.answer_frame _ _ _ _).wide (by decide)
  | powerGood d => exact .of_next h (.iteRefl (s.enterWarming_frame d)) fun _ h => h
  | rampWindowExpiry d => exact .of_next h (.iteRefl (s.trip_frame d _)) fun _ h => h
  | currentAboveSteady d n => exact .of_next h (s.sampleCurrent_frame d n) fun _ h => h
  | currentBelowSteady d n => exact .of_next h (s.sampleCurrent_frame d n) fun _ h => h
  | steadyTripExpiry d => exact .of_next h (.iteRefl (s.trip_frame d _)) fun _ h => h
  | hardTrip d => exact .of_next h (.iteRefl (s.trip_frame d _)) fun _ h => h
  | backoffExpiry d =>
    exact .of_next h (.iteRefl (((s.modDrop_frame d _).mono (by decide) (fun _ h => h)).trans
      (State.enterClaiming_frame _ d))) fun _ h => h
  | stableTimerExpiry d => exact .of_next h (.iteRefl (s.modDrop_frame d _)) fun _ h => h
  | napTimerExpiry d =>
    exact .of_next h (.iteRefl ((s.powerDown_frame d _).step (State.reportState_frame _ d _ _) (by decide) (by simp)))
      fun _ h => h
  | warmTimerExpiry d => exact .of_next h (.iteRefl (s.enterFault_frame d _)) fun _ h => h
  | relockWindowExpiry d => exact .of_next h (.iteRefl (s.enterFault_frame d _)) fun _ h => h
  | lockGain d => exact .of_next h (.iteRefl ((s.modLink_frame d _).trans (State.heardItem_frame _ d))) fun _ h => h
  | lockLoss d o => exact .of_next h (.iteRefl (s.loseLock_frame d o)) fun _ h => h
  | lockTimeout d o => exact .of_next h (.iteRefl (s.loseLock_frame d o)) fun _ h => h
  | beat d =>
    refine .of_next (l := [.drops, .links, .rx, .shots, .cli]) (ds := [d]) h (.iteRefl ?_) fun _ h => h
    exact ((((s.heardItem_frame d).mono (by decide) (by simp)).step (State.modLink_frame _ d _) (by decide) (by simp)).step
      (State.endFragment_frame _ d) (by decide) (by simp)).step (State.beatSeen_frame _ d) (by decide) (by simp)
  | openWord d w =>
    refine .of_next (l := .links :: wordFields) (ds := [d]) h (.iteRefl ?_) fun _ h => h
    exact (((s.heardItem_frame d).mono (by decide) (by simp)).step (State.endFragment_frame _ d) (by decide) (by simp)).step
      (State.startFragment_frame _ d w) (by decide) (by simp)
  | dataWord d w =>
    change execDataWord d w s = .next t at h
    unfold execDataWord at h
    split at h
    · have k : s.ChangesOnly t (.links :: payloadFields) [d] :=
        ((s.heardItem_frame d).mono (by decide) (by simp)).step (State.dataAt_frame h) (by decide) (by simp)
      exact k.wide fun _ h => h
    · cases h; exact .refl _ _ _
  | closeWord d w =>
    refine .of_next (l := .links :: closeFields) (ds := [d]) h (.iteRefl ?_) fun _ h => h
    exact ((s.heardItem_frame d).mono (by decide) (by simp)).step (State.closeAt_frame _ d w) (by decide) (by simp)
  | shotTimeout n =>
    refine .of_next (l := [.shots, .rx, .lens, .cli, .uplink]) (ds := Drop.all) h ?_ fun _ h => h
    split
    · exact .iteRefl (s.timeoutEntry_frame n)
    · exact .refl _ _ _
  | lensAck d a =>
    refine .of_next (l := [.links, .lens, .cli]) (ds := [d]) h (.iteRefl ?_) fun _ h => h
    exact ((s.heardItem_frame d).mono (by decide) (by simp)).step (State.takeAck_frame _ d a) (by decide) (by simp)
  | ackTimerExpiry d =>
    refine .of_next (l := [.lens, .cli]) (ds := [d]) h ?_ fun _ h => h
    split
    · exact .iteRefl (s.loseBurst_frame d _)
    · exact .refl _ _ _
  | burstHandover d =>
    refine .of_next (l := [.links, .lens]) (ds := [d]) h ?_ fun _ h => h
    split
    · exact ((s.modLens_frame d _).mono (by decide) (by simp)).step (State.handMark_frame _ d _) (by decide) (by simp)
    · exact .refl _ _ _
  | markSent d =>
    refine .of_next (l := [.links, .lens, .locator]) (ds := [d]) h ?_ fun _ h => h
    split
    · exact ((s.markStarts_frame d _).mono (by decide) (by simp)).step (State.modLink_frame _ d _) (by decide) (by simp)
    · exact .refl _ _ _
  | lensHome r =>
    refine .of_next h (State.takeLensRequest_frame (l := [.lens, .cli]) _ r _ (by decide) fun d u => ?_) fun _ h => h
    have ans : ∀ (v : State) k c a, v.ChangesOnly (v.answer k r c a) [.lens, .cli] Drop.all := fun v k c a =>
      (v.answer_frame k r c a).wide (by decide)
    split
    · exact .ite (fun _ => ans u _ _ _) fun _ => .ite (fun _ => ans u _ _ _) fun _ =>
        ((u.startHoming_frame d _).wide (by decide)).trans (ans _ _ _ _)
    · exact ans u _ _ _
  | lensMove r =>
    refine .of_next h (State.takeLensRequest_frame (l := [.lens, .cli]) _ r _ (by decide) fun d u => ?_) fun _ h => h
    split
    · exact u.moveDrop_frame _ r d _ _ _
    · exact (u.answer_frame _ _ _ _).wide (by decide)
  | lensNudge r =>
    refine .of_next h (State.takeLensRequest_frame (l := [.lens, .cli]) _ r _ (by decide) fun d u => ?_) fun _ h => h
    split
    · exact u.moveDrop_frame _ r d _ _ _
    · exact (u.answer_frame _ _ _ _).wide (by decide)
  | lensHalt r =>
    refine .of_next h (State.takeLensRequest_frame (l := [.lens, .cli]) _ r _ (by decide) fun d u => ?_) fun _ h => h
    exact ((u.answer_frame _ _ _ _).wide (by decide)).step (State.haltLens_frame _ d) (by decide) (by simp [Drop.mem_all])
  | lensPush r =>
    refine .of_next h (State.takeLensRequest_frame (l := [.lens, .cli]) _ r _ (by decide) fun d u => ?_) fun _ h => h
    exact .ite (fun _ => (u.answer_frame _ _ _ _).wide (by decide)) fun _ =>
      ((u.modLens_frame d _).wide (by decide)).step (State.answer_frame _ _ _ _ _) (by decide) (by simp)
  | lensPop r =>
    exact .of_next h (State.takeLensRequest_frame (l := [.lens, .cli]) _ r _ (by decide) fun d u => u.popDrop_frame r d)
      fun _ h => h
  | queryLens r =>
    refine .of_next h (State.takeDropRequest_frame (l := [.cli]) _ _ r (by decide) fun d u => ?_) fun _ h => h
    split <;> exact (u.answer_frame _ _ _ _).wide (by decide)
  | lensSweep r =>
    exact .of_next h (State.takeLensRequest_frame (l := [.lens, .cli]) _ r _ (by decide) fun d u => u.sweepDrop_frame r d)
      fun _ h => h
  | pointTimerExpiry d => exact .of_next h (.iteRefl (s.beginReturn_frame d)) fun _ h => h
  | querySweep r =>
    refine .of_next h (State.takeDropRequest_frame (l := [.cli]) _ _ r (by decide) fun d u => ?_) fun _ h => h
    split <;> exact (u.answer_frame _ _ _ _).wide (by decide)
  | triggerInputRise => exact .of_next h (.iteRefl s.riseSeen_frame) (by decide)
  | triggerInputFall => exact .of_next h (s.modTrig_frame _) (by decide)
  | qualifyTimerExpiry =>
    exact .of_next h (.iteRefl (((s.modTrig_frame _).mono (by decide) (fun _ h => h)).trans (State.takeEdge_frame _)))
      (by decide)
  | slotMark m =>
    have mark : ∀ f, s.ChangesOnly (s.modUplink f) [.uplink] [] := s.modUplink_frame
    refine .of_next (l := [.uplink]) (ds := []) h (.ite (fun _ => .refl _ _ _) fun _ => .ite (fun _ => ?_) fun _ => ?_)
      fun _ h => h
    · exact .iteRefl ((mark _).trans (State.setPause_frame _ _))
    · split
      · exact .ite (fun _ => mark _) fun _ => (mark _).trans (State.boundaryDecision_frame _)
      · exact .refl _ _ _
  | recordStart =>
    refine .of_next (l := [.shots, .uplink]) (ds := []) h ?_ fun _ h => h
    split
    · exact .iteRefl (((s.modShots_frame _).mono (by decide) (by simp)).step (State.modUplink_frame _ _) (by decide) (by simp))
    · exact .refl _ _ _
  | uplinkWordSent =>
    change execUplinkWordSent s = .next t at h
    unfold execUplinkWordSent at h
    split at h
    · rename_i c e rest i _ _ _
      split at h
      · cases hw : s.sendWord c.station.fillWord (s.recordWord e i) with
        | next u =>
          rw [hw] at h
          exact .of_next h ((State.sendWord_frame hw).trans (u.afterWord_frame i _)) fun _ h => h
        | fault r => rw [hw] at h; cases h
        | refused r => rw [hw] at h; cases h
      · cases h; exact .refl _ _ _
    · cases h; exact .refl _ _ _
  | linkDown => exact .of_next h (.iteRefl (s.modUplink_frame _)) (by decide)
  | linkUp =>
    have up : s.ChangesOnly (s.modUplink fun u => { u with linkUp := true }) [.uplink] [] := s.modUplink_frame _
    exact .of_next h (.ite (fun _ => .refl s _ _) fun _ =>
      .ite (fun _ => up.trans (State.modUplink_frame _ _)) fun _ => up.trans (State.boundaryDecision_frame _)) (by decide)
  | restartSend => exact .of_next h (.iteRefl (s.modUplink_frame _)) (by decide)
  | locate r =>
    refine .of_next h (State.takeDropRequest_frame (l := [.locator, .cli]) _ _ r (by decide) fun d u => ?_) fun _ h => h
    have ans : ∀ (v : State) k c a, v.ChangesOnly (v.answer k r c a) [.locator, .cli] Drop.all := fun v k c a =>
      (v.answer_frame k r c a).wide (by decide)
    exact .ite (fun _ => ans u _ _ _) fun _ => .ite (fun _ => ans u _ _ _) fun _ => .ite (fun _ => ans u _ _ _) fun _ =>
      ((u.modLocator_frame _).wide (by decide)).trans (ans _ _ _ _)
  | locateHalt r =>
    exact .of_next h (State.takeDropRequest_frame (l := [.locator, .drops, .links, .cli]) _ _ r (by decide) fun d u =>
      u.locateHaltDrop_frame r d) fun _ h => h
  | flashStart =>
    refine .of_next (l := [.locator]) (ds := []) h ?_ fun _ h => h
    split
    · exact .iteRefl (s.modLocator_frame _)
    · exact .refl _ _ _
  | flashStale d => exact .of_next h (.iteRefl (s.modLocator_frame _)) fun _ h => h
  | requestActivate =>
    refine .of_next (l := [.locator, .drops, .lens, .cli]) (ds := Drop.all) h ?_ fun _ h => h
    split
    · exact .iteRefl (s.activate_frame _ _)
    · exact .refl _ _ _
  | quiesceEnd =>
    refine .of_next (l := requestFields) (ds := Drop.all) h ?_ fun _ h => h
    split
    · exact .ite (fun _ => .refl _ _ _) fun _ => .ite (fun _ => (s.enterBundle_frame _ _).wide fun _ h => h) fun _ =>
        .ite (fun _ => .refl _ _ _) fun _ => (s.enterBundle_frame _ _).wide fun _ h => h
    · exact .refl _ _ _
  | holderExpiry b =>
    refine .of_next (l := requestFields) (ds := Drop.all) h (.iteRefl ?_) fun _ h => h
    exact ((s.modLocator_frame _).wide (by decide)).trans (State.holderGone_frame _ b)
  | launchStart =>
    refine .of_next (l := [.locator, .drops, .links, .lens, .cli]) (ds := Drop.all) h ?_ fun _ h => h
    split
    · exact .iteRefl (s.launch_frame _)
    · exact .refl _ _ _
  | settleEnd => exact .of_next h (.iteRefl (s.modLocator_frame _)) (by decide)
  | shotComplete samples =>
    refine .of_next (l := captureFields) (ds := Drop.all) h ?_ fun _ h => h
    split
    · exact .iteRefl (s.shotDone_frame _)
    · exact .refl _ _ _
  | querySites r =>
    refine .of_next h (State.takeDropRequest_frame (l := [.cli]) _ _ r (by decide) fun d u => ?_) fun _ h => h
    refine .ite (fun _ => (u.answer_frame _ _ _ _).wide (by decide)) fun _ => ?_
    split
    · exact (u.answer_frame _ _ _ _).wide (by decide)
    · exact .foldl (fun v p => (v.answer_frame _ _ _ _).wide (by decide)) _ u
  | clearSites r =>
    refine .of_next h (State.takeDropRequest_frame (l := [.sites, .cli]) _ _ r (by decide) fun d u => ?_) fun _ h => h
    exact (((u.modSites_frame d _).wide (by decide)).step (State.reportSites_frame _ d _) (by decide) (by simp)).step
      (State.answer_frame _ _ _ _ _) (by decide) (by simp)
  | queryStation r =>
    refine .of_next h (State.takeRequest_frame (l := [.draws, .cli]) (ds := []) _ _ r (by decide) fun u => ?_) fun _ h => h
    split
    · exact (u.drawIfUnloaded_frame.mono (by decide) (by simp)).step (State.answer_frame _ _ _ _ _) (by decide) (by simp)
    · exact (u.answer_frame _ _ _ _).mono (by decide) (by simp)
  | unknownRequestKind kind r =>
    exact .of_next h (.ite (fun _ => .refl s [.cli] []) fun _ => State.hear_frame r.src (by decide) fun u =>
      .iteRefl (u.answer_frame _ _ _ _)) fun _ h => h

end

end Sys2Proof.Machine

/-! PROOF. Drops in their states (O58): what the commands do to the laws of HUSHED, of the unlocked ports and of the
timers (01 R1, R4, R14; 10 R182). -/

namespace Sys2Proof.Machine

/-! ## The laws of a drop's state, taken together -/

/-- A drop is HUSHED exactly while a quiet capture of it is in flight, an unpowered drop's port is UNLOCKED, and each
timer runs in its own state alone. -/
structure State.DropsLaw (s : State) : Prop where
  hush : s.HushLaw
  port : s.PortLaw
  timers : s.TimerLaw

/-- From `s` to `t` no drop changes its state, its lock or the capture that may hush it, and no timer begins to run
outside its state. -/
structure State.KeepsDrops (s t : State) : Prop where
  state : ∀ d, (t.drops.get d).state = (s.drops.get d).state
  timers : ∀ d, (s.drops.get d).TimerLaw → (t.drops.get d).TimerLaw
  port : ∀ d, (t.links.get d).locked = (s.links.get d).locked
  quiet : ∀ d, t.locator.quietOn d ↔ s.locator.quietOn d

section
variable {s t u : State}

theorem State.KeepsDrops.refl (s : State) : s.KeepsDrops s := ⟨fun _ => rfl, fun _ h => h, fun _ => rfl, fun _ => .rfl⟩

theorem State.KeepsDrops.trans (h : s.KeepsDrops t) (k : t.KeepsDrops u) : s.KeepsDrops u where
  state d := (k.state d).trans (h.state d)
  timers d x := k.timers d (h.timers d x)
  port d := (k.port d).trans (h.port d)
  quiet d := (k.quiet d).trans (h.quiet d)

theorem State.KeepsDrops.ite {c : Prop} [Decidable c] (h : c → s.KeepsDrops t) (k : ¬c → s.KeepsDrops u) :
    s.KeepsDrops (if c then t else u) := by
  split
  · exact h ‹_›
  · exact k ‹_›

theorem State.KeepsDrops.iteRefl {c : Prop} [Decidable c] (h : s.KeepsDrops t) : s.KeepsDrops (if c then t else s) :=
  .ite (fun _ => h) fun _ => .refl s

/-- What changes no drop record, no port and no part of the Line Locator. -/
theorem State.KeepsDrops.of_frame {l : List Block} {ds : List Drop} (h : s.ChangesOnly t l ds)
    (hl : .drops ∉ l ∧ .links ∉ l ∧ .locator ∉ l) : s.KeepsDrops t := by
  obtain ⟨hd, hk, hc⟩ := hl
  have d : t.drops = s.drops := h.get .drops hd
  have k : t.links = s.links := h.get .links hk
  have c : t.locator = s.locator := h.get .locator hc
  exact ⟨fun _ => by rw [d], fun _ => by rw [d]; exact fun x => x, fun _ => by rw [k], fun _ => by rw [c]⟩

theorem State.DropsLaw.keep (h : s.DropsLaw) (k : s.KeepsDrops t) : t.DropsLaw where
  hush d := by rw [k.state, k.quiet]; exact h.hush d
  port d := by rw [k.state, k.port]; exact h.port d
  timers d := k.timers d (h.timers d)

/-- One drop moves: its own record, port and capture meet the laws, and what another drop's laws read is unchanged. -/
theorem State.DropsLaw.move (h : s.DropsLaw) (d : Drop) (others : ∀ e, e ≠ d → s.SameDrop t e)
    (timers : (t.drops.get d).TimerLaw)
    (port : (t.drops.get d).state.powered = false → (t.links.get d).locked = false)
    (hush : (t.drops.get d).state = .hushed ↔ t.locator.quietOn d)
    (quiet : ∀ e, e ≠ d → (t.locator.quietOn e ↔ s.locator.quietOn e)) : t.DropsLaw where
  hush e := by
    by_cases he : e = d
    · subst he; exact hush
    · rw [(others e he).drop, quiet e he]; exact h.hush e
  port e := by
    by_cases he : e = d
    · subst he; exact port
    · rw [(others e he).drop, (others e he).link]; exact h.port e
  timers e := by
    by_cases he : e = d
    · subst he; exact timers
    · rw [(others e he).drop]; exact h.timers e

/-- One drop moves between states other than HUSHED, and the Line Locator stays as it is. -/
theorem State.DropsLaw.moveAwake (h : s.DropsLaw) (d : Drop) {l : List Block} (hf : s.ChangesOnly t l [d])
    (hl : .locator ∉ l) (hs : (s.drops.get d).state ≠ .hushed) (ht : (t.drops.get d).state ≠ .hushed)
    (timers : (t.drops.get d).TimerLaw)
    (port : (t.drops.get d).state.powered = false → (t.links.get d).locked = false) : t.DropsLaw := by
  have hc : t.locator = s.locator := hf.get .locator hl
  refine h.move d (fun e he => hf.drops e (by simpa using he)) timers port ?_ fun e _ => by rw [hc]
  rw [hc, ← h.hush d]
  exact ⟨fun k => absurd k ht, fun k => absurd k hs⟩

end

/-! ## Operations that move no drop -/

section
variable (s : State)

/-- A change of a drop record that keeps its state and starts no timer outside it. -/
theorem State.modDrop_keeps (d : Drop) {f : DropRec → DropRec} (hs : (f (s.drops.get d)).state = (s.drops.get d).state)
    (ht : (s.drops.get d).TimerLaw → (f (s.drops.get d)).TimerLaw) : s.KeepsDrops (s.modDrop d f) where
  state e := by
    rw [State.modDrop_drops, PerDrop.get_set]
    split
    · rename_i he; subst he; exact hs
    · rfl
  timers e h := by
    rw [State.modDrop_drops, PerDrop.get_set]
    split
    · rename_i he; subst he; exact ht h
    · exact h
  port _ := rfl
  quiet _ := .rfl

theorem State.modLink_keeps (d : Drop) {f : LinkPort → LinkPort} (hf : ∀ l, (f l).locked = l.locked) :
    s.KeepsDrops (s.modLink d f) where
  state _ := rfl
  timers _ h := h
  port e := by rw [State.modLink_links, PerDrop.get_set]; split <;> simp_all
  quiet _ := .rfl

/-- A change of the Line Locator that keeps which drop has a quiet capture. -/
theorem State.modLocator_keeps {f : Locator → Locator} (hf : ∀ d, (f s.locator).quietOn d ↔ s.locator.quietOn d) :
    s.KeepsDrops (s.modLocator f) := ⟨fun _ => rfl, fun _ h => h, fun _ => rfl, hf⟩

theorem Locator.quietOn_congr {l m : Locator} (h : l.capture = m.capture) (d : Drop) : l.quietOn d ↔ m.quietOn d := by
  unfold Locator.quietOn; rw [h]

theorem State.setHolder_keeps (b : Nat) (x : Option Holder) : s.KeepsDrops (s.modLocator (Locator.setHolder b x)) :=
  s.modLocator_keeps (Locator.quietOn_congr (by unfold Locator.setHolder; split <;> rfl))

theorem State.modActive_keeps (f : ActiveRequest → ActiveRequest) : s.KeepsDrops (s.modActive f) :=
  s.modLocator_keeps (Locator.quietOn_congr rfl)

theorem State.handMark_keeps (d : Drop) (m : Mark) : s.KeepsDrops (s.handMark d m) := s.modLink_keeps d fun _ => rfl

theorem State.heardItem_keeps (d : Drop) : s.KeepsDrops (s.heardItem d) := s.modLink_keeps d fun _ => rfl

theorem State.queueNote_keepsDrops (b : NoteBody) : s.KeepsDrops (s.queueNote b) := .of_frame (s.queueNote_frame b) (by decide)

theorem State.setHoldFlag_keeps (d : Drop) (b : Bool) : s.KeepsDrops (s.modDrop d fun r => { r with locateHold := b }) :=
  s.modDrop_keeps d rfl fun h => ⟨h.1, h.2, h.3, h.4, h.5, h.6, h.7⟩

theorem State.endRequest_keeps (a : ActiveRequest) : s.KeepsDrops (s.endRequest a) := by
  have h := (State.KeepsDrops.of_frame (s.queueLocateEnd_frame a) (by decide)).trans (State.setHoldFlag_keeps _ a.drop false)
  have k := h.trans (State.modLocator_keeps _ (f := fun l => { l with active := none }) (Locator.quietOn_congr rfl))
  exact k.trans (.of_frame (State.lookClaims_frame _) (by decide))

theorem State.finishRequest_keeps (a : ActiveRequest) (o : LocateOutcome) : s.KeepsDrops (s.finishRequest a o) :=
  (s.endRequest_keeps a).trans (.of_frame (State.reportLocate_frame _ _ _ _ _ _) (by decide))

theorem State.defer_keeps (a : ActiveRequest) : s.KeepsDrops (s.defer a) :=
  .ite (fun _ => (s.modLocator_keeps (Locator.quietOn_congr rfl)).trans (State.finishRequest_keeps _ a _)) fun _ =>
    (s.modActive_keeps _).trans (State.modLocator_keeps _ (Locator.quietOn_congr rfl))

theorem State.lookBundle_keeps (a : ActiveRequest) : s.KeepsDrops (s.lookBundle a) :=
  .ite (fun _ => (s.queueNote_keepsDrops _).trans (State.modActive_keeps _ _)) fun _ =>
    .ite (fun _ => .refl s) fun _ => s.defer_keeps a

theorem State.enterBundle_keeps (a : ActiveRequest) (c : CaptureType) : s.KeepsDrops (s.enterBundle a c) :=
  .ite (fun _ => s.modActive_keeps _) fun _ => (s.modActive_keeps _).trans (State.lookBundle_keeps _ _)

theorem State.holderGone_keeps (b : Nat) : s.KeepsDrops (s.holderGone b) := by
  unfold State.holderGone
  split
  · exact .refl s
  · exact .iteRefl (s.lookBundle_keeps _)

theorem State.startHeard_keeps (st : Station) (b : Nat) : s.KeepsDrops (s.startHeard st b) := .iteRefl (s.setHolder_keeps _ _)

theorem State.endHeard_keeps (st : Station) (b : Nat) : s.KeepsDrops (s.endHeard st b) := by
  unfold State.endHeard
  split
  · exact .refl s
  · exact .iteRefl ((s.setHolder_keeps _ _).trans (State.holderGone_keeps _ b))

theorem State.ownEndOver_keeps (b : Nat) : s.KeepsDrops (s.ownEndOver b) := s.modActive_keeps _

theorem State.rivalStart_keeps (b : Nat) : s.KeepsDrops (s.rivalStart b) := by
  unfold State.rivalStart
  split
  · exact .refl s
  · exact .iteRefl (((State.KeepsDrops.of_frame (s.withdraw_frame _) (by decide)).trans (State.modActive_keeps _ _)).trans
      (State.defer_keeps _ _))

theorem State.setHold_keeps (d : Drop) : s.KeepsDrops (s.setHold d) := by
  have h := s.setHoldFlag_keeps d true
  exact .ite (fun _ => h.trans (.of_frame (State.stopSweep_frame _ d _) (by decide))) fun _ => h

/-- The block that queued a dropped note takes it without a move of a drop (02 R39). -/
theorem State.tellDropped_keeps (b : NoteBody) : s.KeepsDrops (s.tellDropped b) := by
  unfold State.tellDropped
  split
  · exact .of_frame (s.modTrig_frame _) (by decide)
  · refine State.KeepsDrops.trans ?_ (.of_frame (State.lookClaims_frame _) (by decide))
    exact .ite (fun _ => .of_frame ((s.modBudget_frame _).trans (State.waitRetry_frame _ _)) (by decide))
      fun _ => .of_frame (s.modBudget_frame _) (by decide)
  · exact .refl s
  · split
    · exact .iteRefl (s.finishRequest_keeps _ _)
    · exact .refl s
  · exact .ite (fun _ => ((s.ownEndOver_keeps _).trans (State.setHolder_keeps _ _ _)).trans (State.holderGone_keeps _ _))
      fun _ => s.ownEndOver_keeps _
  all_goals exact .refl s

end

/-! ## Drop records in which no timer runs -/

/-- No timer of the drop record runs. -/
structure DropRec.Still (r : DropRec) : Prop where
  ramp : r.rampWindow.isRunning = false
  warm : r.warmTimer.isRunning = false
  relock : r.relockWindow.isRunning = false
  backoff : r.backoffTimer.isRunning = false
  stable : r.stableTimer.isRunning = false
  nap : r.napTimer.isRunning = false
  steady : r.steadyTrip.isRunning = false

section
variable {r : DropRec}

theorem Timer.not_running_of {x : Timer} {p : Prop} (h : x.isRunning = true → p) (k : ¬p) : x.isRunning = false := by
  cases hx : x.isRunning
  · rfl
  · exact absurd (h hx) k

theorem DropRec.Still.timerLaw (h : r.Still) : r.TimerLaw := by
  constructor <;> intro k
  · rw [h.ramp] at k; cases k
  · rw [h.warm] at k; cases k
  · rw [h.relock] at k; cases k
  · rw [h.backoff] at k; cases k
  · rw [h.stable] at k; cases k
  · rw [h.nap] at k; cases k
  · rw [h.steady] at k; cases k

/-- In an unpowered state other than TRIPPED no timer runs. -/
theorem DropRec.TimerLaw.still (h : r.TimerLaw) (hp : r.state.powered = false) (hb : r.backoffTimer.isRunning = false) :
    r.Still where
  ramp := Timer.not_running_of h.ramp fun k => by rw [k] at hp; cases hp
  warm := Timer.not_running_of h.warm fun k => by rw [k] at hp; cases hp
  relock := Timer.not_running_of h.relock fun k => by rw [k] at hp; cases hp
  backoff := hb
  stable := Timer.not_running_of h.stable fun k => by rw [k] at hp; cases hp
  nap := Timer.not_running_of h.nap fun k => by rw [k] at hp; cases hp
  steady := Timer.not_running_of h.steady fun k => by rw [k] at hp; cases hp

theorem DropRec.TimerLaw.backoff_stopped (h : r.TimerLaw) (hs : r.state ≠ .tripped) : r.backoffTimer.isRunning = false :=
  Timer.not_running_of h.backoff hs

/-- A powered drop whose powered timers have stopped has no timer running. -/
theorem DropRec.TimerLaw.stopPowered_still (h : r.TimerLaw) (hs : r.state ≠ .tripped) : r.stopPowered.Still :=
  ⟨rfl, rfl, rfl, h.backoff_stopped hs, rfl, rfl, rfl⟩

theorem DropState.ne_of_powered {st : DropState} (h : st.powered = true) : st ≠ .tripped := fun k => by
  rw [k] at h; cases h

end

/-! ## Operations that move one drop -/

section
variable {s : State} {d : Drop}

/-- An unpowered drop without its backoff enters CLAIMING (01 R5). -/
theorem State.DropsLaw.enterClaiming (h : s.DropsLaw) (hp : (s.drops.get d).state.powered = false)
    (hb : (s.drops.get d).backoffTimer.isRunning = false) : (s.enterClaiming d).DropsLaw := by
  have hc := s.enterClaiming_claims d
  refine h.moveAwake d hc.frame (by decide) (fun k => by rw [k] at hp; cases hp) (by rw [hc.record]; simp) ?_ fun _ => ?_
  · obtain ⟨a, b, c, e, f, g, i⟩ := (h.timers d).still hp hb
    rw [hc.record]
    exact DropRec.Still.timerLaw ⟨a, b, c, e, f, g, i⟩
  · have : (s.enterClaiming d).links = s.links := hc.frame.get .links
    rw [this]; exact h.port d hp

theorem State.DropsLaw.wakeDrop (h : s.DropsLaw) : (s.wakeDrop d).DropsLaw := by
  unfold State.wakeDrop
  split
  · rename_i hs
    exact h.enterClaiming (by rw [hs]; rfl) ((h.timers d).backoff_stopped (by rw [hs]; decide))
  · exact h

theorem State.DropsLaw.wakeAll (h : s.DropsLaw) (ds : List Drop) : (s.wakeAll ds).DropsLaw := by
  induction ds generalizing s with
  | nil => exact h
  | cons d ds ih => exact ih h.wakeDrop

/-- An OFF drop is turned on (01 R25, R30). -/
theorem State.DropsLaw.turnOn (h : s.DropsLaw) (hs : (s.drops.get d).state = .off) : (s.turnOn d).DropsLaw := by
  have k : (s.modDrop d fun r => { r with onIntent := true }).DropsLaw :=
    h.keep (s.modDrop_keeps d rfl fun h => ⟨h.1, h.2, h.3, h.4, h.5, h.6, h.7⟩)
  refine k.enterClaiming (by simp [hs, DropState.powered]) ?_
  simpa using (h.timers d).backoff_stopped (by rw [hs]; decide)

/-- A powered drop loses its power: its port unlocks, its timers stop, and a quiet capture of it goes on as a dark one
(01 R4, R14, R20). -/
theorem State.DropsLaw.powerDown (h : s.DropsLaw) (hp : (s.drops.get d).state.powered = true) {next : DropState}
    (hn : next.powered = false) : (s.powerDown d next).DropsLaw := by
  obtain ⟨p, hr⟩ := s.powerDown_spec d hn
  have notHushed : next ≠ .hushed := fun k => by rw [k] at hn; cases hn
  have quiet : ∀ e, (s.powerDown d next).locator.quietOn e ↔ e ≠ d ∧ s.locator.quietOn e := by
    intro e
    by_cases hh : (s.drops.get d).state = .hushed
    · obtain ⟨c, hc, -, hcd⟩ := (h.hush d).mp hh
      have hq : ∀ x, s.locator.quietOn x → x = d := fun x ⟨y, hy, _, hyx⟩ => by
        rw [hc] at hy; cases hy; exact hyx.symm.trans hcd
      rw [p.capture hh]
      constructor
      · rintro ⟨y, hy, hyt, -⟩
        simp only [hc, Option.map_some, Option.some.injEq] at hy
        rw [← hy] at hyt; cases hyt
      · exact fun ⟨he, hx⟩ => absurd (hq e hx) he
    · rw [p.locator hh]
      exact ⟨fun k => ⟨fun he => hh ((h.hush d).mpr (he ▸ k)), k⟩, fun k => k.2⟩
  refine h.move d (fun e he => p.frame.drops e (by simpa using he)) ?_ (fun _ => by rw [p.port]) ?_ fun e he => ?_
  · obtain ⟨a, b, c, e, f, g, i⟩ := (h.timers d).stopPowered_still (DropState.ne_of_powered hp)
    rw [hr]
    exact DropRec.Still.timerLaw ⟨a, b, c, e, f, g, i⟩
  · rw [hr, quiet]
    exact ⟨fun k => absurd k notHushed, fun k => absurd rfl k.1⟩
  · rw [quiet]; exact ⟨fun k => k.2, fun k => ⟨he, k⟩⟩

theorem State.DropsLaw.reportState (h : s.DropsLaw) (st : DropState) (c : Option Cause) : (s.reportState d st c).DropsLaw :=
  h.keep (.of_frame (s.reportState_frame d st c) (by decide))

theorem State.setCause_keeps (s : State) (d : Drop) (c : Option Cause) : s.KeepsDrops (s.modDrop d fun r => { r with cause := c }) :=
  s.modDrop_keeps d rfl fun h => ⟨h.1, h.2, h.3, h.4, h.5, h.6, h.7⟩

theorem State.DropsLaw.enterFault (h : s.DropsLaw) (hp : (s.drops.get d).state.powered = true) (c : Cause) :
    (s.enterFault d c).DropsLaw :=
  ((h.powerDown hp rfl).keep (State.setCause_keeps _ d (some c))).reportState _ _

/-- A powered drop trips (01 R10). -/
theorem State.DropsLaw.trip (h : s.DropsLaw) (hp : (s.drops.get d).state.powered = true) (c : TripCause) :
    (s.trip d c).DropsLaw := by
  have k : (s.modDrop d fun r => { r with
      tripCount := bump r.tripCount, lastTripCause := some c
      tripSeries := min 3 ((s.drops.get d).tripSeries + 1) }).DropsLaw :=
    h.keep (s.modDrop_keeps d rfl fun h => ⟨h.1, h.2, h.3, h.4, h.5, h.6, h.7⟩)
  have hp' : (((s.modDrop d fun r => { r with
      tripCount := bump r.tripCount, lastTripCause := some c
      tripSeries := min 3 ((s.drops.get d).tripSeries + 1) }).drops.get d)).state.powered = true := by simpa using hp
  unfold State.trip
  simp only
  split
  · refine ((k.powerDown hp' rfl).keep (State.modDrop_keeps _ d rfl fun t => ?_)).reportState _ _
    exact ⟨t.1, t.2, t.3, fun _ => by rw [(State.powerDown_spec _ d rfl).2], t.5, t.6, t.7⟩
  · exact k.enterFault hp' _

/-- A sample of the current (01 R8, R9). -/
theorem State.DropsLaw.sampleCurrent (h : s.DropsLaw) (n : Nat) : (s.sampleCurrent d n).DropsLaw := by
  have k : ∀ x l m, (s.modDrop d (·.measure x l m)).DropsLaw := fun x l m => by
    refine h.keep (s.modDrop_keeps d rfl fun t => ⟨t.1, t.2, t.3, t.4, t.5, t.6, fun hr => ?_⟩)
    simp only [DropRec.measure] at hr ⊢
    cases hp : (s.drops.get d).state.powered
    · simp only [hp, Bool.not_false, if_true] at hr
      exact hp ▸ t.steady hr
    · rfl
  unfold State.sampleCurrent
  simp only
  split
  · rename_i ht
    refine (k _ _ _).trip ?_ _
    simp only [State.hardTrips, Bool.and_eq_true] at ht
    simpa [DropRec.measure] using ht.1
  · exact k _ _ _

/-- A CLAIMING drop enters RAMPING (01 R6). -/
theorem State.DropsLaw.enterRamping (h : s.DropsLaw) (hs : (s.drops.get d).state = .claiming) :
    (s.enterRamping d).DropsLaw := by
  obtain ⟨a, b, c, e, f, g, i⟩ := (h.timers d).still (by rw [hs]; rfl) ((h.timers d).backoff_stopped (by rw [hs]; decide))
  refine h.moveAwake d (s.enterRamping_frame d) (by decide) (by rw [hs]; decide) (by simp [State.enterRamping]) ?_ ?_
  · simp only [State.enterRamping, State.modDrop_drops, PerDrop.get_set_same]
    exact ⟨fun _ => rfl, by simp [b], by simp [c], by simp [e], by simp [f], by simp [g], by simp [i]⟩
  · simp [State.enterRamping, DropState.powered]

/-- A RAMPING drop enters WARMING (01 R7, R16). -/
theorem State.DropsLaw.enterWarming (h : s.DropsLaw) (hs : (s.drops.get d).state = .ramping) :
    (s.enterWarming d).DropsLaw := by
  have t := h.timers d
  have stopped : ∀ {x : Timer} {st : DropState}, (x.isRunning = true → (s.drops.get d).state = st) → st ≠ .ramping →
      x.isRunning = false := fun k j => Timer.not_running_of k (by rw [hs]; exact j.symm)
  refine h.moveAwake d (s.enterWarming_frame d) (by decide) (by rw [hs]; decide) (by simp [State.enterWarming]) ?_ ?_
  · simp only [State.enterWarming, State.modLink_drops, State.modDrop_drops, PerDrop.get_set_same]
    exact ⟨fun k => (by cases k), fun _ => rfl, by simp [stopped t.relock (by decide)], by simp [stopped t.backoff (by decide)],
      by simp [stopped t.stable (by decide)], by simp [stopped t.nap (by decide)], fun _ => rfl⟩
  · simp [State.enterWarming, DropState.powered]

/-- A WARMING or LOST drop enters READY (01 R12, R16, R18, R22). -/
theorem State.DropsLaw.enterReady (h : s.DropsLaw) (hs : (s.drops.get d).state = .warming ∨ (s.drops.get d).state = .lost) :
    (s.enterReady d).DropsLaw := by
  have t := h.timers d
  have hr : ((s.enterReady d).drops.get d) = { s.drops.get d with
      state := .ready, warmTimer := .stopped, relockWindow := .stopped
      stableTimer := s.timer Config.stableTimerUs, napTimer := s.napTimer d } := by
    unfold State.enterReady
    rw [(State.reportState_frame _ _ _ _).get .drops, (State.setRelayed_frame _ _ _).get .drops]
    simp
  refine h.moveAwake d (s.enterReady_frame d) (by decide) (by rcases hs with k | k <;> rw [k] <;> decide) (by rw [hr]; simp) ?_ ?_
  · rw [hr]
    refine ⟨fun k => ?_, fun k => (by cases k), fun k => (by cases k), fun k => ?_, fun _ => rfl, fun _ => rfl, fun _ => rfl⟩
    · have := t.ramp k; rcases hs with j | j <;> rw [j] at this <;> cases this
    · have := t.backoff k; rcases hs with j | j <;> rw [j] at this <;> cases this
  · rw [hr]; intro k; cases k

/-- A READY drop goes LOST (01 R17). -/
theorem State.DropsLaw.lose (h : s.DropsLaw) (hs : (s.drops.get d).state = .ready) (x : Timer) :
    (s.modDrop d (·.lose x)).DropsLaw := by
  have t := h.timers d
  have stopped : ∀ {x : Timer} {st : DropState}, (x.isRunning = true → (s.drops.get d).state = st) → st ≠ .ready →
      x.isRunning = false := fun k j => Timer.not_running_of k (by rw [hs]; exact j.symm)
  refine h.moveAwake d (s.modDrop_frame d _) (by decide) (by rw [hs]; decide) (by simp [DropRec.lose]) ?_ ?_
  · simp only [State.modDrop_drops, PerDrop.get_set_same, DropRec.lose]
    exact ⟨by simp [stopped t.ramp (by decide)], by simp [stopped t.warm (by decide)], fun _ => rfl,
      by simp [stopped t.backoff (by decide)], fun k => (by cases k), fun k => (by cases k), fun _ => rfl⟩
  · simp [DropRec.lose, DropState.powered]

/-- A loss of lock (01 R14, R17). -/
theorem State.DropsLaw.loseLock (h : s.DropsLaw) (o : LossOrder) : (s.loseLock d o).DropsLaw := by
  have unlocked : (s.modLink d LinkPort.unlock).DropsLaw := by
    refine h.move d (fun e he => (s.modLink_frame d _).drops e (by simpa using he)) (h.timers d) (fun _ => ?_) (h.hush d)
      fun _ _ => .rfl
    simp [LinkPort.unlock]
  have close : ∀ u : State, u.KeepsDrops (u.closeLost d o) := fun u => by
    cases o
    · exact (State.KeepsDrops.of_frame (u.endFragment_frame d) (by decide)).trans
        (.of_frame (State.closeOpenParts_frame _ d _) (by decide))
    · exact (State.KeepsDrops.of_frame (u.closeOpenParts_frame d _) (by decide)).trans
        (.of_frame (State.endFragment_frame _ d) (by decide))
  have flash : ∀ u : State, u.KeepsDrops (u.requestFlash d) := fun u =>
    u.modLocator_keeps (Locator.quietOn_congr (by split <;> rfl))
  unfold State.loseLock
  simp only
  split
  · rename_i hs
    exact (unlocked.lose hs _).keep (((close _).trans (flash _)).trans (.of_frame (State.lensLeaveReady_frame _ d) (by decide)))
  · exact unlocked.keep (.of_frame (State.endFragment_frame _ d) (by decide))

/-- An unpowered drop that was not in FAULT enters OFF, its backoff stopped (01 R26). -/
theorem State.DropsLaw.settleOff (h : s.DropsLaw) (hp : (s.drops.get d).state.powered = false) : (s.settleOff d).DropsLaw := by
  have t := h.timers d
  refine State.DropsLaw.keep (s := s.modDrop d fun r => { r with state := .off, cause := none, backoffTimer := .stopped })
    ?_ (.of_frame (State.clearHomed_frame _ d) (by decide))
  refine h.moveAwake d (s.modDrop_frame d _) (by decide) (fun k => by rw [k] at hp; cases hp) (by simp) ?_
    fun _ => by simpa using h.port d hp
  have off : ({ s.drops.get d with backoffTimer := .stopped } : DropRec).TimerLaw :=
    ⟨t.1, t.2, t.3, fun k => (by cases k), t.5, t.6, t.7⟩
  obtain ⟨a, b, c, e, f, g, i⟩ := off.still hp rfl
  rw [State.modDrop_drops, PerDrop.get_set_same]
  exact DropRec.Still.timerLaw ⟨a, b, c, e, f, g, i⟩

/-- POWER_OFF as it acts (01 R26). -/
theorem State.DropsLaw.turnOff (h : s.DropsLaw) : (s.turnOff d).DropsLaw := by
  have leave : (s.leaveClaims d).DropsLaw := h.keep (.of_frame (s.leaveClaims_frame d) (by decide))
  unfold State.turnOff
  split <;> rename_i hs
  · exact h
  · exact leave.settleOff (by rw [(s.leaveClaims_frame d).get .drops, hs]; rfl)
  iterate 3 exact h.settleOff (by rw [hs]; rfl)
  all_goals exact (h.powerDown (by rw [hs]; rfl) rfl).keep (State.setCause_keeps _ d none)

/-- A FAULT drop is cleared (01 R28). -/
theorem State.DropsLaw.clearFault (h : s.DropsLaw) (hs : (s.drops.get d).state = .fault) : (s.clearFault d).DropsLaw := by
  refine State.DropsLaw.keep (s := s.modDrop d fun r =>
    { r with state := .off, onIntent := false, tripSeries := 0, cause := none, lastTripCause := none }) ?_
    (.of_frame (State.clearHomed_frame _ d) (by decide))
  have hp : (s.drops.get d).state.powered = false := by rw [hs]; rfl
  obtain ⟨a, b, c, e, f, g, i⟩ := (h.timers d).still hp ((h.timers d).backoff_stopped (by rw [hs]; decide))
  refine h.moveAwake d (s.modDrop_frame d _) (by decide) (by rw [hs]; decide) (by simp) ?_ fun _ => by simpa using h.port d hp
  rw [State.modDrop_drops, PerDrop.get_set_same]
  exact DropRec.Still.timerLaw ⟨a, b, c, e, f, g, i⟩

/-- The verdict on the own claim (03 R61): granted it takes a CLAIMING drop to RAMPING. -/
theorem State.DropsLaw.applyVerdict (h : s.DropsLaw) (d : Drop) (amount total : Nat) :
    (s.applyVerdict d amount total).DropsLaw := by
  have budget : ∀ f, (s.modBudget f).DropsLaw := fun f => h.keep (.of_frame (s.modBudget_frame f) (by decide))
  unfold State.applyVerdict
  simp only
  split_ifs with _ hg
  · exact ((budget _).keep (.of_frame (State.leaveClaims_frame _ d) (by decide))).enterRamping hg.1
  · exact (h.keep (.of_frame (s.queueRelease_frame d) (by decide))).keep (.of_frame (State.modBudget_frame _ _) (by decide))
  · exact (budget _).keep (.iteRefl (.of_frame (State.waitRetry_frame _ d) (by decide)))

/-- A trigger mark is relayed to a drop: the nap timer starts again only where it runs (06 R113). -/
theorem State.DropsLaw.relay (h : s.DropsLaw) (n : Half) : (s.relay n d).DropsLaw := by
  have k : ((s.handMark d (.trigger (triggerTag n))).setRelayed d (some n)).DropsLaw :=
    h.keep ((s.handMark_keeps d _).trans (.of_frame (State.setRelayed_frame _ d _) (by decide)))
  refine k.keep (State.modDrop_keeps _ d rfl fun t => ⟨t.1, t.2, t.3, t.4, t.5, fun hr => ?_, t.7⟩)
  refine t.nap ?_
  by_contra hn
  simp only [hn] at hr
  cases hr

end

/-! ## Triggers, captures and requests -/

section
variable {s : State}

theorem State.DropsLaw.startParts (h : s.DropsLaw) (n : Half) (ps : List Part) :
    (ps.foldl (State.startPart n) s).DropsLaw := by
  induction ps generalizing s with
  | nil => exact h
  | cons p ps ih =>
    refine ih ?_
    unfold State.startPart
    split
    · exact h.relay n
    · exact h.keep (.of_frame (s.offerPart_frame _ _) (by decide))

theorem State.DropsLaw.modShots (h : s.DropsLaw) (f : Shots → Shots) : (s.modShots f).DropsLaw :=
  h.keep (.of_frame (s.modShots_frame f) (by decide))

/-- A trigger opens a shot (06 R111 to R114). -/
theorem State.DropsLaw.openShot (h : s.DropsLaw) (n : Half) (mask : Byte) (src : Station) (ds : List Drop) :
    (s.openShot n mask src ds).DropsLaw := by
  have k := ((h.modShots (·.add (s.newEntry n mask src (ds.map s.openingPart)))).startParts n
    (ds.map s.openingPart)).wakeAll ds
  unfold State.openShot
  simp only
  split
  · exact k.keep (.of_frame (State.boundaryDecision_frame _) (by decide))
  · exact k

/-- A trigger is handed to the Shot Builder (06 R108 to R114). -/
theorem State.DropsLaw.handTrigger (h : s.DropsLaw) (n : Half) (mask : Byte) (src : Station) :
    (s.handTrigger n mask src).DropsLaw := by
  unfold State.handTrigger
  simp only
  split_ifs
  · exact h
  · exact (h.modShots _).wakeAll _
  · exact (h.modShots _).wakeAll _
  · exact h.openShot n mask src _

theorem State.DropsLaw.takeTrigger (h : s.DropsLaw) (n : Half) (mask : Byte) (src : Station) :
    (s.takeTrigger n mask src).DropsLaw := by
  have k : (s.modTrig (·.number n)).DropsLaw := h.keep (.of_frame (s.modTrig_frame _) (by decide))
  unfold State.takeTrigger
  refine State.DropsLaw.handTrigger (k.keep ?_) n mask src
  exact .ite (fun _ => .of_frame (State.queueEvent_frame _ _) (by decide)) fun _ => .refl _

/-- A READY drop is hushed for a quiet capture, with the launcher free until then (10 R182). -/
theorem State.DropsLaw.launchQuiet (h : s.DropsLaw) (a : ActiveRequest) (hs : (s.drops.get a.drop).state = .ready)
    (free : s.locator.capture = none) : (s.launchQuiet a).DropsLaw := by
  have record : (s.launchQuiet a).drops.get a.drop =
      { s.drops.get a.drop with state := .hushed, stableTimer := .stopped, napTimer := .stopped } := by
    show (State.lensLeaveReady _ _).drops.get _ = _
    rw [(State.lensLeaveReady_frame _ _).get .drops]
    simp [State.handMark]
  have none_quiet : ∀ e, ¬s.locator.quietOn e := fun e ⟨c, hc, _⟩ => by rw [free] at hc; cases hc
  have quiet : ∀ e, (s.launchQuiet a).locator.quietOn e ↔ e = a.drop := fun e =>
    ⟨fun ⟨c, hc, _, hd⟩ => by cases hc; exact hd.symm, fun he => ⟨_, rfl, rfl, he.symm⟩⟩
  have frame := (s.hush_frame a.drop).mono (m := [.drops, .links, .lens, .cli, .locator]) (by decide) fun _ h => h
  refine h.move a.drop (fun e he => (frame.step (State.modLocator_frame _ _) (by decide) (by simp)).drops e (by simpa using he))
    ?_ (fun k => ?_) ?_ fun e he => ?_
  · have t := h.timers a.drop
    have stopped : ∀ {x : Timer} {st : DropState}, (x.isRunning = true → (s.drops.get a.drop).state = st) → st ≠ .ready →
        x.isRunning = false := fun k j => Timer.not_running_of k (by rw [hs]; exact j.symm)
    rw [record]
    exact ⟨by simp [stopped t.ramp (by decide)], by simp [stopped t.warm (by decide)],
      by simp [stopped t.relock (by decide)], by simp [stopped t.backoff (by decide)], fun k => (by cases k),
      fun k => (by cases k), fun _ => rfl⟩
  · rw [record] at k; cases k
  · rw [record, quiet]; simp
  · rw [quiet]; exact ⟨fun k => absurd k he, fun k => absurd k (none_quiet e)⟩

/-- The launcher takes no drop out of its state where it takes no quiet capture. -/
theorem State.DropsLaw.unquiet (h : s.DropsLaw) {f : Locator → Locator} (free : s.locator.capture = none)
    (hf : ∀ c, (f s.locator).capture = some c → c.type ≠ .quiet) : (s.modLocator f).DropsLaw :=
  h.keep (s.modLocator_keeps fun _ =>
    ⟨fun ⟨c, hc, ht, _⟩ => absurd ht (hf c hc), fun ⟨c, hc, _⟩ => by rw [free] at hc; cases hc⟩)

theorem State.DropsLaw.launch (h : s.DropsLaw) (a : ActiveRequest) (free : s.locator.capture = none) :
    (s.launch a).DropsLaw := by
  unfold State.launch
  simp only
  split_ifs with _ hq
  · exact h.unquiet free fun c hc => by cases hc; exact nofun
  · exact h.launchQuiet a hq.2 free
  · exact h.keep ((State.KeepsDrops.of_frame (s.queueLocateEnd_frame a) (by decide)).trans (State.modActive_keeps _ _))
  · exact h

/-- A capture leaves the launcher, and its drop, if HUSHED, enters WARMING (01 R19, 10 R184). -/
theorem State.DropsLaw.unhush (h : s.DropsLaw) {c : Capture}
    (hc : ∀ d, s.locator.quietOn d ↔ c.type = .quiet ∧ c.drop = d) :
    ((s.modLocator fun l => { l with capture := none, settle := .stopped }).unhush c.drop).DropsLaw := by
  have gone : ∀ d, ¬(s.modLocator fun l => { l with capture := none, settle := .stopped }).locator.quietOn d :=
    fun d ⟨_, k, _⟩ => by cases k
  unfold State.unhush
  split
  · rename_i hs
    replace hs : (s.drops.get c.drop).state = .hushed := hs
    have t := h.timers c.drop
    have stopped : ∀ {x : Timer} {st : DropState}, (x.isRunning = true → (s.drops.get c.drop).state = st) → st ≠ .hushed →
        x.isRunning = false := fun k j => Timer.not_running_of k (by rw [hs]; exact j.symm)
    have frame := (((s.modLocator_frame fun l => { l with capture := none, settle := .stopped }).mono
      (m := [.locator, .links, .drops]) (es := [c.drop]) (by decide) (by simp)).step (State.handMark_frame _ c.drop .unhush)
      (by decide) (by simp)).step (State.enterWarming_frame _ c.drop) (by decide) (by simp)
    refine h.move c.drop (fun e he => frame.drops e (by simpa using he)) ?_ (fun k => ?_) ?_ fun e he => ?_
    · simp only [State.enterWarming, State.handMark, State.modLink_drops, State.modDrop_drops, State.modLocator_drops,
        PerDrop.get_set_same]
      exact ⟨fun k => (by cases k), fun _ => rfl, by simp [stopped t.relock (by decide)],
        by simp [stopped t.backoff (by decide)], by simp [stopped t.stable (by decide)], by simp [stopped t.nap (by decide)],
        fun _ => rfl⟩
    · simp [State.enterWarming, State.handMark, DropState.powered] at k
    · refine ⟨fun k => ?_, fun k => absurd k (gone _)⟩
      simp [State.enterWarming, State.handMark] at k
    · exact ⟨fun k => absurd k (gone e), fun k => absurd ((hc e).mp k).2.symm he⟩
  · rename_i hs
    refine h.keep (s.modLocator_keeps fun d => ⟨fun k => absurd k (gone d), fun k => ?_⟩)
    have hd := ((hc d).mp k).2
    exact absurd (hd ▸ (h.hush d).mpr k) hs

/-- The end of the capture in flight (10 R184). -/
theorem State.DropsLaw.endCapture (h : s.DropsLaw) {c : Capture}
    (hc : ∀ d, s.locator.quietOn d ↔ c.type = .quiet ∧ c.drop = d) (o : LocateOutcome) (r : Option Reflection) :
    (s.endCapture c o r).DropsLaw := by
  have k := h.unhush hc
  refine State.DropsLaw.keep ?_ (.of_frame (State.reportLocate_frame _ _ _ _ _ _) (by decide))
  split
  · exact k
  iterate 2 exact k.keep (State.endRequest_keeps _ _)
  · exact k

theorem Locator.quietOn_of_capture {l : Locator} {c : Capture} (h : l.capture = some c) (d : Drop) :
    l.quietOn d ↔ c.type = .quiet ∧ c.drop = d := by
  simp [Locator.quietOn, h]

/-- A shot of the capture in flight has completed (10 R183, R184). -/
theorem State.DropsLaw.shotDone (h : s.DropsLaw) {c x : Capture} (hx : s.locator.capture = some x) (ht : c.type = x.type)
    (hd : c.drop = x.drop) : (s.shotDone c).DropsLaw := by
  have hc : ∀ d, s.locator.quietOn d ↔ c.type = .quiet ∧ c.drop = d := by
    rw [ht, hd]; exact Locator.quietOn_of_capture hx
  have count : ∀ f : Locator → Locator, (f s.locator).capture = s.locator.capture →
      (s.modLocator f).DropsLaw ∧ ∀ d, (s.modLocator f).locator.quietOn d ↔ c.type = .quiet ∧ c.drop = d := fun f hf =>
    ⟨h.keep (s.modLocator_keeps (Locator.quietOn_congr hf)), fun d => (Locator.quietOn_congr hf d).trans (hc d)⟩
  unfold State.shotDone
  split_ifs
  · exact h.endCapture hc _ _
  · unfold State.finishCapture
    simp only
    split
    · obtain ⟨k, q⟩ := count (fun l => { l with noLaunch := bump l.noLaunch }) rfl
      exact k.endCapture q _ _
    · obtain ⟨k, q⟩ := count (fun l => { l with analysed := bump l.analysed }) rfl
      refine (k.keep (.of_frame (State.makeRecord_frame _ c _) (by decide))).endCapture (fun d => ?_) _ _
      rw [(State.makeRecord_frame _ _ _).get .locator]; exact q d
  · exact h.keep (s.modLocator_keeps fun d => (Locator.quietOn_of_capture rfl d).trans (hc d).symm)

theorem State.DropsLaw.answer (h : s.DropsLaw) (k : Byte) (r : Request) (c : AnswerCode) (v : AnswerValue) :
    (s.answer k r c v).DropsLaw := h.keep (.of_frame (s.answer_frame k r c v) (by decide))

/-- The active request is halted (10 R186). -/
theorem State.DropsLaw.haltActive (h : s.DropsLaw) (a : ActiveRequest) : (s.haltActive a).1.DropsLaw := by
  unfold State.haltActive
  split
  iterate 3
    exact h.keep ((State.KeepsDrops.iteRefl (.of_frame (State.withdraw_frame _ _) (by decide))).trans
      (State.finishRequest_keeps _ _ _))
  · split
    · rename_i c hc
      exact h.endCapture (Locator.quietOn_of_capture hc) _ _
    · exact h.keep (State.finishRequest_keeps _ _ _)
  · dsimp only
    refine h.keep (State.modLocator_keeps _ fun d => ?_)
    unfold Locator.quietOn
    simp only [Option.map_eq_some_iff]
    exact ⟨fun ⟨_, ⟨c, hc, hx⟩, ht, hd⟩ => by subst hx; exact ⟨c, hc, ht, hd⟩,
      fun ⟨c, hc, ht, hd⟩ => ⟨_, ⟨c, hc, rfl⟩, ht, hd⟩⟩

/-- LOCATE_HALT on a drop (10 R186). -/
theorem State.DropsLaw.locateHaltDrop (h : s.DropsLaw) (r : Request) (d : Drop) : (s.locateHaltDrop r d).DropsLaw := by
  have count : s.countHalt.DropsLaw := h.keep (s.modLocator_keeps (Locator.quietOn_congr rfl))
  unfold State.locateHaltDrop
  simp only
  split
  · exact h.answer _ _ _ _
  · split
    · exact (count.keep ((State.modLocator_keeps _ (Locator.quietOn_congr rfl)).trans
        (.of_frame (State.reportLocate_frame _ _ _ _ _ _) (by decide)))).answer _ _ _ _
    · exact h.answer _ _ _ _
  · split
    · exact (count.haltActive _).answer _ _ _ _
    · exact h.answer _ _ _ _

theorem State.DropsLaw.hear (h : s.DropsLaw) (src : Station) {f : State → State} (hf : ∀ u : State, u.DropsLaw → (f u).DropsLaw) :
    (s.hear src f).DropsLaw := by
  unfold State.hear
  split
  · exact h.keep (.of_frame s.ownNumber_frame (by decide))
  · exact hf _ (h.keep (.of_frame s.countHeard_frame (by decide)))

theorem State.DropsLaw.takeDropRequest (h : s.DropsLaw) (k : RequestKind) (rank : Rank) (r : Request)
    {f : Drop → State → State} (hf : ∀ (d : Drop) (u : State), u.DropsLaw → (f d u).DropsLaw) :
    (s.takeDropRequest k rank r f).DropsLaw := by
  unfold State.takeDropRequest State.takeRequest
  refine h.hear r.src fun u hu => ?_
  split_ifs
  · exact hu
  · split
    · exact hf _ u hu
    · exact hu.answer _ _ _ _
  · exact hu.answer _ _ _ _

/-! ## Resets and loading -/

/-- After a reset no drop is HUSHED, no port is LOCKED and no timer runs. -/
theorem State.resetAll_dropsLaw (s : State) (pins : Pins) : (s.resetAll pins).DropsLaw where
  hush d := by
    refine ⟨fun k => ?_, fun ⟨_, k, _⟩ => by cases k⟩
    cases d <;> cases k
  port d _ := by cases d <;> rfl
  timers d := by cases d <;> exact DropRec.Still.timerLaw ⟨rfl, rfl, rfl, rfl, rfl, rfl, rfl⟩

/-- While loading lasts every drop is OFF, so its end turns only OFF drops on (01 R30). -/
theorem State.DropsLaw.loadEnd (h : s.DropsLaw) (off : ∀ d, (s.drops.get d).state = .off) (read : EepromRead) :
    (Drop.all.foldl State.autoPower (s.load read).announce).DropsLaw := by
  have auto : ∀ (ds : List Drop) (u : State), ds.Nodup → u.DropsLaw → (∀ d ∈ ds, (u.drops.get d).state = .off) →
      (ds.foldl State.autoPower u).DropsLaw := by
    intro ds
    induction ds with
    | nil => exact fun _ _ k _ => k
    | cons d ds ih =>
      intro u hn k ho
      obtain ⟨hd, hn⟩ := List.nodup_cons.mp hn
      refine ih _ hn ?_ fun e he => ?_
      · unfold State.autoPower
        simp only
        split
        · exact k.turnOn (ho d (by simp))
        · exact k
      · have : e ≠ d := fun x => hd (x ▸ he)
        rw [((u.autoPower_frame d).drops e (by simpa using this)).drop]
        exact ho e (List.mem_cons_of_mem _ he)
  have frame := ((s.load_frame read).wide (m := loadFields) (by decide)).step (State.announce_frame _) (by decide) (by simp)
  have drops : (s.load read).announce.drops = s.drops :=
    ((State.announce_frame _).get .drops).trans ((s.load_frame read).get .drops)
  refine auto _ _ (by decide) (h.keep ?_) fun d _ => by rw [drops]; exact off d
  exact (State.KeepsDrops.of_frame (s.load_frame read) (by decide)).trans (.of_frame (State.announce_frame _) (by decide))

end

/-! ## Every command -/

/-- Every command keeps the laws of the drops' states; the end of loading needs that no drop is out of OFF before it. -/
theorem State.DropsLaw.exec {s t : State} (h : s.DropsLaw) (off : s.loader = .loading → ∀ d, (s.drops.get d).state = .off)
    (c : Instr) (he : Machine.exec c s = .next t) : t.DropsLaw := by
  cases c with
  | powerOnReset pins => cases he; exact s.resetAll_dropsLaw pins
  | cellReset src target pins =>
    cases he
    refine h.hear src fun u hu => ?_
    split_ifs
    · exact (u.resetAll_dropsLaw pins).keep ⟨fun _ => rfl, fun _ h => h, fun _ => rfl, fun _ => .rfl⟩
    · exact hu.keep ⟨fun _ => rfl, fun _ h => h, fun _ => rfl, fun _ => .rfl⟩
    · exact hu
  | loadEnd read =>
    cases he
    split_ifs with hl
    · exact h.loadEnd (off hl) read
    · exact h
  | sendError e =>
    cases he
    split
    · exact h
    · simp only
      split_ifs
      · exact h.keep (.of_frame s.loseArbitration_frame (by decide))
      · exact h.keep (.of_frame (s.abortNote_frame.trans (State.modCli_frame _ _)) (by decide))
      · exact h.keep ((State.KeepsDrops.of_frame (s.abortNote_frame.trans (State.dropNote_frame _ _)) (by decide)).trans
          (State.tellDropped_keeps _ _))
  | triggerNote note =>
    cases he
    split
    · exact h.hear _ fun u hu => hu.takeTrigger _ _ _
    · unfold State.triggerEcho
      split
      · refine State.DropsLaw.takeTrigger (h.keep ?_) _ _ _
        exact (State.KeepsDrops.of_frame s.echoed_frame (by decide)).trans (.of_frame (State.modTrig_frame _ _) (by decide))
      · exact h
  | claimEcho =>
    cases he
    split
    · exact ((h.keep (.of_frame s.echoed_frame (by decide))).applyVerdict _ _ _).keep
        (.of_frame (State.lookClaims_frame _) (by decide))
    · exact h
  | locateStartNote note =>
    cases he
    split
    · exact h.hear _ fun u hu => hu.keep ((u.startHeard_keeps _ _).trans (State.rivalStart_keeps _ _))
    · unfold State.startEcho
      split
      · refine h.keep ((State.KeepsDrops.of_frame s.echoed_frame (by decide)).trans ?_)
        unfold State.ownStart
        simp only
        split
        · exact .ite (fun _ => (State.startHeard_keeps _ _ _).trans (State.modActive_keeps _ _)) fun _ => State.startHeard_keeps _ _ _
        · exact State.startHeard_keeps _ _ _
      · exact h
  | locateEndNote note =>
    cases he
    split
    · exact h.hear _ fun u hu => hu.keep (u.endHeard_keeps _ _)
    · unfold State.endEcho
      split
      · exact h.keep (((State.KeepsDrops.of_frame s.echoed_frame (by decide)).trans (State.ownEndOver_keeps _ _)).trans
          (State.endHeard_keeps _ _ _))
      · exact h
  | holderExpiry b => cases he; exact h.keep (.iteRefl ((s.setHolder_keeps b none).trans (State.holderGone_keeps _ b)))
  | quiesceEnd =>
    cases he
    split
    · exact h.keep (.ite (fun _ => .refl s) fun _ => .ite (fun _ => s.enterBundle_keeps _ _) fun _ =>
        .ite (fun _ => .refl s) fun _ => s.enterBundle_keeps _ _)
    · exact h
  | powerOn r =>
    cases he
    refine h.takeDropRequest _ _ r fun d u hu => ?_
    unfold State.powerOnDrop
    split
    · exact hu.answer _ _ _ _
    · split <;> rename_i hs
      · exact (hu.turnOn hs).answer _ _ _ _
      · exact hu.answer _ _ _ _
      all_goals exact hu.answer _ _ _ _
  | powerOff r =>
    cases he
    refine h.takeDropRequest _ _ r fun d u hu => State.DropsLaw.answer ?_ _ _ _ _
    exact (hu.keep (u.modDrop_keeps d rfl fun h => ⟨h.1, h.2, h.3, h.4, h.5, h.6, h.7⟩)).turnOff
  | wake r =>
    cases he
    refine h.takeDropRequest _ _ r fun d u hu => ?_
    split
    · exact hu.wakeDrop.answer _ _ _ _
    · exact hu.answer _ _ _ _
  | clear r =>
    cases he
    refine h.takeDropRequest _ _ r fun d u hu => ?_
    split_ifs with hs
    · exact (hu.clearFault hs).answer _ _ _ _
    · exact hu.answer _ _ _ _
  | backoffExpiry d =>
    cases he
    split_ifs with hr
    · have k : (s.modDrop d fun r => { r with cause := none, backoffTimer := .stopped }).DropsLaw :=
        h.keep (s.modDrop_keeps d rfl fun t => ⟨t.1, t.2, t.3, fun x => (by cases x), t.5, t.6, t.7⟩)
      exact k.enterClaiming (by simp [hr.1, DropState.powered]) (by simp [Timer.isRunning])
    · exact h
  | powerGood d =>
    cases he
    split_ifs with hr
    · exact h.enterWarming hr.1
    · exact h
  | rampWindowExpiry d =>
    cases he
    split_ifs with hr
    · exact h.trip (by rw [hr.1]; rfl) _
    · exact h
  | currentAboveSteady d n => cases he; exact h.sampleCurrent n
  | currentBelowSteady d n => cases he; exact h.sampleCurrent n
  | steadyTripExpiry d =>
    cases he
    split_ifs with hr
    · exact h.trip hr.1 _
    · exact h
  | hardTrip d =>
    cases he
    split_ifs with hr
    · exact h.trip (by simp only [State.hardTrips, Bool.and_eq_true] at hr; exact hr.1) _
    · exact h
  | stableTimerExpiry d =>
    cases he
    exact h.keep (.iteRefl (s.modDrop_keeps d rfl fun t => ⟨t.1, t.2, t.3, t.4, fun x => (by cases x), t.6, t.7⟩))
  | napTimerExpiry d =>
    cases he
    split_ifs with hr
    · exact (h.powerDown (by rw [hr.1]; rfl) rfl).reportState _ _
    · exact h
  | warmTimerExpiry d =>
    cases he
    split_ifs with hr
    · exact h.enterFault (by rw [hr.1]; rfl) _
    · exact h
  | relockWindowExpiry d =>
    cases he
    split_ifs with hr
    · exact h.enterFault (by rw [hr.1]; rfl) _
    · exact h
  | lockGain d =>
    cases he
    split_ifs with hr
    · refine State.DropsLaw.keep ?_ (State.heardItem_keeps _ d)
      refine h.move d (fun e he => (s.modLink_frame d _).drops e (by simpa using he)) (h.timers d) (fun k => ?_) (h.hush d)
        fun _ _ => .rfl
      rw [State.modLink_drops, hr.1] at k; cases k
    · exact h
  | lockLoss d o =>
    cases he
    split_ifs
    · exact h.loseLock o
    · exact h
  | lockTimeout d o =>
    cases he
    split_ifs
    · exact h.loseLock o
    · exact h
  | beat d =>
    cases he
    split_ifs
    · have k := h.keep (((s.heardItem_keeps d).trans (State.modLink_keeps _ d
        (f := fun l => { l with beatRun := satAdd 255 l.beatRun 1 }) fun _ => rfl)).trans
        (.of_frame (State.endFragment_frame _ d) (by decide)))
      generalize ((s.heardItem d).modLink d fun l => { l with beatRun := satAdd 255 l.beatRun 1 }).endFragment d = u at k
      unfold State.beatSeen
      simp only
      split_ifs with _ hw hl
      · exact k.enterReady (.inl hw)
      · refine State.DropsLaw.enterReady (k.keep (u.modDrop_keeps d rfl fun h => ⟨h.1, h.2, h.3, h.4, h.5, h.6, h.7⟩)) (.inr ?_)
        simpa using hl.1
      · exact k
      · exact k
    · exact h
  | openWord d w =>
    cases he
    exact h.keep (.iteRefl ((s.heardItem_keeps d).trans ((State.KeepsDrops.of_frame (State.endFragment_frame _ d)
      (by decide)).trans (.of_frame (State.startFragment_frame _ d w) (by decide)))))
  | dataWord d w =>
    change execDataWord d w s = .next t at he
    unfold execDataWord at he
    split at he
    · exact h.keep ((s.heardItem_keeps d).trans (.of_frame (State.dataAt_frame he) (by decide)))
    · cases he; exact h
  | closeWord d w =>
    cases he
    exact h.keep (.iteRefl ((s.heardItem_keeps d).trans (.of_frame (State.closeAt_frame _ d w) (by decide))))
  | lensAck d a =>
    cases he
    exact h.keep (.iteRefl ((s.heardItem_keeps d).trans (.of_frame (State.takeAck_frame _ d a) (by decide))))
  | burstHandover d =>
    cases he
    split
    · exact h.keep ((State.KeepsDrops.of_frame (s.modLens_frame d _) (by decide)).trans (State.handMark_keeps _ d _))
    · exact h
  | markSent d =>
    cases he
    split
    · refine h.keep (State.KeepsDrops.trans ?_ (State.modLink_keeps _ d fun _ => rfl))
      unfold State.markStarts
      split
      · exact .refl s
      · exact .refl s
      · split
        · exact .iteRefl (s.modLocator_keeps (Locator.quietOn_congr rfl))
        · exact .refl s
      · split
        · exact .iteRefl (.of_frame (s.modLens_frame d _) (by decide))
        · exact .refl s
    · exact h
  | locate r =>
    cases he
    refine h.takeDropRequest _ _ r fun d u hu => ?_
    unfold State.locateDrop
    simp only
    split_ifs
    iterate 3 exact hu.answer _ _ _ _
    all_goals exact (hu.keep (u.modLocator_keeps (Locator.quietOn_congr rfl))).answer _ _ _ _
  | locateHalt r => cases he; exact h.takeDropRequest _ _ r fun d u hu => hu.locateHaltDrop r d
  | flashStart =>
    cases he
    split
    · split
      · rename_i hf
        simp only [Locator.free, Bool.and_eq_true, Option.isNone_iff_eq_none] at hf
        exact h.unquiet hf.1 fun c hc => by cases hc; exact nofun
      · exact h
    · exact h
  | flashStale d => cases he; exact h.keep (.iteRefl (s.modLocator_keeps (Locator.quietOn_congr rfl)))
  | settleEnd => cases he; exact h.keep (.iteRefl (s.modLocator_keeps (Locator.quietOn_congr rfl)))
  | requestActivate =>
    cases he
    split
    · refine h.keep (.iteRefl ?_)
      have k : ∀ (f : Locator → Locator) (e : Drop), (f s.locator).capture = s.locator.capture →
          s.KeepsDrops ((s.modLocator f).setHold e) := fun f e hf =>
        (s.modLocator_keeps (Locator.quietOn_congr hf)).trans (State.setHold_keeps _ e)
      exact .ite (fun _ => k _ _ rfl) fun _ => (k _ _ rfl).trans (State.enterBundle_keeps _ _ _)
    · exact h
  | launchStart =>
    cases he
    split
    · split_ifs with hf
      · exact h.launch _ (by simpa [Locator.free] using hf.2)
      · exact h
    · exact h
  | shotComplete samples =>
    cases he
    split
    · rename_i c hc
      split_ifs
      · exact h.shotDone hc rfl rfl
      · exact h
    · exact h
  | _ => exact h.keep (.of_frame (exec_frame _ he) (by dsimp only [touchedBy]; decide))

/-- Settles O58: each command keeps the three laws together, by its frame where it touches no drop record, no port and
not the Line Locator, and by the move of its one drop where it does. -/
theorem everyStepKeepsDropsInTheirStates : Obligations.EveryStepKeepsDropsInTheirStates := by
  intro s t hh hp ht hb hs
  have law : s.DropsLaw := ⟨hh, hp, ht⟩
  suffices t.DropsLaw from ⟨this.hush, this.port, this.timers⟩
  unfold step at hs
  split at hs
  · cases hs; exact law.keep ⟨fun _ => rfl, fun _ h => h, fun _ => rfl, fun _ => .rfl⟩
  · have k : s.withoutFront.DropsLaw := law.keep ⟨fun _ => rfl, fun _ h => h, fun _ => rfl, fun _ => .rfl⟩
    exact k.exec (fun hl => hb.offUntilLoaded (hb.loading.mp hl)) _ hs

end Sys2Proof.Machine

/-! PROOF. A drop that gives up its power (O6, O7, O9), or loses its lock: what becomes of its open parts
(06 R119 to R121; 05 R100), added to what the power-down does. -/

namespace Sys2Proof.Machine

/-! ## The part of a shot and a drop after a change of parts -/

section
variable {s t : State} {d e : Drop} {n : Half}

theorem Entry.part_modPart (x : Entry) (d e : Drop) {f : Part → Part} (hf : ∀ p, p.drop = d → (f p).drop = d) :
    (x.modPart d f).part e = if e = d then (x.part d).map f else x.part e := by
  unfold Entry.part Entry.modPart
  simp only [List.find?_map]
  have keeps : ∀ g : Drop, ((fun p : Part => decide (p.drop = g)) ∘ fun p => if p.drop = d then f p else p) =
      fun p => decide (p.drop = g) := by
    intro g; funext p
    simp only [Function.comp]
    split
    · rename_i hp; rw [hf p hp, hp]
    · rfl
  rw [keeps]
  split
  · rename_i he; subst he
    cases hq : x.parts.find? fun p => decide (p.drop = e) with
    | none => rfl
    | some p => simp [show p.drop = e by simpa using List.find?_some hq]
  · rename_i he
    cases hq : x.parts.find? fun p => decide (p.drop = e) with
    | none => rfl
    | some p => simp [show p.drop = e by simpa using List.find?_some hq, he]

theorem State.part_modPart (s : State) (t n : Half) (d e : Drop) {f : Part → Part} (hf : ∀ p, p.drop = d → (f p).drop = d) :
    (s.modPart t d f).part n e = if n = t ∧ e = d then (s.part n d).map f else s.part n e := by
  unfold State.modPart
  rw [State.part_modEntry _ _ _ _ (·.modPart d f) fun _ => rfl]
  by_cases hn : n = t
  · simp only [hn, if_true, true_and, State.part]
    cases s.findEntry t with
    | none => split <;> rfl
    | some x => simp only [Option.bind_some, Entry.part_modPart x d e hf]
  · simp [hn]

theorem State.drop_of_part {p : Part} (h : s.part n d = some p) : p.drop = d := by
  obtain ⟨x, -, hx⟩ := Option.bind_eq_some_iff.mp h
  simpa using List.find?_some hx

/-- A part that an event closes with a status, if it is open (06 R121). -/
def Part.closeIfOpen (g : DropCfg) (c : ClosedStatus) (p : Part) : Part := if p.status.isOpen then p.close g c else p

theorem Part.closeIfOpen_closed (g : DropCfg) (c : ClosedStatus) (p : Part) : (p.closeIfOpen g c).status.isOpen = false := by
  unfold Part.closeIfOpen
  split
  · rfl
  · rename_i h; simpa using h

theorem Part.closeIfOpen_twice (g : DropCfg) (c : ClosedStatus) (p : Part) :
    (p.closeIfOpen g c).closeIfOpen g c = p.closeIfOpen g c :=
  if_neg (by simp [Part.closeIfOpen_closed])

/-- What the close of one part does to the parts. -/
theorem State.closePart_part_eq (s : State) (t n : Half) (d e : Drop) (c : ClosedStatus) :
    (s.closePart t d c).part n e =
      if n = t ∧ e = d then (s.part n d).map (Part.closeIfOpen (s.dropCfg d) c) else s.part n e := by
  by_cases hne : n = t ∧ e = d
  case neg =>
    rw [if_neg hne]
    unfold State.closePart
    split
    · rfl
    · rename_i p hp
      split
      · simp only
        rw [State.closeEntry_part, State.part_congr ((State.offerPart_frame _ _ _).get .shots)]
        exact (State.part_modPart s t n d e (f := fun _ => p.close _ c) fun _ _ =>
          (State.drop_of_part hp : p.drop = d)).trans (if_neg hne)
      · rfl
  case pos =>
    obtain ⟨rfl, rfl⟩ := hne
    rw [if_pos ⟨rfl, rfl⟩]
    unfold State.closePart
    split
    · rename_i hp; rw [hp]; rfl
    · rename_i p hp
      split
      · rename_i ho
        simp only
        rw [State.closeEntry_part, State.part_congr ((State.offerPart_frame _ _ _).get .shots)]
        refine (State.part_modPart s n n e e (f := fun _ => p.close _ c) fun _ _ =>
          (State.drop_of_part hp : p.drop = e)).trans ?_
        rw [if_pos ⟨rfl, rfl⟩, hp]
        simp [Part.closeIfOpen, ho]
      · rename_i ho
        rw [hp]; simp [Part.closeIfOpen, ho]

theorem Receiver.partClosed_inside {r : Receiver} {t : Half} (h : (r.partClosed t).mode = .inside n) :
    r.mode = .inside n ∧ n ≠ t := by
  unfold Receiver.partClosed at h
  by_cases hm : r.mode = .inside t
  · rw [if_pos hm] at h; cases h
  · rw [if_neg hm] at h; exact ⟨h, fun k => hm (k ▸ h)⟩

/-- A part that closes under its fragment takes the context out of IN (05 R101). -/
theorem State.closePart_inside {t : Half} {c : ClosedStatus} (h : ((s.closePart t d c).rx.get d).mode = .inside n) :
    (s.rx.get d).mode = .inside n ∧ (n = t → (s.part n d).any (·.status.isOpen) = false) := by
  unfold State.closePart at h
  split at h
  · rename_i hp
    exact ⟨h, fun k => by rw [k, hp]; rfl⟩
  · rename_i p hp
    split at h
    · simp only at h
      rw [(State.closeEntry_frame _ _).get .rx, (State.offerPart_frame _ _ _).get .rx] at h
      have h' : ((s.rx.set d ((s.rx.get d).partClosed t)).get d).mode = .inside n := h
      rw [PerDrop.get_set_same] at h'
      obtain ⟨hm, hn⟩ := Receiver.partClosed_inside h'
      exact ⟨hm, fun k => absurd k hn⟩
    · rename_i ho
      exact ⟨h, fun k => by rw [k, hp]; simpa using ho⟩

/-- What the closes of some of a drop's parts do to the parts and to the drop's context. -/
theorem State.closeParts_part (d : Drop) (c : ClosedStatus) (ts : List Half) (s : State) :
    (∀ n e, (ts.foldl (fun s t => s.closePart t d c) s).part n e =
      if n ∈ ts ∧ e = d then (s.part n d).map (Part.closeIfOpen (s.dropCfg d) c) else s.part n e) ∧
    ∀ n, ((ts.foldl (fun s t => s.closePart t d c) s).rx.get d).mode = .inside n →
      (s.rx.get d).mode = .inside n ∧ (n ∈ ts → (s.part n d).any (·.status.isOpen) = false) := by
  induction ts generalizing s with
  | nil => exact ⟨fun n e => by simp, fun n h => ⟨h, by simp⟩⟩
  | cons t ts ih =>
    obtain ⟨parts, modes⟩ := ih (s.closePart t d c)
    have cfg : (s.closePart t d c).dropCfg d = s.dropCfg d := State.dropCfg_of ((s.closePart_frame t d c).get .cfg) d
    refine ⟨fun n e => ?_, fun n h => ?_⟩
    · rw [List.foldl_cons, parts, cfg, State.closePart_part_eq, State.closePart_part_eq]
      by_cases he : e = d
      · subst he
        by_cases ht : n = t
        · subst ht
          simp only [and_self, if_true, and_true, List.mem_cons, true_or]
          split
          · rw [Option.map_map]
            congr 1
            funext p; exact p.closeIfOpen_twice _ _
          · rfl
        · simp [ht]
      · simp [he]
    · obtain ⟨h1, h2⟩ := modes n h
      obtain ⟨k1, k2⟩ := State.closePart_inside h1
      refine ⟨k1, fun hm => ?_⟩
      by_cases ht : n = t
      · exact k2 ht
      · have := h2 ((List.mem_cons.mp hm).resolve_left ht)
        rwa [State.closePart_part_eq, if_neg fun k => ht k.1] at this

theorem State.trigger_mem_of_part {p : Part} (h : s.part n d = some p) : n ∈ s.shots.table.map Entry.trigger := by
  obtain ⟨x, hx, -⟩ := Option.bind_eq_some_iff.mp h
  exact List.mem_map.mpr ⟨x, List.mem_of_find?_eq_some hx, by simpa using List.find?_some hx⟩

/-- The closing of a drop's open parts closes each of them, and leaves every other part as it is (06 R119, R120). -/
theorem State.closeOpenParts_part (s : State) (d e : Drop) (c : ClosedStatus) (n : Half) :
    (s.closeOpenParts d c).part n e =
      if e = d then (s.part n d).map (Part.closeIfOpen (s.dropCfg d) c) else s.part n e := by
  refine ((State.closeParts_part d c _ s).1 n e).trans ?_
  by_cases he : e = d
  · subst he
    cases hp : s.part n e with
    | none => simp
    | some p => simp only [State.trigger_mem_of_part hp, and_self, if_true]
  · simp [he]

/-- A context still in IN after its drop's open parts have closed was in IN before, bound to no open part. -/
theorem State.closeOpenParts_inside {c : ClosedStatus} (h : ((s.closeOpenParts d c).rx.get d).mode = .inside n) :
    (s.part n d).any (·.status.isOpen) = false := by
  obtain ⟨-, hm⟩ := (State.closeParts_part d c _ s).2 n h
  cases hp : s.part n d with
  | none => rfl
  | some p => exact hp ▸ hm (State.trigger_mem_of_part hp)

/-- A part whose fragment has ended as a runt (05 R100). -/
def Part.cutOff (p : Part) : Part := { p with flags := { p.flags with lengthError := true } }

/-- The end of a fragment marks the part it is bound to, and no other (05 R100, R102). -/
theorem State.endFragment_part (s : State) (d e : Drop) (n : Half) :
    (s.endFragment d).part n e =
      if (s.rx.get d).mode = .inside n ∧ e = d then (s.part n d).map Part.cutOff else s.part n e := by
  unfold State.endFragment
  split
  · rename_i hm; simp [hm]
  · rename_i t hm
    refine (State.part_modPart s t n d e (f := Part.cutOff) fun _ h => h).trans ?_
    simp [hm, eq_comm]
  · rename_i hm; simp only [hm]; simp; rfl

/-! ## Parts lost with the power or the lock -/

theorem State.PartsLost.congr {u v : State} {c : ClosedStatus} {f : Half → Bool} (h : s.shots = t.shots) (k : u.shots = v.shots)
    (p : s.PartsLost u d c f) : t.PartsLost v d c f := by
  intro law
  obtain ⟨p1, p2⟩ := p (law.congr h.symm)
  refine ⟨fun n q hq ho => ?_, fun n e he => ?_⟩
  · rw [← State.part_congr k]; exact p1 n q ((State.part_congr h n d).trans hq) ho
  · rw [← State.part_congr k, ← State.part_congr h]; exact p2 n e he

/-- A part closed with a status other than COMPLETE keeps what it has received and has no score (06 R121, 09 R165). -/
theorem Part.closeIfOpen_lost (g : DropCfg) {c : ClosedStatus} (hc : c ≠ .complete) {p : Part} (ho : p.status.isOpen = true) :
    p.closeIfOpen g c = { p with status := .closed c, score := none, nextIndex := none, sums := none } := by
  have hs : partScore g c p = none := Part.close_score g hc p
  simp [Part.closeIfOpen, ho, Part.close, hs]

/-- The open parts close, and then the fragment ends: no part that was open is cut off (05 R101). -/
theorem State.closingFirst_partsLost (s : State) (d : Drop) {c : ClosedStatus} (hc : c ≠ .complete) :
    s.PartsLost ((s.closeOpenParts d c).endFragment d) d c fun _ => false := by
  refine fun _ => ⟨fun n p hp ho => ?_, fun n e he => ?_⟩
  · rw [State.endFragment_part, if_neg, State.closeOpenParts_part, if_pos rfl, hp, Option.map_some,
      Part.closeIfOpen_lost _ hc ho]
    · simp
    · intro k
      have := State.closeOpenParts_inside k.1
      rw [hp] at this; simp [ho] at this
  · rw [State.endFragment_part, if_neg fun k => he k.2, State.closeOpenParts_part, if_neg he]

/-- The fragment ends, and then the open parts close: the part the fragment was bound to is cut off (05 R100). -/
theorem State.receiverFirst_partsLost (s : State) (d : Drop) {c : ClosedStatus} (hc : c ≠ .complete) :
    s.PartsLost ((s.endFragment d).closeOpenParts d c) d c fun n => decide ((s.rx.get d).mode = .inside n) := by
  refine fun _ => ⟨fun n p hp ho => ?_, fun n e he => ?_⟩
  · rw [State.closeOpenParts_part, if_pos rfl, State.endFragment_part, hp]
    by_cases hm : (s.rx.get d).mode = .inside n
    · have ho' : p.cutOff.status.isOpen = true := ho
      simp only [hm, true_and, if_true, Option.map_some, Part.closeIfOpen_lost _ hc ho', decide_true, Bool.or_true]
      rfl
    · simp [hm, Part.closeIfOpen_lost _ hc ho]
  · rw [State.closeOpenParts_part, if_neg he, State.endFragment_part, if_neg fun k => he k.2]

/-- From READY a power-down closes the drop's open parts POWER_LOST (01 R4, 06 R120). -/
theorem State.powerDown_partsLost (s : State) (d : Drop) (next : DropState) (hs : (s.drops.get d).state = .ready) :
    s.PartsLost (s.powerDown d next) d .powerLost fun _ => false := by
  have shots : ((((s.openSwitch d next).giveUpShare d).modLink d LinkPort.powerOff)).shots = s.shots :=
    (State.giveUpShare_frame _ d).get .shots
  have notHushed : (s.drops.get d).state ≠ .hushed := by rw [hs]; decide
  unfold State.powerDown
  simp only [hs, if_true, reduceCtorEq, if_false]
  refine (State.closingFirst_partsLost _ d (by decide)).congr shots ?_
  exact (((State.clearHomed_frame _ d).get .shots).trans ((State.lensLeaveReady_frame _ d).get .shots)).symm

theorem State.powerDown_losesPower (s : State) (d : Drop) {next : DropState} (hn : next.powered = false) :
    s.LosesPower (s.powerDown d next) d :=
  ⟨(s.powerDown_spec d hn).1, s.powerDown_partsLost d next⟩

section
variable {u : State} {f : DropRec → DropRec}

/-- A change of the drop record before the end of its power that keeps its state. -/
theorem State.LosesPower.after_modDrop (h : (s.modDrop d f).LosesPower u d)
    (hf : (f (s.drops.get d)).state = (s.drops.get d).state) : s.LosesPower u d := by
  have hr : ((s.modDrop d f).drops.get d).state = (s.drops.get d).state := by simpa using hf
  exact ⟨h.1.after_modDrop hf, fun k => (h.2 (hr.trans k)).congr (s := s.modDrop d f) rfl rfl⟩

/-- A change of the drop record behind the end of its power that keeps its state and its powered timers. -/
theorem State.LosesPower.modDrop (h : s.LosesPower u d) (hs : ∀ r, (f r).state = r.state)
    (ht : ∀ r, (f r).rampWindow = r.rampWindow ∧ (f r).warmTimer = r.warmTimer ∧
      (f r).relockWindow = r.relockWindow ∧ (f r).stableTimer = r.stableTimer ∧ (f r).napTimer = r.napTimer ∧
      (f r).steadyTrip = r.steadyTrip) : s.LosesPower (u.modDrop d f) d :=
  ⟨h.1.modDrop hs ht, fun k => (h.2 k).congr (u := u) rfl rfl⟩

end

end

/-! ## Faults, trips and naps -/

section
variable (s : State) (d : Drop)

/-- The drop record after a power-down but for the measured current, which reads a free value (01 R4, R8). -/
theorem State.powerDown_record {next : DropState} (hn : next.powered = false) :
    (s.powerDown d next).drops.get d = { (s.drops.get d).stopPowered with
      state := next, measured := ((s.powerDown d next).drops.get d).measured } := by
  rw [(s.powerDown_spec d hn).2]

/-- A drop enters FAULT, from a record that differs from the drop's own in a way that keeps its state. -/
theorem State.enterFault_after (f : DropRec → DropRec) (hf : (f (s.drops.get d)).state = (s.drops.get d).state) (c : Cause) :
    ∃ u, (s.modDrop d f).enterFault d c = u.reportState d .fault (some c) ∧ s.LosesPower u d ∧
      u.drops.get d = { (f (s.drops.get d)).stopPowered with
        state := .fault, cause := some c, measured := (u.drops.get d).measured } := by
  have k := ((s.modDrop d f).powerDown_losesPower d (next := .fault) rfl).after_modDrop hf
  refine ⟨_, rfl, k.modDrop (fun _ => rfl) fun _ => ⟨rfl, rfl, rfl, rfl, rfl, rfl⟩, ?_⟩
  rw [State.modDrop_drops, PerDrop.get_set_same, (State.powerDown_spec _ d rfl).2]
  simp

theorem State.enterFault_faultsTo (c : Cause) : s.FaultsTo d c (.next (s.enterFault d c)) := by
  obtain ⟨u, hu, hl, hr⟩ := s.enterFault_after d id rfl c
  have hid : s.modDrop d id = s := by simp [State.modDrop]
  rw [hid] at hu
  exact ⟨u, by rw [hu], hl, hr⟩

/-- The drop record with a trip counted and its series at a number (01 R10). -/
def DropRec.countTrip (c : TripCause) (series : Nat) (r : DropRec) : DropRec :=
  { r with tripCount := bump r.tripCount, lastTripCause := some c, tripSeries := min 3 series }

theorem State.trip_eq (c : TripCause) :
    let series := (s.drops.get d).tripSeries + 1
    let s1 := s.modDrop d (DropRec.countTrip c series)
    s.trip d c =
      if series < 3 then
        ((s1.powerDown d .tripped).modDrop d fun r =>
          { r with cause := some c.toCause, backoffTimer := s.timer (backoffUs series) }).reportState d .tripped
          (some c.toCause)
      else s1.enterFault d .tripLimit := rfl

theorem State.modDrop_modDrop (f g : DropRec → DropRec) : (s.modDrop d f).modDrop d g = s.modDrop d (g ∘ f) := by
  simp [State.modDrop]

/-- What a trip comes to, from a record whose measured current and steady-trip timer a sample has just set (01 R8 to
R10). -/
theorem State.trip_after (f : DropRec → DropRec) (c : TripCause) {m : Nat} {x : Timer}
    (hf : f (s.drops.get d) = { s.drops.get d with measured := m, steadyTrip := x }) :
    s.TripsTo d c (.next ((s.modDrop d f).trip d c)) := by
  have series : ((s.modDrop d f).drops.get d).tripSeries = (s.drops.get d).tripSeries := by simp [hf]
  have state : ∀ n, ((DropRec.countTrip c n ∘ f) (s.drops.get d)).state = (s.drops.get d).state := fun n => by
    simp [hf, DropRec.countTrip]
  unfold State.TripsTo
  rw [State.trip_eq]
  simp only [series, State.modDrop_modDrop]
  by_cases hs : (s.drops.get d).tripSeries < 2
  · rw [if_pos hs, if_pos (by omega)]
    refine ⟨_, rfl, ?_, ?_⟩
    · refine State.LosesPower.modDrop ?_ (fun _ => rfl) fun _ => ⟨rfl, rfl, rfl, rfl, rfl, rfl⟩
      exact (State.powerDown_losesPower _ d rfl).after_modDrop (state _)
    · rw [State.modDrop_drops, PerDrop.get_set_same, (State.powerDown_spec _ d rfl).2]
      have h3 : min 3 ((s.drops.get d).tripSeries + 1) = (s.drops.get d).tripSeries + 1 := by omega
      simp [hf, DropRec.countTrip, DropRec.stopPowered, h3, State.timer, backoffUs, Config.firstBackoffUs,
        Config.secondBackoffUs]
  · rw [if_neg hs, if_neg (by omega)]
    obtain ⟨u, hu, hl, hr⟩ := s.enterFault_after d _ (state ((s.drops.get d).tripSeries + 1)) .tripLimit
    refine ⟨u, by rw [← hu], hl, ?_⟩
    rw [hr]
    have h3 : min 3 ((s.drops.get d).tripSeries + 1) = 3 := by omega
    simp [hf, DropRec.countTrip, DropRec.stopPowered, h3]

theorem State.trip_tripsTo (c : TripCause) : s.TripsTo d c (.next (s.trip d c)) := by
  have hid : s.modDrop d id = s := by simp [State.modDrop]
  have h := s.trip_after d id c rfl
  rwa [hid] at h

/-- The hard trip level is reached by 2000 mA, in RAMPING where twice the allowance reaches it too (01 R3, R9). -/
theorem State.hardTrips_iff :
    s.hardTrips d (measuredOf (s.drops.get d).state (s.dropCfg d).allowance Config.hardTripMa) = true ↔
      (s.drops.get d).state.powered = true ∧ ((s.drops.get d).state = .ramping → 1000 ≤ (s.dropCfg d).allowance) := by
  unfold State.hardTrips
  rw [Bool.and_eq_true, decide_eq_true_eq]
  refine and_congr_right fun _ => ?_
  unfold measuredOf Config.hardTripMa Config.measuredMaxMa
  split <;> rename_i hr <;> simp only [hr, forall_const, false_implies, iff_true] <;> omega

end

/-- Settles O6: each trip is `State.trip`, and a hard trip acts exactly where its level can be reached. -/
theorem tripsEndInTrippedOrFault : Obligations.TripsEndInTrippedOrFault := by
  intro d s
  refine ⟨fun hs hr => ?_, fun hp hr => ?_, fun hp ha => ?_, fun hs ha => ?_, fun hp => ⟨?_, ?_, ?_⟩⟩
  · have : exec (.rampWindowExpiry d) s = .next (s.trip d .rampFail) := congrArg _ (if_pos ⟨hs, hr⟩)
    rw [this]; exact s.trip_tripsTo d _
  · have : exec (.steadyTripExpiry d) s = .next (s.trip d .overcurrent) := congrArg _ (if_pos ⟨hp, hr⟩)
    rw [this]; exact s.trip_tripsTo d _
  · have : exec (.hardTrip d) s = .next (s.trip d .short) := congrArg _ (if_pos ((s.hardTrips_iff d).mpr ⟨hp, ha⟩))
    rw [this]; exact s.trip_tripsTo d _
  · refine congrArg _ (if_neg fun k => ?_)
    have := ((s.hardTrips_iff d).mp k).2 hs
    omega
  · exact congrArg _ (if_neg fun k => by rw [k.1] at hp; cases hp)
  · exact congrArg _ (if_neg fun k => by rw [k.1] at hp; cases hp)
  · refine congrArg _ (if_neg fun k => ?_)
    have := ((s.hardTrips_iff d).mp k).1
    rw [hp] at this; cases this

/-- Settles O7: a sample is taken into the drop record, and then trips the drop or leaves it there. -/
theorem samplesDriveTheSteadyTripTimer : Obligations.SamplesDriveTheSteadyTripTimer := by
  intro d n s a r m c hc
  have he : exec c s = .next (s.sampleCurrent d n) := by rcases hc with rfl | rfl <;> rfl
  have hm : measuredOf (s.drops.get d).state (s.dropCfg d).allowance n = m := rfl
  have ht : s.hardTrips d m = true ↔ r.state.powered = true ∧ 2000 ≤ m := by
    unfold State.hardTrips
    rw [Bool.and_eq_true, decide_eq_true_eq]; rfl
  rw [he]
  unfold State.sampleCurrent
  simp only [hm]
  by_cases k : r.state.powered = true ∧ 2000 ≤ m
  · rw [if_pos k, if_pos (ht.mpr k)]
    exact s.trip_after d _ _ rfl
  · rw [if_neg k, if_neg fun x => k (ht.mp x)]
    refine ⟨_, rfl, s.modDrop_frame d _, ?_⟩
    rw [State.modDrop_drops, PerDrop.get_set_same]
    show DropRec.measure _ _ _ r = _
    unfold DropRec.measure
    simp only [Bool.not_eq_true']
    rfl

/-- Settles O9: each of the four timers, where it runs. -/
theorem timersEndTheirStates : Obligations.TimersEndTheirStates := by
  intro d s
  refine ⟨fun hs hr => ?_, fun hs hr => ?_, fun hs hr => ?_, fun hr => ?_⟩
  · have : exec (.warmTimerExpiry d) s = .next (s.enterFault d .noLink) := congrArg _ (if_pos ⟨hs, hr⟩)
    rw [this]; exact s.enterFault_faultsTo d _
  · have : exec (.relockWindowExpiry d) s = .next (s.enterFault d .linkDead) := congrArg _ (if_pos ⟨hs, hr⟩)
    rw [this]; exact s.enterFault_faultsTo d _
  · exact ⟨s.powerDown d .napping, congrArg _ (if_pos ⟨hs, hr⟩), s.powerDown_losesPower d rfl, s.powerDown_record d rfl⟩
  · refine ⟨_, congrArg Host.Outcome.next (if_pos hr), s.modDrop_frame d _, ?_⟩
    rw [State.modDrop_drops, PerDrop.get_set_same]

end Sys2Proof.Machine

/-! PROOF. The requests of the Drop Power Unit and the ramp (O1 to O5, O8): what each does to a drop, by its state, behind the
note that asks. -/

namespace Sys2Proof.Machine

/-! ## Power off -/

section
variable {s : State} {d : Drop}

theorem State.turnOff_fault (h : (s.drops.get d).state = .fault) : s.turnOff d = s := by
  unfold State.turnOff; rw [h]

theorem State.turnOff_claiming (h : (s.drops.get d).state = .claiming) : s.turnOff d = (s.leaveClaims d).settleOff d := by
  unfold State.turnOff; rw [h]

theorem State.turnOff_powered (h : (s.drops.get d).state.powered = true) :
    s.turnOff d = (s.powerDown d .off).modDrop d fun r => { r with cause := none } := by
  unfold State.turnOff
  cases hs : (s.drops.get d).state <;> first | rfl | (rw [hs] at h; cases h)

theorem State.turnOff_resting (hp : ¬(s.drops.get d).state.powered = true) (hf : (s.drops.get d).state ≠ .fault)
    (hc : (s.drops.get d).state ≠ .claiming) : s.turnOff d = s.settleOff d := by
  unfold State.turnOff
  cases hs : (s.drops.get d).state <;> simp_all [DropState.powered]

/-- An unpowered drop as it enters OFF (01 R4, R26). -/
theorem State.settleOff_drops (s : State) (d : Drop) :
    (s.settleOff d).drops.get d = { s.drops.get d with state := .off, cause := none, backoffTimer := .stopped } := by
  simp [State.settleOff, State.clearHomed]

theorem State.settleOff_lens (s : State) (d : Drop) : (s.settleOff d).lens.get d = (s.lens.get d).unhomed := by
  simp [State.settleOff, State.clearHomed, Lens.unhomed]

theorem State.settleOff_frame (s : State) (d : Drop) : s.ChangesOnly (s.settleOff d) [.drops, .lens] [d] :=
  ((s.modDrop_frame d _).mono (by decide) (by simp)).step (State.clearHomed_frame _ d) (by decide) (by simp)

/-- A powered drop that POWER_OFF takes down (01 R24, R26). -/
theorem State.turnOff_losesPower (h : (s.drops.get d).state.powered = true) :
    s.LosesPower (s.turnOff d) d ∧ (s.turnOff d).drops.get d = { (s.drops.get d).stopPowered with
      state := .off, cause := none, measured := ((s.turnOff d).drops.get d).measured } := by
  rw [State.turnOff_powered h]
  refine ⟨(s.powerDown_losesPower d rfl).modDrop (fun _ => rfl) fun _ => ⟨rfl, rfl, rfl, rfl, rfl, rfl⟩, ?_⟩
  rw [State.modDrop_drops, PerDrop.get_set_same, (s.powerDown_spec d rfl).2]

/-- An unpowered drop but one in FAULT that POWER_OFF takes to OFF, from CLAIMING out of the claim queue (01 R26). -/
theorem State.turnOff_settles (hp : ¬(s.drops.get d).state.powered = true) (hf : (s.drops.get d).state ≠ .fault) :
    (s.turnOff d).drops.get d = { s.drops.get d with state := .off, cause := none, backoffTimer := .stopped } ∧
      s.ChangesOnly (s.turnOff d) [.drops, .lens, .budget] [d] ∧
      (s.turnOff d).lens.get d = (s.lens.get d).unhomed ∧
      (s.turnOff d).budget =
        (if (s.drops.get d).state = .claiming then
          { s.budget with claims := s.budget.claims.filter fun e => decide (e.drop ≠ d) }
        else s.budget) := by
  by_cases hc : (s.drops.get d).state = .claiming
  · rw [State.turnOff_claiming hc, if_pos hc]
    exact ⟨State.settleOff_drops _ d, ((s.leaveClaims_frame d).mono (by decide) (by simp)).step
      (State.settleOff_frame _ d) (by decide) (by simp), State.settleOff_lens _ d, (State.settleOff_frame _ d).get .budget⟩
  · rw [State.turnOff_resting hp hf hc, if_neg hc]
    exact ⟨s.settleOff_drops d, (s.settleOff_frame d).mono (by decide) (by simp), s.settleOff_lens d,
      (s.settleOff_frame d).get .budget⟩

/-- The on-intent of a drop is cleared, the rest of its record kept. -/
def State.clearIntent (s : State) (d : Drop) : State := s.modDrop d fun r => { r with onIntent := false }

theorem State.clearIntent_get (s : State) (d : Drop) :
    (s.clearIntent d).drops.get d = { s.drops.get d with onIntent := false } := by
  simp [State.clearIntent]

theorem exec_powerOff {r : Request} (h : s.TakesDrop .service r d) :
    exec (.powerOff r) s = .next (((s.countHeard.clearIntent d).turnOff d).answerDrop .powerOff r d .done) :=
  congrArg Host.Outcome.next (State.takeDropRequest_taken h _ _)

end

/-- Settles O2: the drop's state decides which of the three ways `State.turnOff` takes, behind the note that asks and the
cleared on-intent. -/
theorem powerOffTurnsADropOff : Obligations.PowerOffTurnsADropOff := by
  intro r d s h
  refine ⟨_, exec_powerOff h, ?_⟩
  have frame : s.countHeard.ChangesOnly (s.countHeard.clearIntent d) [.drops] [d] := s.countHeard.modDrop_frame d _
  have rec' : (s.countHeard.clearIntent d).drops.get d = { s.drops.get d with onIntent := false } :=
    s.countHeard.clearIntent_get d
  have st : ((s.countHeard.clearIntent d).drops.get d).state = (s.drops.get d).state := by rw [rec']
  by_cases hf : (s.drops.get d).state = .fault
  · rw [if_pos hf, State.turnOff_fault (st.trans hf)]
    exact ⟨rec', frame⟩
  rw [if_neg hf]
  by_cases hp : (s.drops.get d).state.powered = true
  · obtain ⟨hl, hr⟩ := State.turnOff_losesPower (by rw [st]; exact hp)
    rw [if_pos hp]
    exact ⟨hl.after_modDrop rfl, hr.trans (by rw [rec']; rfl)⟩
  · obtain ⟨hr, hc, hl, hb⟩ := State.turnOff_settles (by rw [st]; exact hp) (by rw [st]; exact hf)
    rw [if_neg hp]
    refine ⟨hr.trans (by rw [rec']), (frame.mono (by decide) fun _ h => h).trans hc, hl, hb.trans ?_⟩
    rw [st]; rfl

/-! ## The other requests and the ramp -/

section
variable {s : State} {d : Drop} {r : Request}

theorem exec_powerOn (h : s.TakesDrop .service r d) : exec (.powerOn r) s = .next (s.countHeard.powerOnDrop r d) :=
  congrArg Host.Outcome.next (State.takeDropRequest_taken h _ _)

theorem exec_wake (h : s.TakesDrop .controller r d) :
    exec (.wake r) s = .next (if (s.drops.get d).state = .napping then
      (s.countHeard.enterClaiming d).answerDrop .wake r d .accepted
    else s.countHeard.answerDrop .wake r d .refusedState) := by
  refine congrArg Host.Outcome.next ((State.takeDropRequest_taken h _ _).trans ?_)
  exact ite_congr rfl (fun k => by rw [show s.countHeard.wakeDrop d = _ from if_pos k]) fun _ => rfl

theorem exec_clear (h : s.TakesDrop .service r d) :
    exec (.clear r) s = .next (if (s.drops.get d).state = .fault then
      (s.countHeard.clearFault d).answerDrop .clear r d .done
    else s.countHeard.answerDrop .clear r d .refusedState) :=
  congrArg Host.Outcome.next (State.takeDropRequest_taken h _ _)

theorem State.answerDrop_of (k : RequestKind) (c : AnswerCode) {st : DropState} (h : (s.drops.get d).state = st) :
    s.answerDrop k r d c = s.answer k.value r c (.dropState st) := by
  unfold State.answerDrop; rw [h]

end

/-- Settles O1: an enabled OFF drop is turned on, and every other case only answers. -/
theorem powerOnClaimsAnOffDrop : Obligations.PowerOnClaimsAnOffDrop := by
  intro r d s h rec' code
  rw [exec_powerOn h]
  unfold State.powerOnDrop
  have hs : (s.countHeard.drops.get d).state = rec'.state := rfl
  by_cases en : (s.dropCfg d).enabled = false
  · rw [if_pos (.inl en), if_pos (by rw [State.countHeard_dropCfg, en]; rfl)]
    rfl
  have on : (s.dropCfg d).enabled = true := by simpa using en
  rw [State.countHeard_dropCfg, hs, on]
  cases k : rec'.state <;> simp only [Bool.not_true, Bool.true_eq_false, Bool.false_eq_true, false_or, reduceCtorEq, if_true,
    if_false]
  case off =>
    have turned := s.countHeard.turnOn_claims d
    exact ⟨_, congrArg Host.Outcome.next (State.answerDrop_of _ _ (by rw [turned.record])), turned⟩
  all_goals exact congrArg Host.Outcome.next (State.answerDrop_of _ _ k)

/-- Settles O3: a NAPPING drop is claimed for, and every other state only answers. -/
theorem wakeClaimsANappingDrop : Obligations.WakeClaimsANappingDrop := by
  intro r d s h code
  rw [exec_wake h]
  have woken := s.countHeard.enterClaiming_claims d
  by_cases k : (s.drops.get d).state = .napping
  · rw [if_pos k, if_pos k]
    exact ⟨_, congrArg Host.Outcome.next (State.answerDrop_of _ _ (by rw [woken.record])), woken⟩
  · rw [if_neg k, if_neg k]; rfl

/-- Settles O4: a drop in FAULT is cleared, and every other state only answers. -/
theorem clearTakesADropOutOfFault : Obligations.ClearTakesADropOutOfFault := by
  intro r d s h rec' code
  rw [exec_clear h]
  have cleared : (s.countHeard.clearFault d).drops.get d =
      { rec' with state := .off, onIntent := false, tripSeries := 0, cause := none, lastTripCause := none } := by
    simp [State.clearFault, State.clearHomed, rec']
  by_cases k : rec'.state = .fault
  · rw [if_pos k, if_pos k]
    refine ⟨_, congrArg Host.Outcome.next (State.answerDrop_of _ _ (by rw [cleared])), cleared, ?_,
      ((State.modDrop_frame _ d _).mono (by decide) (by simp)).step (State.clearHomed_frame _ d) (by decide) (by simp)⟩
    simp [State.clearFault, State.clearHomed, Lens.unhomed]
  · rw [if_neg k, if_neg k]; rfl

/-- Settles O5: each command acts under its guard and changes nothing outside it. -/
theorem rampedDropsWarmAndLock : Obligations.RampedDropsWarmAndLock := by
  intro d s r l allowance
  refine ⟨fun hs hr ha => ?_, fun h => ?_, fun hp hl => ?_, fun h => ?_⟩
  · refine ⟨s.enterWarming d, congrArg Host.Outcome.next (if_pos ⟨hs, hr, ha⟩), s.enterWarming_frame d, ?_, ?_⟩ <;>
      simp [State.enterWarming, State.timer, Config.warmTimerUs, r, l]
  · refine congrArg Host.Outcome.next (if_neg fun ⟨hs, hr, ha⟩ => ?_)
    rcases h with h | h | h
    · exact h hs
    · exact absurd (hr.symm.trans h) (by decide)
    · exact ha h
  · refine ⟨_, congrArg Host.Outcome.next (if_pos ⟨hp, hl⟩), ?_, ?_⟩
    · exact (s.modLink_frame d _).trans (State.heardItem_frame _ d)
    · simp [State.heardItem, State.timer, Config.silenceUs, l]
  · refine congrArg Host.Outcome.next (if_neg fun ⟨hp, hl⟩ => ?_)
    rcases h with h | h
    · exact absurd (hp.symm.trans h) (by decide)
    · exact absurd (h.symm.trans hl) (by decide)

/-- Settles O8: a TRIPPED drop at its backoff timer's expiry, and at POWER_OFF. -/
theorem backoffEndsInClaiming : Obligations.BackoffEndsInClaiming := by
  constructor
  · intro d s hs hr
    have claimed := (s.modDrop d fun r => { r with cause := none, backoffTimer := .stopped }).enterClaiming_claims d
    refine ⟨_, congrArg Host.Outcome.next (if_pos ⟨hs, hr⟩), ?_⟩
    refine ⟨((s.modDrop_frame d _).mono (by decide) fun _ h => h).trans claimed.frame, ?_, claimed.queue, claimed.homed,
      claimed.notes⟩
    rw [claimed.record]; simp
  · intro r d s h hs
    have st : ((s.countHeard.clearIntent d).drops.get d).state = .tripped := by
      rw [s.countHeard.clearIntent_get d]; exact hs
    obtain ⟨hr, -⟩ := State.turnOff_settles (s := s.countHeard.clearIntent d) (d := d) (by rw [st]; decide) (by rw [st]; decide)
    have drops : (((s.countHeard.clearIntent d).turnOff d).answerDrop .powerOff r d .done).drops =
        ((s.countHeard.clearIntent d).turnOff d).drops := (State.answer_frame _ _ _ _ _).get .drops
    refine ⟨_, exec_powerOff h, ?_⟩
    rw [drops, hr]
    exact ⟨rfl, rfl⟩

end Sys2Proof.Machine

/-! PROOF. The link of a drop (O10, O11): what a loss of lock closes and asks for, and what the sixth beat in lock
brings. -/

namespace Sys2Proof.Machine

/-! ## Loss of lock -/

section
variable {s t : State} {d : Drop}

/-- A change of entries that keeps what the shot table's law reads. -/
theorem State.ShotLaw.mapTable (h : s.ShotLaw) {g : Entry → Entry} (ht : t.shots.table = s.shots.table.map g)
    (hg : ∀ e, (g e).trigger = e.trigger ∧ (g e).parts.map Part.drop = e.parts.map Part.drop ∧ (g e).state = e.state ∧
      (g e).age = e.age ∧ (g e).hasOpenPart = e.hasOpenPart) : t.ShotLaw := by
  have all : ∀ {p : Entry → Prop}, (∀ e ∈ s.shots.table, p (g e)) → ∀ e ∈ t.shots.table, p e := by
    intro p k e he
    rw [ht] at he
    obtain ⟨x, hx, rfl⟩ := List.mem_map.mp he
    exact k x hx
  refine ⟨by rw [ht, List.length_map]; exact h.size, ?_, all fun e he => ?_, all fun e he => ?_, all fun e he => ?_⟩
  · rw [ht, List.map_map, show Entry.trigger ∘ g = Entry.trigger from funext fun e => (hg e).1]; exact h.numbers
  · rw [(hg e).2.1]; exact h.drops e he
  · rw [(hg e).2.2.1, (hg e).2.2.2.2]; exact h.opened e he
  · rw [(hg e).2.2.1, (hg e).2.2.2.1]; exact h.aged e he

/-- A part's cut-off fragment leaves everything the shot table's law reads. -/
theorem Entry.modPart_cutOff_keeps (e : Entry) (d : Drop) :
    (e.modPart d Part.cutOff).parts.map Part.drop = e.parts.map Part.drop ∧
      (e.modPart d Part.cutOff).hasOpenPart = e.hasOpenPart := by
  unfold Entry.modPart Entry.hasOpenPart
  constructor
  · rw [List.map_map]
    refine List.map_congr_left fun p _ => ?_
    simp only [Function.comp]; split <;> rfl
  · rw [List.any_map]
    congr 1; funext p
    simp only [Function.comp]; split <;> rfl

theorem State.endFragment_table (s : State) (d : Drop) : ∃ g : Entry → Entry,
    (s.endFragment d).shots.table = s.shots.table.map g ∧ ∀ e, (g e).trigger = e.trigger ∧
      (g e).parts.map Part.drop = e.parts.map Part.drop ∧ (g e).state = e.state ∧ (g e).age = e.age ∧
      (g e).hasOpenPart = e.hasOpenPart := by
  unfold State.endFragment
  split
  · exact ⟨fun e => e, by simp, fun _ => ⟨rfl, rfl, rfl, rfl, rfl⟩⟩
  · rename_i t _
    refine ⟨fun e => if e.trigger = t then e.modPart d Part.cutOff else e, rfl, fun e => ?_⟩
    obtain ⟨hd, ho⟩ := e.modPart_cutOff_keeps d
    dsimp only
    split
    · exact ⟨rfl, hd, rfl, rfl, ho⟩
    · exact ⟨rfl, rfl, rfl, rfl, rfl⟩
  · exact ⟨fun e => e, by simp, fun _ => ⟨rfl, rfl, rfl, rfl, rfl⟩⟩

theorem State.endFragment_shotLaw (h : s.ShotLaw) (d : Drop) : (s.endFragment d).ShotLaw := by
  obtain ⟨g, ht, hg⟩ := s.endFragment_table d
  exact h.mapTable ht hg

/-- The end of a fragment leaves the number of open parts as it is. -/
theorem State.endFragment_openParts (h : s.ShotLaw) (d : Drop) :
    ((s.endFragment d).openParts d).length = (s.openParts d).length := by
  obtain ⟨g, ht, hg⟩ := s.endFragment_table d
  rw [← State.openParts_length (State.endFragment_shotLaw h d), ← State.openParts_length h, ht, List.map_map,
    show Entry.trigger ∘ g = Entry.trigger from funext fun e => (hg e).1]
  congr 2
  funext n
  rw [State.endFragment_part]
  split
  · cases s.part n d <;> rfl
  · rfl

theorem State.LensLeft.of_openParts {x : Lens} (k : s.lens = t.lens) (law : t.ShotLaw → s.ShotLaw)
    (ho : t.ShotLaw → (s.openParts d).length = (t.openParts d).length) (l : s.LensLeft d x) : t.LensLeft d x := by
  obtain ⟨n, hx, h0, h1⟩ := l
  rw [k] at hx h0 h1
  exact ⟨n, hx, h0, fun p q => (h1 p (law q)).trans (bumps_eq _ _ (ho q) _)⟩

/-- The closing of a drop's open parts keeps what its lens leaves READY with (06 R121). -/
theorem State.closeOpenParts_leavingNotes (s : State) (d : Drop) {c : ClosedStatus} (hc : c ≠ .complete) :
    ((s.closeOpenParts d c).lens.get d).leavingNotes d = (s.lens.get d).leavingNotes d := by
  obtain ⟨-, n, hl, -, -⟩ := State.closeParts_passes d hc (s.shots.table.map Entry.trigger) s
  exact (congrArg (Lens.leavingNotes d) hl).trans rfl

/-- What the loss of lock of a READY drop does to its parts, its context, its lens and the notes, in either order of the
two closings (05 R100, 06 R119). -/
theorem State.closeLost_spec (s : State) (d : Drop) (o : LossOrder) :
    (s.closeLost d o).cli = s.cli ∧ ((s.closeLost d o).rx.get d).mode = .idle ∧
      (s.ShotLaw → (s.closeLost d o).dropHasOpenPart d = false) ∧
      (s.PartsLost (s.closeLost d o) d .linkLost fun n =>
        decide (o = .receiverFirst) && decide ((s.rx.get d).mode = .inside n)) ∧
      s.LensLeft d ((s.closeLost d o).lens.get d).leftReady ∧
      ((s.closeLost d o).lens.get d).leavingNotes d = (s.lens.get d).leavingNotes d := by
  have lens : (s.endFragment d).lens = s.lens := (s.endFragment_frame d).get .lens
  have cli : (s.endFragment d).cli = s.cli := (s.endFragment_frame d).get .cli
  cases o with
  | receiverFirst =>
    obtain ⟨hq, hl⟩ := (s.endFragment d).closeOpenParts_passes d (c := .linkLost) (by decide)
    refine ⟨hq.trans cli, State.closeOpenParts_idle _ (s.endFragment_idle d), fun h => ?_, ?_, ?_, ?_⟩
    · exact State.closeOpenParts_closed (State.endFragment_shotLaw h d) d _
    · have parts := s.receiverFirst_partsLost d (c := .linkLost) (by decide)
      simp only [decide_true, Bool.true_and]
      exact parts
    · exact hl.of_openParts lens (fun h => State.endFragment_shotLaw h d) fun h => State.endFragment_openParts h d
    · exact (State.closeOpenParts_leavingNotes _ d (by decide)).trans (by rw [lens])
  | closingFirst =>
    obtain ⟨hq, hl⟩ := s.closeOpenParts_passes d (c := .linkLost) (by decide)
    have lens' : ((s.closeOpenParts d .linkLost).endFragment d).lens = (s.closeOpenParts d .linkLost).lens :=
      (State.endFragment_frame _ d).get .lens
    refine ⟨((State.endFragment_frame _ d).get .cli).trans hq, State.endFragment_idle _ d, fun h => ?_, ?_, ?_, ?_⟩
    · exact State.endFragment_parts (State.closeOpenParts_closed h d _)
    · exact s.closingFirst_partsLost d (c := .linkLost) (by decide)
    · show s.LensLeft d (((s.closeOpenParts d .linkLost).endFragment d).lens.get d).leftReady
      rw [lens']; exact hl
    · show (((s.closeOpenParts d .linkLost).endFragment d).lens.get d).leavingNotes d = _
      rw [lens']; exact s.closeOpenParts_leavingNotes d (by decide)

theorem State.FragmentEnded_eq (s : State) (d : Drop) : s.endFragment d = s.FragmentEnded d := by
  unfold State.endFragment State.FragmentEnded
  dsimp only
  cases (s.rx.get d).mode <;> rfl

/-! ## What a loss of lock asks for -/

/-- A flash as it is asked for (10 R177). -/
theorem State.requestFlash_locator (s : State) (d : Drop) :
    (s.requestFlash d).locator =
      (if s.locator.flashing d = true ∨ 6 ≤ s.locator.flashes.length + s.locator.requests.length then
        { s.locator with flashesIgnored := bump s.locator.flashesIgnored }
      else { s.locator with flashes := s.locator.flashes ++ [⟨d, s.now, s.shots.lastRelayed.get d⟩] }) := by
  show (if (s.locator.flashing d || decide (Config.locatorQueueSize ≤ s.locator.queued)) = true then _ else _) = _
  refine if_congr ?_ rfl rfl
  rw [Bool.or_eq_true, decide_eq_true_eq]; rfl

theorem State.closeEntry_relayed (s : State) (t : Half) : (s.closeEntry t).shots.lastRelayed = s.shots.lastRelayed := by
  unfold State.closeEntry
  split
  · rfl
  · split
    · rw [(State.boundaryDecision_frame _).get .shots]; rfl
    · rfl

/-- The close of a part relays no trigger. -/
theorem State.closePart_relayed (s : State) (t : Half) (d : Drop) (c : ClosedStatus) :
    (s.closePart t d c).shots.lastRelayed = s.shots.lastRelayed := by
  unfold State.closePart
  split
  · rfl
  · split
    · rw [State.closeEntry_relayed, (State.offerPart_frame _ d _).get .shots]; rfl
    · rfl

theorem State.closeOpenParts_relayed (s : State) (d : Drop) (c : ClosedStatus) :
    (s.closeOpenParts d c).shots.lastRelayed = s.shots.lastRelayed := by
  unfold State.closeOpenParts
  generalize s.shots.table.map Entry.trigger = ts
  induction ts generalizing s with
  | nil => rfl
  | cons t ts ih => exact (ih _).trans (s.closePart_relayed t d c)

theorem State.endFragment_relayed (s : State) (d : Drop) : (s.endFragment d).shots.lastRelayed = s.shots.lastRelayed := by
  unfold State.endFragment
  split <;> rfl

theorem State.closeLost_relayed (s : State) (d : Drop) (o : LossOrder) :
    (s.closeLost d o).shots.lastRelayed = s.shots.lastRelayed := by
  cases o with
  | receiverFirst => exact (State.closeOpenParts_relayed _ d _).trans (s.endFragment_relayed d)
  | closingFirst => exact (State.endFragment_relayed _ d).trans (s.closeOpenParts_relayed d _)

theorem State.closeLost_frame (s : State) (d : Drop) (o : LossOrder) :
    s.ChangesOnly (s.closeLost d o) [.shots, .rx, .lens, .cli, .uplink] [d] := by
  cases o with
  | receiverFirst => exact ((s.endFragment_frame d).mono (by decide) fun _ h => h).trans (State.closeOpenParts_frame _ d _)
  | closingFirst => exact (s.closeOpenParts_frame d _).step (State.endFragment_frame _ d) (by decide) fun _ h => h

/-- A READY drop that loses lock (01 R17; 05 R100; 06 R119; 08 R145; 10 R177; log 20). -/
theorem State.readyLost_spec (s : State) (d : Drop) (o : LossOrder) :
    let t := s.readyLost d o
    t.links = s.links ∧ (t.rx.get d).mode = .idle ∧
      t.drops.get d = (s.drops.get d).lose (s.timer Config.relockWindowUs) ∧
      (s.ShotLaw → t.dropHasOpenPart d = false) ∧
      (s.PartsLost t d .linkLost fun n => decide (o = .receiverFirst) && decide ((s.rx.get d).mode = .inside n)) ∧
      s.LensLeft d (t.lens.get d) ∧ t.cli = (((s.lens.get d).leavingNotes d).foldl State.queueNote s).cli ∧
      t.locator = (s.requestFlash d).locator := by
  let lost := s.modDrop d (·.lose (s.timer Config.relockWindowUs))
  let closed := lost.closeLost d o
  let flashed := closed.requestFlash d
  obtain ⟨hq, hrx, hopen, hparts, hlens, hnotes⟩ := lost.closeLost_spec d o
  have close : lost.ChangesOnly closed [.shots, .rx, .lens, .cli, .uplink] [d] := lost.closeLost_frame d o
  have leave : flashed.ChangesOnly (s.readyLost d o) [.lens, .cli] [d] := flashed.lensLeaveReady_frame d
  have shots : (s.readyLost d o).shots = closed.shots := leave.get .shots
  have table : s.shots = lost.shots := rfl
  have lensKept : s.lens = lost.lens := rfl
  have station : flashed.station = s.station := (close.get .station).trans rfl
  have cli : flashed.cli = s.cli := hq
  refine ⟨(leave.get .links).trans (close.get .links), ?_, ?_, fun law => ?_, ?_, ?_, ?_, ?_⟩
  · rw [show (s.readyLost d o).rx = closed.rx from leave.get .rx]; exact hrx
  · rw [show (s.readyLost d o).drops = closed.drops from leave.get .drops, show closed.drops = lost.drops from close.get .drops]
    simp [lost]
  · unfold State.dropHasOpenPart
    rw [shots]; exact hopen (law.congr table)
  · exact hparts.congr table.symm shots.symm
  · rw [State.readyLost, State.lensLeaveReady_lens]
    exact hlens.congr table.symm lensKept.symm
  · rw [State.readyLost, State.lensLeaveReady_cli]
    show (((closed.lens.get d).leavingNotes d).foldl State.queueNote flashed).cli = _
    rw [hnotes]
    exact State.queueNotes_cli station cli _
  · rw [show (s.readyLost d o).locator = flashed.locator from leave.get .locator, State.requestFlash_locator,
      State.requestFlash_locator]
    rw [show closed.locator = s.locator from close.get .locator, show closed.now = s.now from close.get .now,
      show closed.shots.lastRelayed = s.shots.lastRelayed from lost.closeLost_relayed d o]

end

/-- Settles O10: in READY `State.readyLost_spec` says what becomes of parts, lens and notes; in any other state the receive
context alone takes the loss. -/
theorem lockLossTakesAReadyDropToLost : Obligations.LockLossTakesAReadyDropToLost := by
  intro d o s hl
  have unlocked : s.ChangesOnly (s.modLink d LinkPort.unlock) [.links] [d] := s.modLink_frame d _
  refine ⟨s.loseLock d o, congrArg Host.Outcome.next (if_pos hl), fun hr => congrArg Host.Outcome.next (if_pos ⟨hl, hr⟩), ?_⟩
  by_cases hs : (s.drops.get d).state = .ready
  · obtain ⟨links, rx, drop, closed, parts, lens, cli, loc⟩ := (s.modLink d LinkPort.unlock).readyLost_spec d o
    have run : s.loseLock d o = (s.modLink d LinkPort.unlock).readyLost d o := if_pos hs
    have table : (s.modLink d LinkPort.unlock).shots = s.shots := rfl
    have lensKept : (s.modLink d LinkPort.unlock).lens = s.lens := rfl
    have station : (s.modLink d LinkPort.unlock).station = s.station := rfl
    have cliKept : (s.modLink d LinkPort.unlock).cli = s.cli := rfl
    rw [← run] at links rx drop closed parts lens cli loc
    refine ⟨by rw [links]; simp [LinkPort.unlock], rx, ?_⟩
    rw [if_pos hs]
    exact ⟨s.loseLock_frame d o, drop, fun law => closed (law.congr table.symm), parts.congr table rfl,
      lens.congr table lensKept, cli.trans (State.queueNotes_cli station cliKept _), loc.trans (State.requestFlash_locator _ d)⟩
  · have run : s.loseLock d o = (s.modLink d LinkPort.unlock).endFragment d := if_neg hs
    rw [run]
    refine ⟨?_, State.endFragment_idle _ d, ?_⟩
    · rw [(State.endFragment_frame _ d).get .links]; simp [LinkPort.unlock]
    · rw [if_neg hs]
      exact State.FragmentEnded_eq _ d

/-! ## Beats -/

section
variable {s : State} {d : Drop}

/-- The sixth beat is the one that finds five counted (01 R16, R18). -/
theorem six_le_satAdd_iff (n : Nat) : 6 ≤ satAdd 255 n 1 ↔ 5 ≤ n := by
  unfold satAdd; omega

/-- The port and the context of a drop as a beat in lock leaves them (01 R14; 05 R100, R102). -/
def State.beatTaken (s : State) (d : Drop) : State :=
  ((s.heardItem d).modLink d fun l => { l with beatRun := satAdd 255 l.beatRun 1 }).endFragment d

theorem State.beatTaken_frame (s : State) (d : Drop) : s.ChangesOnly (s.beatTaken d) [.links, .shots, .rx] [d] :=
  (((s.heardItem_frame d).mono (by decide) fun _ h => h).step (State.modLink_frame _ d _) (by decide) fun _ h => h).step
    (State.endFragment_frame _ d) (by decide) fun _ h => h

theorem State.beatTaken_links (s : State) (d : Drop) :
    (s.beatTaken d).links.get d =
      { s.links.get d with beatRun := min 255 ((s.links.get d).beatRun + 1), silence := .running s.now 4000 } := by
  rw [State.beatTaken, (State.endFragment_frame _ d).get .links]
  simp [State.heardItem, satAdd, State.timer, Config.silenceUs]

/-- A drop as it enters READY, its event not yet queued (01 R16, R18; 06 R104). -/
def State.readyUnreported (s : State) (d : Drop) : State :=
  (s.modDrop d fun _ => s.readied d).setRelayed d none

theorem State.enterReady_eq (s : State) (d : Drop) :
    s.enterReady d = (s.readyUnreported d).reportState d .ready none := by
  have record : (s.modDrop d fun r =>
      { r with state := .ready, warmTimer := .stopped, relockWindow := .stopped
               stableTimer := s.timer Config.stableTimerUs, napTimer := s.napTimer d }) = s.modDrop d fun _ => s.readied d :=
    rfl
  unfold State.enterReady State.readyUnreported
  rw [record]

theorem State.readyUnreported_spec (s : State) (d : Drop) :
    s.ChangesOnly (s.readyUnreported d) [.drops, .shots] [d] ∧ (s.readyUnreported d).links = s.links ∧
      (s.readyUnreported d).rx = s.rx ∧ (s.readyUnreported d).drops.get d = s.readied d ∧
      (s.readyUnreported d).shots.lastRelayed.get d = none := by
  have record : s.ChangesOnly (s.modDrop d fun _ => s.readied d) [.drops, .shots] [d] :=
    (s.modDrop_frame d _).mono (by decide) fun _ h => h
  have relayed : (s.modDrop d fun _ => s.readied d).ChangesOnly (s.readyUnreported d) [.shots] [] :=
    State.modShots_frame (s := s.modDrop d fun _ => s.readied d) fun b => { b with lastRelayed := b.lastRelayed.set d none }
  refine ⟨record.step relayed (by decide) (by simp), rfl, rfl, ?_, ?_⟩ <;>
    simp [State.readyUnreported, State.setRelayed]

end

/-- Settles O11: what the beat leaves is `State.beatTaken`; the sixth one lets the drop enter READY. -/
theorem sixthBeatMakesADropReady : Obligations.SixthBeatMakesADropReady := by
  intro d s hl r
  have run : exec (.beat d) s = .next ((s.beatTaken d).beatSeen d) := congrArg Host.Outcome.next (if_pos hl)
  have frame := s.beatTaken_frame d
  have drops : (s.beatTaken d).drops = s.drops := frame.get .drops
  have idle : ((s.beatTaken d).rx.get d).mode = .idle := State.endFragment_idle _ d
  have sixth : 6 ≤ ((s.beatTaken d).links.get d).beatRun ↔ 5 ≤ (s.links.get d).beatRun := by
    rw [s.beatTaken_links d]; exact six_le_satAdd_iff _
  have readied : (s.beatTaken d).readied d = s.readied d := by
    unfold State.readied
    rw [drops, frame.get .now, State.dropCfg_of (frame.get .cfg)]
  have taken : ∀ u, (s.beatTaken d).ChangesOnly u [.drops, .shots] [d] → u.links = (s.beatTaken d).links →
      u.rx = (s.beatTaken d).rx → s.ChangesOnly u [.drops, .links, .rx, .shots] [d] ∧
        u.links.get d =
          { s.links.get d with beatRun := min 255 ((s.links.get d).beatRun + 1), silence := .running s.now 4000 } ∧
        (u.rx.get d).mode = .idle := by
    intro u hu hl hx
    refine ⟨(frame.mono (by decide) fun _ h => h).step hu (by decide) fun _ h => h, ?_, ?_⟩
    · rw [hl]; exact s.beatTaken_links d
    · rw [hx]; exact idle
  rw [run]
  unfold State.beatSeen
  simp only [drops, sixth]
  by_cases hb : 5 ≤ (s.links.get d).beatRun
  case neg =>
    refine ⟨s.beatTaken d, ?_⟩
    obtain ⟨hf, hk, hx⟩ := taken _ (.refl _ _ _) rfl rfl
    simp only [hb, false_and, if_false]
    exact ⟨hf, hk, hx, trivial, by rw [drops]⟩
  by_cases hw : (s.drops.get d).state = .warming
  case pos =>
    obtain ⟨hf, hk, hx, hd, hr⟩ := (s.beatTaken d).readyUnreported_spec d
    obtain ⟨hf, hk, hx⟩ := taken _ hf hk hx
    refine ⟨(s.beatTaken d).readyUnreported d, hf, hk, hx, ?_⟩
    rw [if_pos hb, if_pos hw, if_pos ⟨hb, hw⟩, State.enterReady_eq]
    exact ⟨rfl, hd.trans readied, hr⟩
  by_cases ho : (s.drops.get d).state = .lost ∧ (s.drops.get d).relockWindow.isRunning = true
  case pos =>
    let counted := (s.beatTaken d).modDrop d fun r => { r with dropoutCount := bump r.dropoutCount }
    obtain ⟨hf, hk, hx, hd, hr⟩ := counted.readyUnreported_spec d
    obtain ⟨hf, hk, hx⟩ := taken _ (((State.modDrop_frame _ d _).mono (by decide) fun _ h => h).trans hf) hk hx
    refine ⟨counted.readyUnreported d, hf, hk, hx, ?_⟩
    rw [if_pos hb, if_neg hw, if_pos ho, if_neg fun k => hw k.2, if_pos ⟨hb, ho⟩, State.enterReady_eq]
    refine ⟨rfl, hd.trans ?_, hr⟩
    have record : counted.readied d = { (s.beatTaken d).readied d with dropoutCount := bump r.dropoutCount } := by
      simp [counted, State.readied, drops, r]; rfl
    rw [record, readied]
  · refine ⟨s.beatTaken d, ?_⟩
    obtain ⟨hf, hk, hx⟩ := taken _ (.refl _ _ _) rfl rfl
    refine ⟨hf, hk, hx, ?_⟩
    rw [if_pos hb, if_neg hw, if_neg ho, if_neg fun k => hw k.2, if_neg fun k => ho k.2]
    exact ⟨rfl, by rw [drops]⟩

end Sys2Proof.Machine

/-! PROOF. The marks of the back-channel (O12): the order of the transmitter, and what a sent mark starts. -/

namespace Sys2Proof.Machine

/-- Where a mark joins: behind the marks it does not precede, before the first one it does (01 R15). -/
theorem joinMarks_eq (m : HandedMark) (before after : List HandedMark)
    (hb : ∀ x ∈ before, ¬(x.moment = m.moment ∧ m.mark.rank < x.mark.rank))
    (ha : ∀ x, after.head? = some x → x.moment = m.moment ∧ m.mark.rank < x.mark.rank) :
    joinMarks m (before ++ after) = before ++ m :: after := by
  induction before with
  | nil =>
    cases after with
    | nil => rfl
    | cons x xs => exact if_pos (ha x rfl)
  | cons y ys ih =>
    rw [List.cons_append, joinMarks, if_neg (hb y List.mem_cons_self),
      ih fun x hx => hb x (List.mem_cons_of_mem _ hx)]
    rfl

theorem Locator.settle_kept (l : Locator) {x : Timer} (h : x = l.settle) : l = { l with settle := x } := by subst h; rfl

/-- A sent burst that is still in the slot starts its acknowledgement timer (08 R143). -/
theorem State.markStarts_lens (s : State) (d : Drop) (m : Mark) :
    (s.markStarts d m).lens.get d =
      { s.lens.get d with
        ackTimer :=
          match m, (s.lens.get d).slot with
          | .burst _ n, some b => if b.2 = n then .running s.now 5000 else (s.lens.get d).ackTimer
          | _, _ => (s.lens.get d).ackTimer } := by
  cases m with
  | trigger _ | unhush => rfl
  | hush =>
    unfold State.markStarts
    dsimp only
    split
    · split <;> rfl
    · rfl
  | burst b n =>
    have run : s.markStarts d (.burst b n) = match (s.lens.get d).slot with
      | some p => if p.2 = n then s.modLens d fun l => { l with ackTimer := s.timer Config.ackTimerUs } else s
      | none => s := rfl
    obtain h | ⟨p, h⟩ := Option.eq_none_or_eq_some (s.lens.get d).slot
    · rw [run, h]
    · by_cases hp : p.2 = n
      · rw [run, h]
        dsimp only
        rw [if_pos hp, if_pos hp, State.modLens_lens, PerDrop.get_set_same]; rfl
      · rw [run, h]
        dsimp only
        rw [if_neg hp, if_neg hp]

/-- The HUSH of a request in SETTLE starts the settle wait (10 R182). -/
theorem State.markStarts_locator (s : State) (d : Drop) (m : Mark) :
    (s.markStarts d m).locator =
      { s.locator with
        settle :=
          match m, s.locator.active with
          | .hush, some a => if a.drop = d ∧ a.phase = .settle then .running s.now 500 else s.locator.settle
          | _, _ => s.locator.settle } := by
  cases m with
  | trigger _ | unhush => rfl
  | burst _ n =>
    unfold State.markStarts
    dsimp only
    split
    · split <;> rfl
    · rfl
  | hush =>
    have run : s.markStarts d .hush = match s.locator.activeOf d with
      | some a => if a.phase = .settle then s.modLocator fun l => { l with settle := s.timer Config.settleUs } else s
      | none => s := rfl
    obtain h | ⟨a, h⟩ := Option.eq_none_or_eq_some s.locator.active
    · rw [run, show s.locator.activeOf d = none by unfold Locator.activeOf; rw [h]]
      exact Locator.settle_kept _ (by rw [h])
    · by_cases hd : a.drop = d
      · rw [run, show s.locator.activeOf d = some a by unfold Locator.activeOf; rw [h]; exact if_pos hd]
        by_cases hp : a.phase = .settle
        · rw [h]
          dsimp only
          rw [if_pos hp, if_pos ⟨hd, hp⟩]; rfl
        · rw [h]
          dsimp only
          rw [if_neg hp, if_neg fun k => hp k.2]
      · rw [run, show s.locator.activeOf d = none by unfold Locator.activeOf; rw [h]; exact if_neg hd]
        rw [h]
        dsimp only
        rw [if_neg fun k => hd k.1]

/-- Settles O12: the place of a joining mark is `joinMarks_eq`; what a sent mark starts is `State.markStarts`. -/
theorem marksAreSentInOrder : Obligations.MarksAreSentInOrder := by
  constructor
  · intro l now m before after order comesAfter marks hm hb ha
    have rank : ∀ x : Mark, x.rank = order x := fun x => by cases x <;> rfl
    have joined : joinMarks ⟨m, now⟩ (before ++ after) = marks :=
      joinMarks_eq ⟨m, now⟩ before after (fun x hx k => hb x hx (by rw [rank, rank] at k; exact k))
        fun x hx => by rw [rank, rank]; exact ha x hx
    unfold LinkPort.hand LinkPort.marks
    rw [hm, joined]; rfl
  · intro d h s hs m
    have run : exec (.markSent d) s = .next ((s.markStarts d m).modLink d LinkPort.next) := by
      show Host.Outcome.next (match (s.links.get d).sending with
        | some m => (s.markStarts d m.mark).modLink d LinkPort.next
        | none => s) = _
      rw [hs]
    have frame : s.ChangesOnly (s.markStarts d m) [.lens, .locator] [d] := s.markStarts_frame d m
    refine ⟨_, run, (frame.mono (by decide) fun _ h => h).step (State.modLink_frame _ d _) (by decide) fun _ h => h, ?_,
      s.markStarts_lens d m, s.markStarts_locator d m⟩
    rw [State.modLink_links, PerDrop.get_set_same, frame.get .links]; rfl

end Sys2Proof.Machine

/-! PROOF. The own CLAIM at its echo (O19). -/

namespace Sys2Proof.Machine

section
variable {s : State} {d : Drop}

/-- The test of the own claim, with the own share taken from the note (03 R57). -/
theorem State.ownClaim_granted_iff {c : Configuration} (hc : s.cfg = some c) (amount total : Nat) :
    s.claimGranted s.station amount total = true ↔
      amount = 0 ∨ ((s.view.eraseIdx s.station).map ViewEntry.held).sum + (total - amount) + amount ≤ c.station.cellBudget := by
  unfold State.claimGranted State.othersHeld
  rw [hc, if_pos rfl, Nat.add_zero, Bool.or_eq_true, decide_eq_true_eq, decide_eq_true_eq]

theorem exec_claimEcho {n : QNote} {amount total : Nat} (hn : s.onLine = some n)
    (hb : n.body = .claim d amount (some total)) :
    exec .claimEcho s = .next (s.echoed.applyVerdict d amount total).lookClaims := by
  have body : s.onLine.map QNote.body = some (.claim d amount (some total)) := by rw [hn, Option.map_some, hb]
  show Host.Outcome.next (match s.onLine.map QNote.body with
    | some (.claim d amount total) => (s.echoed.applyVerdict d amount (filledTotal total)).lookClaims
    | _ => s) = _
  rw [body]; rfl

/-- The own held total's rise and the drop's leaving of the claim queue with the grant (03 R61; 01 R6). -/
theorem State.takeGrant_eq (s : State) (d : Drop) (amount : Nat) :
    s.takeGrant d amount =
      { s with
        drops := s.drops.set d { s.drops.get d with state := .ramping, rampWindow := .running s.now 20000 }
        budget :=
          { s.budget with
            ownHeld := s.budget.ownHeld + amount
            claims := s.budget.claims.filter fun e => decide (e.drop ≠ d)
            claimsGranted := bump s.budget.claimsGranted } } := rfl

theorem State.unusedGrant_eq (s : State) (d : Drop) :
    s.unusedGrant d = { s.queueRelease d with budget := { s.budget with unusedGrants := bump s.budget.unusedGrants } } := by
  have budget : (s.queueRelease d).budget = s.budget := (s.queueRelease_frame d).get .budget
  unfold State.unusedGrant State.modBudget
  rw [budget]

theorem State.voidClaim_eq (s : State) (d : Drop) :
    s.voidClaim d =
      { s with
        budget :=
          { s.budget with
            claims :=
              if (s.drops.get d).state = .claiming then
                s.budget.claims.map fun e => if e.drop = d then { e with retry := .waiting (.running s.now 500000) } else e
              else s.budget.claims
            claimsVoid := bump s.budget.claimsVoid } } := by
  unfold State.voidClaim
  dsimp only
  split <;> rfl

end

/-- Settles O19: the verdict of `State.applyVerdict`, one lemma for each of its three outcomes. -/
theorem ownClaimsAreDecidedAtTheirEcho : Obligations.OwnClaimsAreDecidedAtTheirEcho := by
  intro s n c d amount total hn hb hc prior others granted r b
  have prior_eq : total - amount = prior := by
    show _ = if total < amount then 0 else total - amount
    split <;> omega
  have test : s.echoed.claimGranted s.echoed.station amount total = true ↔ granted := by
    rw [State.ownClaim_granted_iff (s := s.echoed) hc, prior_eq]; rfl
  have verdict : s.echoed.applyVerdict d amount total =
      if s.echoed.claimGranted s.echoed.station amount total = true then
        if r.state = .claiming ∧ r.locateHold = false then s.echoed.takeGrant d amount else s.echoed.unusedGrant d
      else s.echoed.voidClaim d := rfl
  refine ⟨_, exec_claimEcho hn hb, fun hg hs hl => ?_, fun hg hs => ?_, fun hg => ?_⟩
  · rw [verdict, if_pos (test.mpr hg), if_pos ⟨hs, hl⟩]
    exact s.echoed.takeGrant_eq d amount
  · rw [verdict, if_pos (test.mpr hg), if_neg fun k => hs.elim (fun h => h k.1) fun h => by rw [h] at k; exact absurd k.2 (by decide)]
    exact s.echoed.unusedGrant_eq d
  · rw [verdict, if_neg fun k => hg (test.mp k)]
    exact s.echoed.voidClaim_eq d

end Sys2Proof.Machine

/-! PROOF. The state after reset meets every law (O54). -/

namespace Sys2Proof.Machine

/-! ## The blocks after reset -/

@[simp] theorem State.reset_drops (d : Drop) : State.reset.drops.get d = resetDrop := PerDrop.get_const d _
@[simp] theorem State.reset_links (d : Drop) : State.reset.links.get d = resetLink := PerDrop.get_const d _
@[simp] theorem State.reset_rx (d : Drop) : State.reset.rx.get d = resetReceiver := PerDrop.get_const d _
@[simp] theorem State.reset_sites (d : Drop) : State.reset.sites.get d = resetSites := PerDrop.get_const d _
@[simp] theorem State.reset_table : State.reset.shots.table = [] := rfl
@[simp] theorem State.reset_active : State.reset.locator.active = none := rfl
@[simp] theorem State.reset_freeList : State.reset.fmm.freeList = List.range' 0 4096 := rfl

/-- An empty shot table has no pages. -/
theorem State.chained_of_empty {s : State} (h : s.shots.table = []) : s.chained = [] := by
  unfold State.chained; rw [h]; rfl

/-- A slot of a site table after the power-on or pin reset, or none. -/
theorem resetSites_site (i : Nat) : resetSites.site i = none := by
  unfold SiteTable.site resetSites
  rw [List.getD_eq_getElem?_getD, List.getElem?_replicate]
  split <;> rfl

/-! ## The laws -/

/-- Every page is free (05 R85). -/
theorem State.reset_memoryLaw : State.reset.MemoryLaw := by
  have chained : State.reset.chained = [] := State.chained_of_empty rfl
  constructor
  · rfl
  · rw [State.reset_freeList, List.length_range']; rfl
  · intro p hp
    rw [chained, List.append_nil, State.reset_freeList, List.mem_range'_1] at hp
    show p < 4096
    omega
  · rw [chained, List.append_nil, State.reset_freeList]
    exact List.nodup_range'
  · rw [chained, State.reset_freeList, List.length_range']; rfl

theorem State.reset_shotLaw : State.reset.ShotLaw := by
  constructor <;> simp

/-- No drop has an open part, and no request is active. -/
theorem State.reset_partLaw : State.reset.PartLaw where
  shots := State.reset_shotLaw
  hold d := by simp [resetDrop]
  ready d h := by simp [State.dropHasOpenPart] at h
  queued a h := by simp at h
  quiet a h := by simp at h

theorem State.reset_rxLaw : State.reset.RxLaw := by
  intro d n h
  simp [resetReceiver] at h

/-- No record is in progress and there is no configuration. -/
theorem State.reset_recordLaw : State.reset.RecordLaw where
  loading := ⟨fun _ => rfl, fun _ => rfl⟩
  unloaded _ := ⟨rfl, rfl⟩
  frames _ := (by decide : 1 ≤ defaultedDrop.frameSize)
  between _ e he := by simp at he
  within i h := nomatch (show none = some i from h)

/-- Every drop is OFF, and neither a claim nor a note stands in its queue. -/
theorem State.reset_budgetLaw : State.reset.BudgetLaw where
  held := rfl
  claimants d := by
    rw [State.reset_drops]
    exact iff_of_false (fun h => nomatch (show false = true from h)) (fun h => nomatch (show DropState.off = .claiming from h))
  distinct := List.nodup_nil
  oneClaim := Nat.zero_le 1
  amounts n hn := nomatch (show n ∈ ([] : List QNote) from hn)
  loading := ⟨fun _ => rfl, fun _ => rfl⟩
  offUntilLoaded _ d := by rw [State.reset_drops]; rfl
  noClaimNotes _ n hn := nomatch (show n ∈ ([] : List QNote) from hn)

/-- No drop is HUSHED, and no capture is in flight. -/
theorem State.reset_hushLaw : State.reset.HushLaw := by
  intro d
  rw [State.reset_drops]
  exact iff_of_false (fun h => nomatch (show DropState.off = .hushed from h))
    (fun ⟨c, hc, _⟩ => nomatch (show none = some c from hc))

theorem State.reset_portLaw : State.reset.PortLaw := fun d _ => by rw [State.reset_links]; rfl

/-- No timer of a drop runs. -/
theorem State.reset_timerLaw : State.reset.TimerLaw := by
  intro d
  rw [State.reset_drops]
  constructor <;> exact fun h => nomatch (show false = true from h)

/-- Every view entry is absent. -/
theorem State.reset_viewLaw : State.reset.ViewLaw := by
  have absent : ∀ e ∈ State.reset.view, e = absentView := fun e he => List.eq_of_mem_replicate he
  refine ⟨List.length_replicate, fun e he => ?_, fun e he _ => absent e he, fun e he => ?_⟩
  · rw [absent e he]; decide
  · rw [absent e (List.mem_of_getElem? he)]; rfl

/-- Every slot of a site table is empty. -/
theorem State.reset_siteLaw : State.reset.SiteLaw := by
  intro d
  rw [State.reset_sites]
  refine ⟨rfl, fun i v h => ?_, fun i j v w _ h => ?_⟩ <;>
    exact nomatch (resetSites_site i).symm.trans h

/-- Settles O54: each law by what the reset state's blocks hold. -/
theorem resetMeetsEveryLaw : Obligations.ResetMeetsEveryLaw :=
  ⟨State.reset_memoryLaw, State.reset_partLaw, State.reset_rxLaw, State.reset_recordLaw, State.reset_budgetLaw,
    State.reset_hushLaw, State.reset_portLaw, State.reset_timerLaw, State.reset_viewLaw, State.reset_siteLaw⟩

end Sys2Proof.Machine

/-! PROOF. The captures of the Line Locator (O49): flashes, shots, the end of a capture, its record and its break
result. -/

namespace Sys2Proof.Machine

/-! ## Notes leave everything but the Cell Line Interface -/

theorem State.queueNote_eq (s : State) (b : NoteBody) : s.queueNote b = { s with cli := (s.queueNote b).cli } := by
  unfold State.queueNote
  split <;> rfl

theorem State.queueNotes_eq (bs : List NoteBody) (s : State) :
    bs.foldl State.queueNote s = { s with cli := (bs.foldl State.queueNote s).cli } := by
  induction bs generalizing s with
  | nil => rfl
  | cons b bs ih =>
    have first := s.queueNote_eq b
    have rest := ih (s.queueNote b)
    rw [List.foldl_cons]
    refine rest.trans ?_
    generalize (bs.foldl State.queueNote (s.queueNote b)).cli = c
    rw [first]

/-- The notes that a list of changes to a site table queues (11 R199). -/
theorem State.reportSites_eq (d : Drop) (cs : List SiteChange) (s : State) :
    s.reportSites d cs = (cs.map fun c => NoteBody.event (siteEvent d c)).foldl State.queueNote s := by
  unfold State.reportSites
  rw [List.foldl_map]; rfl

/-! ## Flashes -/

section
variable {s : State}

/-- The crosstalk-risk of a flash, by the holder of its bundle (10 R178). -/
theorem State.crosstalkRisk_iff (d : Drop) :
    s.crosstalkRisk d = true ↔ s.bundle d ≠ 0 ∧
      ((s.locator.holder (s.bundle d)).map fun h => decide (h.station.val ≠ s.station)) = some true := by
  unfold State.crosstalkRisk State.ownHolds
  dsimp only
  cases s.locator.holder (s.bundle d) with
  | none => simp
  | some h => simp

theorem exec_flashStart {f : FlashEntry} {rest : List FlashEntry} (hf : s.locator.flashes = f :: rest)
    (hc : s.locator.capture = none) (ha : ∀ a, s.locator.active = some a → a.phase ≠ .launch) :
    exec .flashStart s = .next (s.startFlash f rest) := by
  have free : (s.locator.free && !s.locator.inPhase .launch) = true := by
    unfold Locator.free Locator.inPhase
    rw [hc]
    cases h : s.locator.active with
    | none => rfl
    | some a => simp [ha a h]
  show Host.Outcome.next (match s.locator.flashes with
    | f :: rest => if s.locator.free && !(s.locator.inPhase .launch) then s.startFlash f rest else s
    | [] => s) = _
  rw [hf]
  exact congrArg Host.Outcome.next (if_pos free)

/-- The first flash entry of a drop leaves the queue (10 R177). -/
theorem eraseFlash_eq {d : Drop} {pre post : List FlashEntry} {f : FlashEntry} (hf : f.drop = d)
    (hp : ∀ x ∈ pre, x.drop ≠ d) :
    (pre ++ f :: post).eraseP (fun f => decide (f.drop = d)) = pre ++ post := by
  rw [List.eraseP_append_right _ fun x hx => by simpa using hp x hx, List.eraseP_cons_of_pos (by simpa using hf)]

theorem exec_flashStale {d : Drop} {pre post : List FlashEntry} {f : FlashEntry}
    (h : s.locator.flashes = pre ++ f :: post) (hf : f.drop = d) (hp : ∀ x ∈ pre, x.drop ≠ d) :
    exec (.flashStale d) s = .next { s with
      locator := { s.locator with flashes := pre ++ post, flashesStale := bump s.locator.flashesStale } } := by
  have found : s.locator.flashes.any (fun f => decide (f.drop = d)) = true :=
    List.any_eq_true.mpr ⟨f, by simp [h], by simpa using hf⟩
  refine congrArg Host.Outcome.next ((if_pos found).trans ?_)
  have queue : s.locator.flashes.eraseP (fun f => decide (f.drop = d)) = pre ++ post := by rw [h, eraseFlash_eq hf hp]
  unfold State.modLocator
  dsimp only
  rw [queue]

end

/-! ## Shots -/

/-- The samples of a shot join the sums place by place (10 R183). -/
theorem Capture.addShot_eq {c : Capture} {samples : List (BitVec 10)} (h : c.sums.length = samples.length) :
    c.addShot samples =
      { c with shotsDone := c.shotsDone + 1, sums := List.zipWith (fun v x => v + x.toNat) c.sums samples } := by
  have sums : (c.sums.zipIdx.map fun p => p.1 + (samples.getD p.2 0).toNat) =
      List.zipWith (fun v x => v + x.toNat) c.sums samples := by
    refine List.ext_getElem (by simp [h]) fun i hi _ => ?_
    have hs : i < samples.length := by rw [← h]; simpa using hi
    simp [hs]
  unfold Capture.addShot
  rw [sums]

section
variable {s : State}

theorem exec_shotComplete {c : Capture} {samples : List (BitVec 10)} (hc : s.locator.capture = some c)
    (hf : c.type = .flash ∨ ∃ a, s.locator.active = some a ∧ a.phase = .capture) :
    exec (.shotComplete samples) s = .next (s.shotDone (c.addShot samples)) := by
  have firing : s.locator.firing c = true := by
    unfold Locator.firing Locator.inPhase
    rcases hf with hf | ⟨a, ha, hp⟩
    · simp [hf]
    · simp [ha, hp]
  show Host.Outcome.next (match s.locator.capture with
    | some c => if s.locator.firing c then s.shotDone (c.addShot samples) else s
    | none => s) = _
  rw [hc]
  exact congrArg Host.Outcome.next (if_pos firing)

/-! ## The end of a capture -/

/-- A drop that its capture's end unhushes enters WARMING behind its UNHUSH (01 R19). -/
theorem State.unhush_eq (s : State) (d : Drop) :
    s.unhush d = if (s.drops.get d).state = .hushed then
      { s with
        drops :=
          s.drops.set d
            { s.drops.get d with state := .warming, rampWindow := .stopped, warmTimer := .running s.now 3000000 }
        links := s.links.set d { (s.links.get d).hand s.now .unhush with beatRun := 0 } }
    else s := by
  unfold State.unhush
  refine if_congr Iff.rfl ?_ rfl
  simp [State.handMark, State.enterWarming, State.modLink, State.modDrop, State.timer, Config.warmTimerUs]

theorem State.unhush_locator (s : State) (d : Drop) : (s.unhush d).locator = s.locator := by
  rw [State.unhush_eq]
  split <;> rfl

/-- The end of a capture whose drop has been unhushed: a requested one's request ends, and LOCATE_DONE is queued
(10 R184). -/
theorem State.endCapture_eq (c : Capture) (out : LocateOutcome) (res : Option Reflection) {u : State}
    (hu : (s.modLocator fun l => { l with capture := none, settle := .stopped }).unhush c.drop = u)
    (ha : u.locator.active = s.locator.active) :
    s.endCapture c out res =
      (match c.type, s.locator.active with
      | .flash, _ => u
      | _, none => u
      | _, some a => u.endRequest a).queueEvent
        (.locateDone c.drop (if c.type = CaptureType.flash then .flash else .request) c.crosstalk out res) := by
  unfold State.endCapture State.reportLocate Capture.origin
  dsimp only
  rw [hu, ha]
  congr 1
  cases c.type <;> cases s.locator.active <;> rfl

/-! ## Break results -/

theorem State.breakResult_taken {d : Drop} {trigger : Option Half} {n : Half} (r : Reflection)
    (h : s.breakTaken d trigger = some n) :
    s.breakResult d trigger r =
      (s.modPart n d fun p => { p with brk := some (r.kind, r.distance) }).modShots fun b =>
        { b with breaksAttached := bump b.breaksAttached } := by
  unfold State.breakResult; rw [h]

theorem State.breakResult_untaken {d : Drop} {trigger : Option Half} (r : Reflection) (h : s.breakTaken d trigger = none) :
    s.breakResult d trigger r = s.modShots fun b => { b with breaksUnattached := bump b.breaksUnattached } := by
  unfold State.breakResult; rw [h]

/-- A part that takes the result of a flash (06 R123, log 19). -/
def State.TakesBreak (s : State) (d : Drop) (trigger : Option Half) (n : Half) (e : Entry) (p : Part) : Prop :=
  trigger = some n ∧ e ∈ s.shots.table ∧ e.trigger = n ∧ e.part d = some p ∧ (e.state = .open ∨ e.state = .closed) ∧
    p.status = .closed .linkLost ∧ p.brk = none

theorem EntryState.ne_sending_iff (x : EntryState) : x ≠ .sending ↔ x = .open ∨ x = .closed := by
  cases x <;> simp

theorem Part.wantsBreak_iff (p : Part) : p.wantsBreak = true ↔ p.status = .closed .linkLost ∧ p.brk = none := by
  simp [Part.wantsBreak]

/-- The part that takes the result is found, the trigger numbers of the table being distinct. -/
theorem State.TakesBreak.breakTaken {d : Drop} {trigger : Option Half} {n : Half} {e : Entry} {p : Part}
    (h : s.TakesBreak d trigger n e p) (law : s.ShotLaw) : s.breakTaken d trigger = some n := by
  obtain ⟨ht, he, hn, hp, hs, hw⟩ := h
  have found : s.findEntry n = some e := by
    unfold State.findEntry
    rw [← hn]
    exact List.find?_nodup law.numbers he
  have wants : (e.part d).any Part.wantsBreak = true := by rw [hp]; exact p.wantsBreak_iff.mpr hw
  unfold State.breakTaken
  rw [ht]
  dsimp only
  rw [found]
  exact if_pos ⟨(EntryState.ne_sending_iff _).mpr hs, wants⟩

/-- What is taken has a part that takes it. -/
theorem State.takesBreak_of_breakTaken {d : Drop} {trigger : Option Half} {n : Half} (h : s.breakTaken d trigger = some n) :
    ∃ e p, s.TakesBreak d trigger n e p := by
  unfold State.breakTaken at h
  split at h
  · cases h
  rename_i t
  split at h
  · cases h
  rename_i e he
  split at h
  · rename_i hw
    obtain ⟨hs, hw⟩ := hw
    obtain ⟨p, hp, hb⟩ := (Option.any_eq_true _ _).mp hw
    cases h
    unfold State.findEntry at he
    have number : e.trigger = n := by simpa using List.find?_some he
    exact ⟨e, p, rfl, List.mem_of_find?_eq_some he, number, hp, (EntryState.ne_sending_iff _).mp hs, p.wantsBreak_iff.mp hb⟩
  · cases h

/-- A record enters its site table, and its changes are reported in order (11 R194, R199). -/
theorem State.makeRecord_eq (s : State) (c : Capture) (r : Reflection) :
    let made := (s.sites.get c.drop).makeRecord (decide (c.type = .flash)) c.crosstalk c.trigger r
    let entered : State :=
      { s with
        sites := s.sites.set c.drop made.1
        cli := ((made.2.map fun x => NoteBody.event (siteEvent c.drop x)).foldl State.queueNote s).cli }
    s.makeRecord c r = if c.type = .flash then entered.breakResult c.drop c.trigger r else entered := by
  intro made entered
  have reported : (s.modSites c.drop fun _ => made.1).reportSites c.drop made.2 = entered := by
    have cli := State.queueNotes_cli (s := s.modSites c.drop fun _ => made.1) (t := s) rfl rfl
      (made.2.map fun x => NoteBody.event (siteEvent c.drop x))
    rw [State.reportSites_eq, State.queueNotes_eq, cli]; rfl
  unfold State.makeRecord
  dsimp only
  rw [reported]
  exact if_congr decide_eq_true_iff rfl rfl

end

/-- Settles O49: each part by the lemma about its command or operation. -/
theorem capturesRunToTheirEnd : Obligations.CapturesRunToTheirEnd := by
  intro s l
  refine ⟨?_, fun d pre f post h hf hp => exec_flashStale h hf hp, ?_, ?_, fun c r => s.makeRecord_eq c r, ?_⟩
  · intro f rest hf hc ha b risk
    have hr : s.crosstalkRisk f.drop = decide risk := Bool.eq_iff_iff.mpr (by
      rw [decide_eq_true_iff]; exact State.crosstalkRisk_iff f.drop)
    rw [exec_flashStart hf hc ha]
    unfold State.startFlash
    rw [hr]; rfl
  · intro c samples hc hf hs hx shot g
    rw [exec_shotComplete hc hf, show c.addShot samples = shot from Capture.addShot_eq (hs.trans hx.symm)]
    unfold State.shotDone
    refine ⟨fun ho => congrArg Host.Outcome.next (if_pos ho), fun ho hk => ?_, fun ho hk => ?_⟩
    · rw [if_neg (by rw [show shot.stopOwed = false from ho]; decide), if_neg (Nat.not_le.mpr hk)]; rfl
    · rw [if_neg (by rw [show shot.stopOwed = false from ho]; decide), if_pos hk]; rfl
  · intro c out res freed unhushed ended
    have woken : State.unhush freed c.drop = unhushed := State.unhush_eq freed c.drop
    exact State.endCapture_eq c out res woken (by rw [← woken, State.unhush_locator])
  · intro d trigger r b takes
    refine ⟨fun n e p law h => ?_, fun h => ?_⟩
    · rw [State.breakResult_taken r (State.TakesBreak.breakTaken h law)]; rfl
    · refine State.breakResult_untaken r (Option.eq_none_iff_forall_ne_some.mpr fun n hn => ?_)
      obtain ⟨e, p, ht⟩ := State.takesBreak_of_breakTaken hn
      exact h n e p ht

end Sys2Proof.Machine

/-! PROOF. Requests and queries (O51): the checks common to all requests, and what the requests that read answer. -/

namespace Sys2Proof.Machine

/-! ## The checks -/

section
variable {s : State} {r : Request} {rank : Rank} {k : RequestKind} {act : State → State}

theorem State.stray_iff : s.stray = true ↔ s.station = 15 := by
  unfold State.stray; rw [beq_iff_eq]

theorem State.addressed_iff : s.addressed r = true ↔ s.station ≠ 15 ∧ r.target.toNat = s.station := by
  unfold State.addressed
  rw [Bool.and_eq_true, decide_eq_true_eq, Bool.not_eq_true', ← Bool.not_eq_true, State.stray_iff]

theorem State.isController_iff (st : Station) :
    s.isController st = true ↔ ∀ c, s.cfg = some c → c.station.controllerSet.getLsbD st.val = true := by
  unfold State.isController
  cases s.cfg with
  | none => simp
  | some c => simp [inStationSet]

theorem State.isService_iff (st : Station) :
    s.isService st = true ↔ ∀ c, s.cfg = some c → c.station.serviceSet.getLsbD st.val = true := by
  unfold State.isService
  cases s.cfg with
  | none => simp
  | some c => simp [inStationSet]

/-- The rank of a request kind, by whether it needs service rank (12 R202). -/
def rankFor (service : Bool) : Rank := if service then .service else .controller

theorem State.ranked_iff (service : Bool) (st : Station) :
    s.ranked (rankFor service) st = true ↔
      (∀ c, s.cfg = some c → c.station.controllerSet.getLsbD st.val = true) ∧
        (service = true → ∀ c, s.cfg = some c → c.station.serviceSet.getLsbD st.val = true) := by
  rw [← State.isController_iff, ← State.isService_iff]
  cases service with
  | true => simp [rankFor, State.ranked]
  | false => simp [rankFor, State.ranked]

theorem State.takeRequest_own (h : r.src.val = s.station) : s.takeRequest k rank r act = s.ownNumber := if_pos h

theorem State.takeRequest_elsewhere (hf : r.src.val ≠ s.station) (ha : ¬s.addressed r = true) :
    s.takeRequest k rank r act = s.countHeard := by
  unfold State.takeRequest
  rw [State.hear_foreign _ _ hf, State.addressed_countHeard, if_pos (by simpa using ha)]

theorem State.takeRequest_unranked (hf : r.src.val ≠ s.station) (ha : s.addressed r = true)
    (hr : ¬s.ranked rank r.src = true) :
    s.takeRequest k rank r act = s.countHeard.answer k.value r .refusedRank .noValue := by
  unfold State.takeRequest
  rw [State.hear_foreign _ _ hf, State.addressed_countHeard, if_neg (by simp [ha]), State.ranked_countHeard, if_neg hr]

/-! ## Every request goes through them -/

theorem Drop.ofNat?_toNat (d : Drop) : Drop.ofNat? d.toNat = some d := by cases d <;> rfl

theorem requestDrop_of {d : Drop} (h : r.drop.toNat = d.toNat) : requestDrop r = some d := by
  unfold requestDrop; rw [h, Drop.ofNat?_toNat]

theorem requestDrop_none (h : 3 < r.drop.toNat) : requestDrop r = none := by
  unfold requestDrop
  generalize r.drop.toNat = n at h
  match n, h with
  | n + 4, _ => rfl

/-- A command goes through the common checks as a request of a kind (12 R202). -/
def Checked (c : Instr) (r : Request) (k : RequestKind) (service namesDrop : Bool) : Prop :=
  ∃ act : State → State, (∀ s, exec c s = .next (s.takeRequest k (rankFor service) r act)) ∧
    (namesDrop = true → requestDrop r = none → ∀ s, act s = s.answer k.value r .unknown .noValue)

theorem checked_of_drop {c : Instr} {service : Bool} {act : Drop → State → State}
    (h : ∀ s, exec c s = .next (s.takeDropRequest k (rankFor service) r act)) : Checked c r k service true :=
  ⟨_, h, fun _ hd s => by rw [hd]⟩

/-- Every request of the table goes through the common checks. -/
theorem request_checked (r : Request) : ∀ x ∈ requestTable, Checked (x.1 r) r x.2.1 x.2.2.1 x.2.2.2 := by
  unfold requestTable
  simp only [List.forall_mem_cons]
  refine ⟨?_, ?_, ?_, ?_, ?_, ?_, ?_, ?_, ?_, ?_, ?_, ?_, ?_, ?_, ?_, ?_, ?_, ?_, ⟨_, fun _ => rfl, nofun⟩, nofun⟩
  all_goals exact checked_of_drop fun _ => rfl

end

/-! ## Queries -/

section
variable {s : State} {r : Request} {d : Drop}

/-- A read of a field without a value uses a free value up (log 7). -/
theorem State.drawIfUnloaded_eq (s : State) :
    s.drawIfUnloaded = { s with draws := if s.cfg.isNone = true then s.draws + 1 else s.draws } := by
  obtain h | ⟨c, h⟩ := Option.eq_none_or_eq_some s.cfg
  · have draws : (if s.cfg.isNone = true then s.draws + 1 else s.draws) = s.draws + 1 := if_pos (by rw [h]; rfl)
    rw [draws]
    unfold State.drawIfUnloaded
    rw [h]
  · have draws : (if s.cfg.isNone = true then s.draws + 1 else s.draws) = s.draws := if_neg (by rw [h]; exact Bool.false_ne_true)
    have kept : s.drawIfUnloaded = s := by unfold State.drawIfUnloaded; rw [h]
    rw [draws, kept]

/-- The ANSWER of a query that may read a field of configuration: DONE with the value read, or UNKNOWN. -/
def State.answerRead (s : State) (k : RequestKind) (r : Request) : Option AnswerValue → State
  | none => s.answer k.value r .unknown .noValue
  | some v =>
    State.answer { s with draws := if s.cfg.isNone = true then s.draws + 1 else s.draws } k.value r .done v

/-- The ANSWER of a query that reads no configuration. -/
def State.answerReply (s : State) (k : RequestKind) (r : Request) : Option AnswerValue → State
  | none => s.answer k.value r .unknown .noValue
  | some v => s.answer k.value r .done v

theorem exec_queryDrop (h : s.TakesDrop .controller r d) :
    exec (.queryDrop r) s = .next (s.countHeard.answerRead .queryDrop r (s.countHeard.dropValue d (argOne r 0))) := by
  refine congrArg Host.Outcome.next ((State.takeDropRequest_taken h _ _).trans ?_)
  cases s.countHeard.dropValue d (argOne r 0) with
  | none => rfl
  | some v => exact congrArg (fun u => State.answer u _ r .done v) s.countHeard.drawIfUnloaded_eq

theorem exec_queryLens (h : s.TakesDrop .controller r d) :
    exec (.queryLens r) s = .next (s.countHeard.answerReply .queryLens r ((s.lens.get d).queryValue (argOne r 0))) := by
  refine congrArg Host.Outcome.next ((State.takeDropRequest_taken h _ _).trans ?_)
  rw [State.countHeard_lens]
  cases (s.lens.get d).queryValue (argOne r 0) <;> rfl

theorem exec_querySweep (h : s.TakesDrop .controller r d) :
    exec (.querySweep r) s = .next (s.countHeard.answerReply .querySweep r ((s.sweep d).queryValue (argOne r 0))) := by
  refine congrArg Host.Outcome.next ((State.takeDropRequest_taken h _ _).trans ?_)
  rw [State.countHeard_sweep]
  cases (s.sweep d).queryValue (argOne r 0) <;> rfl

theorem exec_queryStation (h : s.Takes .controller r) :
    exec (.queryStation r) s =
      .next (s.countHeard.answerRead .queryStation r ((s.countHeard.stationValue r (argOne r 0)).map .station)) := by
  refine congrArg Host.Outcome.next ((State.takeRequest_taken h _ _).trans ?_)
  cases s.countHeard.stationValue r (argOne r 0) with
  | none => rfl
  | some v => exact congrArg (fun u => State.answer u _ r .done (.station v)) s.countHeard.drawIfUnloaded_eq

/-! ## What they read -/

theorem Sweep.queryValue_eq (w : Sweep) (n : Nat) :
    w.queryValue n =
      if n = 0 then some (.sweepRecord w.phase w.lastOutcome w.pointCount w.table.length w.passed)
      else (w.table[n - 1]?).map fun p => .sweepPoint p.1 p.2 := by
  cases n with
  | zero => rfl
  | succ n => rfl

theorem State.readBudget_of {c : Configuration} (h : s.cfg = some c) : s.readBudget = c.station.cellBudget := by
  unfold State.readBudget; rw [h]

theorem State.readRingFree_of {c : Configuration} (h : s.cfg = some c) :
    s.readRingFree = ringFree c.station.ringLength s.uplink.mark s.uplink.place := by
  unfold State.readRingFree; rw [h]

theorem State.readAllowance_of {c : Configuration} (h : s.cfg = some c) :
    s.readAllowance d = (c.drops.get d).allowance := by
  unfold State.readAllowance; rw [h]

theorem LoaderState.code_eq (x : LoaderState) : x.code = [LoaderState.loading, .loaded, .defaulted].idxOf x := by
  cases x <;> rfl

theorem Pause.code_eq (x : Pause) : x.code = [Pause.none, .empty, .headOpen, .ring, .link, .restart].idxOf x := by
  cases x <;> rfl

theorem LocatePhase.code_eq (x : LocatePhase) :
    x.code = [LocatePhase.quiesce, .bundle, .launch, .settle, .capture].idxOf x := by
  cases x <;> rfl

/-- The values of indices 0 to 60, in the order of 12 R205. -/
theorem State.stationValues_eq (s : State) : s.stationValues = s.stationTable s.readBudget s.readRingFree := by
  have open_ : (s.shots.table.filter fun e => decide (e.state = .open)).length =
      s.shots.table.countP fun e => decide (e.state = .open) := List.countP_eq_length_filter.symm
  have down : flagValue (!s.uplink.linkUp) = if s.uplink.linkUp then 0 else 1 := by cases s.uplink.linkUp <;> rfl
  have phase : codeOr255 (s.locator.active.map fun a => a.phase.code) =
      match s.locator.active with
      | some a => [LocatePhase.quiesce, .bundle, .launch, .settle, .capture].idxOf a.phase
      | none => 255 := by
    cases s.locator.active with
    | none => rfl
    | some a => exact a.phase.code_eq
  unfold State.stationValues Shots.values Uplink.values Locator.values
  rw [open_, down, phase, LoaderState.code_eq, Pause.code_eq]
  rfl

theorem State.stationValue_below {n : Nat} (h : n < 61) :
    s.stationValue r n = (s.stationTable s.readBudget s.readRingFree)[n]? := by
  unfold State.stationValue
  rw [if_pos h, State.stationValues_eq]

theorem State.stationValue_drop {n : Nat} (h : 61 ≤ n) (hd : requestDrop r = some d) :
    s.stationValue r n = (s.dropTable d)[n - 61]? := by
  unfold State.stationValue
  rw [if_neg (Nat.not_lt.mpr h), hd]; rfl

theorem State.stationValue_noDrop {n : Nat} (h : 61 ≤ n) (hd : requestDrop r = none) : s.stationValue r n = none := by
  unfold State.stationValue
  rw [if_neg (Nat.not_lt.mpr h), hd]

/-! ## Unknown request kinds -/

/-- A kind outside the table is answered UNKNOWN before any other check (12 R202). -/
theorem exec_unknownRequestKind {kind : Byte} (hk : ∀ k ∈ RequestKind.all, k.value ≠ kind) :
    exec (.unknownRequestKind kind r) s =
      .next (s.hear r.src fun s => if s.addressed r then s.answer kind r .unknown .noValue else s) := by
  have unknown : ¬knownKind kind = true := by
    unfold knownKind
    rw [List.any_eq_true]
    rintro ⟨k, hm, he⟩
    exact hk k hm (beq_iff_eq.mp he)
  exact congrArg Host.Outcome.next (if_neg unknown)

/-! ## The site table's queries -/

/-- Notes of a station that is not stray join the transmit queue one behind the other. -/
theorem State.queueNotes_of (hs : s.stray = false) (bs : List NoteBody) :
    bs.foldl State.queueNote s = { s with cli := bs.foldl Cli.enqueue s.cli } := by
  induction bs generalizing s with
  | nil => rfl
  | cons b bs ih =>
    have first : s.queueNote b = { s with cli := s.cli.enqueue b } := if_neg (by rw [hs]; decide)
    rw [List.foldl_cons, first, ih (s := { s with cli := s.cli.enqueue b }) hs]
    rfl

theorem State.Takes.stray {rank : Rank} (h : s.Takes rank r) : s.countHeard.stray = false := by
  show s.stray = false
  rw [← Bool.not_eq_true, State.stray_iff]
  exact (State.addressed_iff.mp h.addressed).1

theorem siteValue_eq (n : Nat) (h : n ≤ 4) (p : Nat × Site) :
    siteValue n p =
      if n = 0 then .sitePlace p.1 p.2.kind p.2.center
      else if n = 1 then .siteCounts p.2.count p.2.flashCount
      else if n = 2 then .siteSequence p.2.firstSeq
      else if n = 3 then .siteSequence p.2.lastSeq
      else .siteTrigger p.1 p.2.lastTrigger := by
  match n, h with
  | 0, _ | 1, _ | 2, _ | 3, _ | 4, _ => rfl

theorem exec_querySites (h : s.TakesDrop .controller r d) :
    exec (.querySites r) s = .next (s.countHeard.querySitesDrop r d) :=
  congrArg Host.Outcome.next (State.takeDropRequest_taken h _ _)

theorem State.querySitesDrop_unknown (hn : 4 < argOne r 0) :
    s.querySitesDrop r d = s.answer RequestKind.querySites.value r .unknown .noValue := if_pos hn

theorem State.querySitesDrop_empty (hn : argOne r 0 ≤ 4) (ho : (s.sites.get d).occupied = []) :
    s.querySitesDrop r d = s.answer RequestKind.querySites.value r .done .noValue := by
  unfold State.querySitesDrop
  dsimp only
  rw [if_neg (Nat.not_lt.mpr hn), ho]

/-- The occupied slots that a QUERY_SITES answers, each with an ANSWER of its own (11 R200). -/
theorem State.querySitesDrop_occupied (hs : s.stray = false) (hn : argOne r 0 ≤ 4) (ho : (s.sites.get d).occupied ≠ []) :
    s.querySitesDrop r d =
      { s with
        cli :=
          ((s.sites.get d).occupied.map fun p => NoteBody.answer
            { target := r.src, kind := RequestKind.querySites.value, drop := r.drop, code := .done
              value := siteValue (argOne r 0) p }).foldl Cli.enqueue s.cli } := by
  rw [← State.queueNotes_of hs, List.foldl_map]
  unfold State.querySitesDrop
  dsimp only
  rw [if_neg (Nat.not_lt.mpr hn)]
  cases h : (s.sites.get d).occupied with
  | nil => exact absurd h ho
  | cons p ps => rfl

theorem State.clear_changes (t : SiteTable) (d : Drop) :
    (t.clear.2.map fun c => NoteBody.event (siteEvent d c)) =
      t.occupied.map fun p => NoteBody.event (.siteChanged d p.1 p.2.kind 0 p.2.center) := by
  unfold SiteTable.clear
  rw [List.map_map]; rfl

/-- CLEAR_SITES: the events of the slots that empty, and then the ANSWER (11 R201). -/
theorem exec_clearSites (h : s.TakesDrop .service r d) :
    exec (.clearSites r) s = .next
      { s.countHeard with
        sites := s.sites.set d { s.sites.get d with slots := [none, none, none, none] }
        cli :=
          (((s.sites.get d).occupied.map fun p => NoteBody.event (.siteChanged d p.1 p.2.kind 0 p.2.center)) ++
            [NoteBody.answer
              { target := r.src, kind := RequestKind.clearSites.value, drop := r.drop, code := .done
                value := .count (s.sites.get d).occupied.length }]).foldl Cli.enqueue s.countHeard.cli } := by
  refine congrArg Host.Outcome.next ((State.takeDropRequest_taken h _ _).trans ?_)
  let cleared := s.countHeard.modSites d fun _ => (s.sites.get d).clear.1
  have notes : (cleared.reportSites d (s.sites.get d).clear.2).answer RequestKind.clearSites.value r .done
      (.count (s.sites.get d).clear.2.length) =
      (((s.sites.get d).occupied.map fun p => NoteBody.event (.siteChanged d p.1 p.2.kind 0 p.2.center)) ++
        [NoteBody.answer
          { target := r.src, kind := RequestKind.clearSites.value, drop := r.drop, code := .done
            value := .count (s.sites.get d).clear.2.length }]).foldl State.queueNote cleared := by
    rw [State.reportSites_eq, State.clear_changes, List.foldl_append]; rfl
  have count : (s.sites.get d).clear.2.length = (s.sites.get d).occupied.length := List.length_map _
  refine notes.trans ?_
  rw [count, State.queueNotes_of (s := cleared) h.toTakes.stray]
  rfl

end

/-- Settles O51: the common checks by `request_checked`, each query by the equation of its command. -/
theorem queriesOnlyAnswer : Obligations.QueriesOnlyAnswer := by
  intro r s sel u reply reads here inSet counters
  have addressed : s.addressed r = true ↔ here := State.addressed_iff
  have reading : ∀ k o v, o = .next (u.answerRead k r v) → reads k o v := by
    rintro k o v rfl
    cases v <;> rfl
  have replying : ∀ k o v, o = .next (u.answerReply k r v) → reply k o v := by
    rintro k o v rfl
    cases v <;> rfl
  refine ⟨rfl, fun _ _ _ => rfl, fun x hx => ?_, fun kind hf hk => ?_, fun h => ?_, fun d h => ?_, fun d h => exec_clearSites h⟩
  · intro refused ranked
    obtain ⟨act, run, unknown⟩ := request_checked r x hx
    have rank : s.ranked (rankFor x.2.2.1) r.src = true ↔ ranked := State.ranked_iff _ _
    refine ⟨fun own => ?_, fun hf => ⟨fun hh => ?_, fun hh hr => ?_, fun hh hr hd hn => ?_⟩⟩
    · rw [run, State.takeRequest_own own]; rfl
    · rw [run, State.takeRequest_elsewhere hf (addressed.not.mpr hh)]
    · show _ = _
      rw [run, State.takeRequest_unranked hf (addressed.mpr hh) (rank.not.mpr hr)]
    · show _ = _
      rw [run, State.takeRequest_taken ⟨hf, addressed.mpr hh, rank.mpr hr⟩, unknown hd (requestDrop_none hn)]
  · rw [exec_unknownRequestKind hk, State.hear_foreign _ _ hf, State.addressed_countHeard]
    exact ⟨fun hh => congrArg Host.Outcome.next (if_neg (addressed.not.mpr hh)),
      fun hh => congrArg Host.Outcome.next (if_pos (addressed.mpr hh))⟩
  · have station : ∀ v, u.stationValue r sel = v → reads .queryStation (exec (.queryStation r) s) (v.map .station) := by
      rintro v rfl
      exact reading _ _ _ (exec_queryStation h)
    refine ⟨⟨u.readBudget, u.readRingFree, fun c hc => ⟨State.readBudget_of hc, State.readRingFree_of hc⟩, fun hn => ?_⟩,
      fun d hd hn => ?_, fun hd hn => ?_⟩
    · exact station _ (State.stationValue_below hn)
    · exact station _ (State.stationValue_drop hn (requestDrop_of hd))
    · exact station _ (State.stationValue_noDrop hn (requestDrop_none hd))
  · intro l t x
    have sites : s.countHeard.stray = false := h.toTakes.stray
    refine ⟨⟨u.readAllowance d, fun c hc => State.readAllowance_of hc, reading _ _ _ ?_⟩, replying _ _ _ ?_,
      replying _ _ _ ?_, fun hn => ?_, fun hn ho => ?_, fun hn ho => ?_⟩
    · exact exec_queryDrop h
    · exact exec_queryLens h
    · rw [exec_querySweep h]
      exact congrArg (fun v => Host.Outcome.next (u.answerReply .querySweep r v)) (Sweep.queryValue_eq _ _)
    · exact (exec_querySites h).trans (congrArg Host.Outcome.next (State.querySitesDrop_unknown hn))
    · exact (exec_querySites h).trans (congrArg Host.Outcome.next (State.querySitesDrop_empty hn ho))
    · rw [exec_querySites h, State.querySitesDrop_occupied sites hn ho]
      refine congrArg Host.Outcome.next ?_
      rw [show siteValue (argOne r 0) = _ from funext (siteValue_eq _ hn)]
      rfl

end Sys2Proof.Machine

/-! PROOF. Resets and loading (O52): the number latched at a reset, the fields of an EEPROM image, and the drops of auto-power
at the end of loading. -/

namespace Sys2Proof.Machine

/-! ## Resets -/

theorem countP_range_four (f : Nat → Bool) :
    (List.range 4).countP f = (f 0).toNat + (f 1).toNat + (f 2).toNat + (f 3).toNat := by
  have one : ∀ n, (if f n = true then 1 else 0) = (f n).toNat := fun n => by cases f n <;> rfl
  simp only [show List.range 4 = [0, 1, 2, 3] from rfl, List.countP_cons, List.countP_nil, one]
  omega

/-- The number latched, by whether the five pins have an odd number of ones (02 R43). -/
theorem latchStation_eq (p : Pins) :
    latchStation p =
      if ((List.range 4).countP (fun i => p.straps.getLsbD i) + p.parity.toNat) % 2 = 1 then p.straps.toNat else 15 := by
  unfold latchStation
  rw [countP_range_four]

/-- Every block but the kept ones is at its value after reset (02 R43; the reset rule of every chapter). -/
structure State.ResetTo (s t : State) (pins : Pins) (kept : List Block) : Prop where
  blocks : ∀ b, b ∉ [.now, .draws, .pins, .station, .drops, .cli, .uplink, .pending] ++ kept → b.same State.reset t
  kept : ∀ b ∈ [.now, .pending] ++ kept, b.same s t
  latched : t.pins = pins
  station : t.station = latchStation pins
  drops : ∀ d, t.drops.get d = { State.reset.drops.get d with measured := (t.drops.get d).measured }
  cli : t.cli = { State.reset.cli with startWait := .running s.now 300000 }
  uplink : t.uplink = { State.reset.uplink with linkUp := s.uplink.linkUp }

theorem State.resetAll_resetTo (s : State) (pins : Pins) : s.ResetTo (s.resetAll pins) pins [] where
  blocks b hb := by cases b <;> first | rfl | exact absurd (by decide) hb
  kept b hb := by
    rcases List.mem_pair.mp hb with rfl | rfl <;> rfl
  latched := rfl
  station := rfl
  drops d := by cases d <;> rfl
  cli := rfl
  uplink := rfl

/-- A CELL_RESET that acts keeps the site tables (12 R208). -/
theorem State.cellReset_resetTo (s : State) (pins : Pins) :
    s.ResetTo (s.countHeard.cellReset pins) pins [.sites] where
  blocks b hb := by cases b <;> first | rfl | exact absurd (by decide) hb
  kept b hb := by
    simp only [List.cons_append, List.nil_append, List.mem_cons, List.not_mem_nil, or_false] at hb
    rcases hb with rfl | rfl | rfl <;> rfl
  latched := rfl
  station := rfl
  drops d := by cases d <;> rfl
  cli := rfl
  uplink := rfl

section
variable {s : State} {src : Station} {target : Byte} {pins : Pins}

theorem exec_cellReset (hf : src.val ≠ s.station) :
    exec (.cellReset src target pins) s = .next (
      if target.toNat = s.station ∨ target.toNat = 15 then
        if s.isService src then s.countHeard.cellReset pins
        else { s.countHeard with resetsRefused := bump s.resetsRefused }
      else s.countHeard) :=
  congrArg Host.Outcome.next (State.hear_foreign _ _ hf)

end

/-! ## The image -/

theorem imageField_byte (img : List Byte) (i : Nat) : imageField img i 1 = (imageByte img i).toNat := by
  unfold imageField imageByte
  cases h : img.drop i with
  | nil =>
    have : img[i]? = none := List.getElem?_eq_none (List.drop_eq_nil_iff.mp h)
    simp [this]
  | cons b bs =>
    have : img[i]? = some b := by
      have := congrArg List.head? h
      simpa using this
    simp [this]

theorem imagePasses_iff (img : List Byte) : imagePasses img = true ↔ imageAccepted img := by
  have format : imageField img 2 1 = 1 ↔ imageByte img 2 = 1 := by
    rw [imageField_byte]
    constructor
    · intro h; exact BitVec.eq_of_toNat_eq h
    · intro h; rw [h]; rfl
  unfold imagePasses imageAccepted
  rw [format, Bool.and_eq_true, Bool.and_eq_true, decide_eq_true_eq, decide_eq_true_eq, decide_eq_true_eq, and_assoc]
  rfl

/-- The fields that change among some that have a range. -/
theorem count_changed (l : List (Nat × Nat)) :
    (l.map fun p => p.1 != p.2).count true = l.countP fun p => decide (p.1 ≠ p.2) := by
  rw [List.count, List.countP_map]
  congr 1
  funext p
  simp [Function.comp, bne, Bool.beq_eq_decide_eq]

theorem imageClamps_eq (img : List Byte) :
    imageClamps img = (imageRanged img).countP fun p => decide (p.1 ≠ p.2) := by
  unfold imageRanged
  rw [List.countP_append, List.countP_flatMap, ← count_changed]
  simp only [Function.comp_def, ← count_changed]
  rfl

end Sys2Proof.Machine

/-! PROOF. The end of loading (O52): the first PRESENCE, and the drops of auto-power in the claim queue. -/

namespace Sys2Proof.Machine

/-! ## The look for the next claim -/

section
variable {s t : State} {d : Drop}

theorem State.lookClaims_outstanding (h : s.claimOutstanding = true) : s.lookClaims = s := if_pos h

theorem State.queueNote_cli (h : s.stray = false) (b : NoteBody) : (s.queueNote b).cli = s.cli.enqueue b := by
  rw [show s.queueNote b = s.modCli (·.enqueue b) from if_neg (by rw [h]; exact Bool.false_ne_true)]
  rfl

/-- With no CLAIM outstanding the next claim's note is queued (03 R60). -/
theorem State.lookClaims_cli_free (h : s.claimOutstanding = false) (hs : s.stray = false) :
    s.lookClaims.cli = match s.nextClaim with
      | none => s.cli
      | some e => s.cli.enqueue (.claim e.drop (s.dropCfg e.drop).allowance none) := by
  unfold State.lookClaims
  rw [if_neg (by rw [h]; exact Bool.false_ne_true)]
  cases s.nextClaim with
  | none => rfl
  | some e => exact State.queueNote_cli hs _

/-- The next claim of a queue whose entries are all SENDABLE: the first drop with locate_hold clear. -/
theorem State.nextClaim_of {ds : List Drop} (h : s.budget.claims = ds.map fun d => { drop := d, retry := .sendable }) :
    s.nextClaim = (ds.find? fun d => !(s.drops.get d).locateHold).map fun d => { drop := d, retry := .sendable } := by
  unfold State.nextClaim
  rw [h, List.find?_map]
  congr 2

/-- A queued CLAIM is outstanding (03 R60). -/
theorem Cli.enqueue_claim_outstanding (c : Cli) (d : Drop) (n : Nat) :
    (c.enqueue (.claim d n none)).queue.any (·.body.isClaim) = true :=
  List.any_eq_true.mpr ⟨_, c.enqueue_joins (by show (1 : Nat) < 2; decide), rfl⟩

/-- A note that joins brings no note of another kind into the queue. -/
theorem Cli.mem_enqueue {c : Cli} {b : NoteBody} {n : QNote} (h : n ∈ (c.enqueue b).queue) :
    n ∈ c.queue ∨ n = ⟨b, [], false⟩ := by
  have join : ∀ c' : Cli, (∀ m ∈ c'.queue, m ∈ c.queue) → n ∈ (c'.join b).queue → n ∈ c.queue ∨ n = ⟨b, [], false⟩ := by
    intro c' hc hn
    unfold Cli.join at hn
    rcases List.mem_append.mp hn with hn | hn
    · exact .inl (hc n hn)
    · exact .inr (List.mem_singleton.mp hn)
  have erased : ∀ p : QNote → Bool, ∀ m ∈ eraseLast p c.queue, m ∈ c.queue := by
    intro p m hm
    unfold eraseLast at hm
    exact List.mem_reverse.mp (List.mem_of_mem_eraseP (List.mem_reverse.mp hm))
  have room : ∀ m ∈ c.makeRoom.queue, m ∈ c.queue := by
    unfold Cli.makeRoom
    split_ifs
    · exact erased _
    · exact erased _
    · exact fun m hm => hm
  unfold Cli.enqueue at h
  split_ifs at h
  · exact join c (fun m hm => hm) h
  · exact .inl h
  · exact join c (fun m hm => hm) h
  · exact .inl h
  · exact join c (fun m hm => hm) h
  · exact join _ room h

end

/-! ## The first PRESENCE -/

section
variable {s : State}

/-- The Cell Line Interface as the first PRESENCE of the loaded hub leaves it (02 R49). -/
def State.announcedCli (s : State) : Cli :=
  { (if s.cli.queue.any (·.body.isPresence) = true then s.cli else s.cli.enqueue (.presence none)) with
    presenceTimer := .running s.now 250000 }

theorem State.announce_stray (h : s.stray = true) : s.announce = s := by
  have queued : s.queuePresence = s := by
    unfold State.queuePresence State.queueNote
    rw [if_pos h, ite_self]
  unfold State.announce State.startPresenceTimer
  rw [queued, if_pos h]

theorem State.announce_cli (h : s.stray = false) : s.announce.cli = s.announcedCli := by
  have queued : s.queuePresence = { s with
      cli := if s.cli.queue.any (·.body.isPresence) = true then s.cli else s.cli.enqueue (.presence none) } := by
    unfold State.queuePresence
    split
    · rfl
    · rw [State.queueNote_eq, State.queueNote_cli h]
  have stray : s.queuePresence.stray = false := by rw [queued]; exact h
  unfold State.announce State.startPresenceTimer
  rw [if_neg (by rw [stray]; exact Bool.false_ne_true), queued]
  rfl

/-- The first PRESENCE brings no CLAIM into the queue. -/
theorem State.announcedCli_noClaim (h : ∀ n ∈ s.cli.queue, n.body.isClaim = false) :
    s.announcedCli.queue.any (·.body.isClaim) = false := by
  rw [List.any_eq_false]
  intro n hn
  unfold State.announcedCli at hn
  dsimp only at hn
  split at hn
  · rw [h n hn]; exact Bool.false_ne_true
  · rcases Cli.mem_enqueue hn with hn | rfl
    · rw [h n hn]; exact Bool.false_ne_true
    · exact Bool.false_ne_true

end

/-! ## The drops of auto-power -/

section
variable {s u : State} {ds : List Drop} {d : Drop}

/-- The CLAIM that the drops in the claim queue send: of the first with locate_hold clear (03 R60). -/
def State.claimOf (s : State) (ds : List Drop) : Cli :=
  match ds.find? fun d => !(s.drops.get d).locateHold with
  | none => s.cli
  | some d => s.cli.enqueue (.claim d (s.dropCfg d).allowance none)

/-- From `s`, a hub that is not stray, has no claim and no CLAIM note, some drops have entered CLAIMING one after the
other (01 R5, R30). -/
structure State.AutoPowered (s u : State) (ds : List Drop) : Prop where
  frame : s.ChangesOnly u claimFields Drop.all
  drops : ∀ d, u.drops.get d =
    if d ∈ ds then { s.drops.get d with state := .claiming, onIntent := true } else s.drops.get d
  lens : ∀ d, u.lens.get d = if d ∈ ds then (s.lens.get d).unhomed else s.lens.get d
  budget : u.budget = { s.budget with claims := ds.map fun d => { drop := d, retry := .sendable } }
  cli : u.cli = s.claimOf ds

theorem State.AutoPowered.start (h : s.budget.claims = []) : s.AutoPowered s [] where
  frame := .refl _ _ _
  drops d := by rw [if_neg List.not_mem_nil]
  lens d := by rw [if_neg List.not_mem_nil]
  budget := by rw [List.map_nil, ← h]
  cli := rfl

/-- The CLAIM of the drops that have entered is outstanding, where one of them has locate_hold clear. -/
theorem State.claimOf_outstanding (hc : s.cli.queue.any (·.body.isClaim) = false) (ds : List Drop) :
    (s.claimOf ds).queue.any (·.body.isClaim) = (ds.find? fun d => !(s.drops.get d).locateHold).isSome := by
  unfold State.claimOf
  cases ds.find? fun d => !(s.drops.get d).locateHold with
  | none => exact hc
  | some d => exact s.cli.enqueue_claim_outstanding d _

/-- A drop that has been turned on and stands in the claim queue, the queue not yet looked through (01 R5). -/
def State.standsInQueue (s : State) (d : Drop) : State :=
  ((((s.modDrop d fun r => { r with onIntent := true }).setDropState d .claiming).clearHomed d).modBudget fun b =>
    { b with claims := (b.claims.filter fun e => decide (e.drop ≠ d)) ++ [⟨d, .sendable⟩] })

theorem State.turnOn_eq (s : State) (d : Drop) : s.turnOn d = (s.standsInQueue d).lookClaims := rfl

theorem State.claimOf_append {ds : List Drop} {x : Drop} (h : (ds.find? fun d => !(s.drops.get d).locateHold) = some x)
    (d : Drop) : s.claimOf (ds ++ [d]) = s.claimOf ds := by
  unfold State.claimOf
  rw [List.find?_append, h]; rfl

theorem State.claimOf_none {ds : List Drop} (h : (ds.find? fun d => !(s.drops.get d).locateHold) = none) :
    s.claimOf ds = s.cli := by
  unfold State.claimOf
  rw [h]

/-- The look through the claim queue that one more drop has joined: a CLAIM is outstanding already, or the first drop with
locate_hold clear sends one (03 R60). -/
theorem State.AutoPowered.cli_turnOn (h : s.AutoPowered u ds) (hs : s.stray = false)
    (hc : s.cli.queue.any (·.body.isClaim) = false)
    (drops : ∀ e, (u.turnOn d).drops.get e =
      if e ∈ ds ++ [d] then { s.drops.get e with state := .claiming, onIntent := true } else s.drops.get e)
    (budget : (u.turnOn d).budget =
      { s.budget with claims := (ds ++ [d]).map fun d => { drop := d, retry := .sendable } }) :
    (u.turnOn d).cli = s.claimOf (ds ++ [d]) := by
  have look := (u.standsInQueue d).lookClaims_frame
  have cli : (u.standsInQueue d).cli = s.claimOf ds := h.cli
  have outstanding : (u.standsInQueue d).claimOutstanding = (ds.find? fun d => !(s.drops.get d).locateHold).isSome := by
    unfold State.claimOutstanding
    rw [cli, State.claimOf_outstanding hc]
  have hold : ∀ e, ((u.standsInQueue d).drops.get e).locateHold = (s.drops.get e).locateHold := by
    intro e
    rw [← look.get .drops, ← State.turnOn_eq, drops]
    split <;> rfl
  have claims : (u.standsInQueue d).budget.claims = (ds ++ [d]).map fun d => { drop := d, retry := .sendable } := by
    rw [← look.get .budget, ← State.turnOn_eq, budget]
  have stray : (u.standsInQueue d).stray = false := (State.stray_of (h.frame.get .station)).trans hs
  have cfg : ∀ e, (u.standsInQueue d).dropCfg e = s.dropCfg e := fun e => State.dropCfg_of (h.frame.get .cfg) e
  rw [State.turnOn_eq]
  cases hf : ds.find? fun d => !(s.drops.get d).locateHold with
  | some x =>
    rw [State.lookClaims_outstanding (by rw [outstanding, hf]; rfl), cli, State.claimOf_append hf]
  | none =>
    rw [State.lookClaims_cli_free (by rw [outstanding, hf]; rfl) stray, State.nextClaim_of claims, cli, State.claimOf_none hf]
    simp only [hold]
    unfold State.claimOf
    cases (ds ++ [d]).find? fun d => !(s.drops.get d).locateHold with
    | none => rfl
    | some e => exact congrArg (fun n => s.cli.enqueue (.claim e n none)) (congrArg DropCfg.allowance (cfg e))

/-- One more drop enters CLAIMING behind the others. -/
theorem State.AutoPowered.turnOn (h : s.AutoPowered u ds) (hs : s.stray = false)
    (hc : s.cli.queue.any (·.body.isClaim) = false) (hd : d ∉ ds) : s.AutoPowered (u.turnOn d) (ds ++ [d]) := by
  have claims := u.turnOn_claims d
  have joined : (u.budget.claims.filter fun e => decide (e.drop ≠ d)) = u.budget.claims := by
    rw [h.budget, List.filter_eq_self]
    intro e he
    obtain ⟨x, hx, rfl⟩ := List.mem_map.mp he
    simp only [decide_eq_true_eq]
    rintro rfl
    exact hd hx
  have drops : ∀ e, (u.turnOn d).drops.get e =
      if e ∈ ds ++ [d] then { s.drops.get e with state := .claiming, onIntent := true } else s.drops.get e := by
    intro e
    by_cases he : e = d
    · subst he
      rw [claims.record, h.drops, if_neg hd, if_pos (by simp)]
    · rw [(claims.frame.drops e (by simpa using he)).1, h.drops]
      exact if_congr (by simp [he]) rfl rfl
  have budget : (u.turnOn d).budget =
      { s.budget with claims := (ds ++ [d]).map fun d => { drop := d, retry := .sendable } } := by
    rw [claims.queue, joined, h.budget, List.map_append]; rfl
  refine ⟨h.frame.step claims.frame (fun _ h => h) (by simp [Drop.mem_all]), drops, fun e => ?_, budget, ?_⟩
  · by_cases he : e = d
    · subst he
      rw [claims.homed, h.lens, if_neg hd, if_pos (by simp)]
    · rw [(claims.frame.drops e (by simpa using he)).lens, h.lens]
      exact if_congr (by simp [he]) rfl rfl
  · exact h.cli_turnOn hs hc drops budget

/-- A drop that configuration turns on at the end of loading (01 R30). -/
def State.isAuto (s : State) (d : Drop) : Bool := (s.dropCfg d).enabled && (s.dropCfg d).autoPower

theorem State.isAuto_of (h : u.cfg = s.cfg) (d : Drop) : u.isAuto d = s.isAuto d := by
  unfold State.isAuto
  rw [State.dropCfg_of h]

theorem State.autoPower_eq (h : s.stray = false) (d : Drop) : s.autoPower d = if s.isAuto d then s.turnOn d else s := by
  unfold State.autoPower State.isAuto
  dsimp only
  rw [h, Bool.not_false, Bool.and_true]

theorem State.autoPower_stray (h : s.stray = true) (d : Drop) : s.autoPower d = s := by
  unfold State.autoPower
  dsimp only
  rw [h, Bool.not_true, Bool.and_false]; rfl

/-- The drops of auto-power enter CLAIMING in order, behind those that have entered already (01 R30). -/
theorem State.AutoPowered.foldl (hs : s.stray = false) (hc : s.cli.queue.any (·.body.isClaim) = false) (es : List Drop) :
    ∀ {u : State} {ds : List Drop}, s.AutoPowered u ds → (ds ++ es).Nodup →
      s.AutoPowered (es.foldl State.autoPower u) (ds ++ es.filter s.isAuto) := by
  induction es with
  | nil =>
    intro u ds h _
    rw [List.filter_nil, List.append_nil]; exact h
  | cons e es ih =>
    intro u ds h nodup
    have power : u.autoPower e = if s.isAuto e then u.turnOn e else u := by
      rw [State.autoPower_eq ((State.stray_of (h.frame.get .station)).trans hs), State.isAuto_of (h.frame.get .cfg)]
    rw [List.foldl_cons, power]
    by_cases auto : s.isAuto e = true
    · have fresh : e ∉ ds := fun he => (List.nodup_append.mp nodup).2.2 e he e List.mem_cons_self rfl
      rw [if_pos auto, List.filter_cons_of_pos auto, List.append_cons]
      exact ih (h.turnOn hs hc fresh) (by rwa [← List.append_cons])
    · rw [if_neg auto, List.filter_cons_of_neg auto]
      exact ih h (nodup.sublist (List.sublist_append_right [e] es |>.append_left ds))

/-! ## The end of loading -/

/-- Until loading ends no drop stands in the claim queue (03 R59). -/
theorem State.BudgetLaw.noClaims (h : s.BudgetLaw) (hl : s.loader = .loading) : s.budget.claims = [] := by
  refine List.eq_nil_iff_forall_not_mem.mpr fun e he => ?_
  have claiming := (h.claimants e.drop).mp (List.any_eq_true.mpr ⟨e, he, by simp⟩)
  rw [h.offUntilLoaded (h.loading.mp hl)] at claiming
  cases claiming

theorem State.announcedCli_congr (h : s.cli = u.cli) (hn : s.now = u.now) : s.announcedCli = u.announcedCli := by
  unfold State.announcedCli
  rw [h, hn]

/-- The first PRESENCE joins a transmit queue with room, and a CLAIM then joins behind it (02 R41). -/
theorem Cli.enqueue_room {c : Cli} {b : NoteBody} (h : c.queue.length < 8) : c.enqueue b = c.join b := by
  have room : c.queue.length < Config.queueSize := by show _ < 12; omega
  unfold Cli.enqueue
  rw [if_pos (show c.queue.length < Config.classThreeLimit from h), if_pos room, if_pos room, ite_self, ite_self]

theorem Cli.enqueue_keeps_presence {c : Cli} {b : NoteBody} (hb : b.cls < 2) (h : c.queue.length < 12)
    (hp : c.queue.any (·.body.isPresence) = true) : (c.enqueue b).queue.any (·.body.isPresence) = true := by
  have joined : c.enqueue b = c.join b := by
    unfold Cli.enqueue
    rw [if_neg (by omega), if_neg (by omega), if_pos (show c.queue.length < Config.queueSize from h)]
  rw [joined]
  unfold Cli.join
  rw [List.any_append, hp]; rfl

theorem State.announcedCli_presence (h : s.cli.queue.length < 8) :
    s.announcedCli.queue.any (·.body.isPresence) = true ∧ s.announcedCli.queue.length < 12 := by
  unfold State.announcedCli
  dsimp only
  split
  · next hp => exact ⟨hp, by omega⟩
  · rw [Cli.enqueue_room h]
    unfold Cli.join
    exact ⟨by simp [NoteBody.isPresence], by simp; omega⟩

theorem State.load_accepted (s : State) {img : List Byte} (h : imageAccepted img) :
    s.load (.image img) =
      { s with
        loader := .loaded
        cfg := some (imageConfiguration img)
        clampedFields := satAdd 255 s.clampedFields (imageClamps img) } := by
  unfold State.load loadedImage
  dsimp only
  rw [if_pos ((imagePasses_iff img).mpr h)]

theorem State.load_rejected (s : State) {read : EepromRead} (h : ∀ img, read = .image img → ¬imageAccepted img) :
    s.load read = { s with loader := .defaulted, cfg := some defaultedConfiguration } := by
  have none_ : loadedImage read = none := by
    cases read with
    | noAcknowledge => rfl
    | image img => exact if_neg ((imagePasses_iff img).not.mpr (h img rfl))
  unfold State.load
  rw [none_]

/-- The drops that the end of loading turns on: none at a stray station (01 R30). -/
def State.autos (s : State) : List Drop := if s.station = 15 then [] else Drop.all.filter s.isAuto

/-- From the announced hub the end of loading turns on the drops of auto-power. -/
theorem State.loadEnd_autoPowered (law : s.BudgetLaw) (hl : s.loader = .loading) (read : EepromRead) :
    (s.load read).announce.AutoPowered (Drop.all.foldl State.autoPower (s.load read).announce)
      (s.load read).announce.autos := by
  have load := s.load_frame read
  have announce := (s.load read).announce_frame
  have claims : (s.load read).announce.budget.claims = [] := by
    rw [announce.get .budget, load.get .budget]; exact law.noClaims hl
  have start := State.AutoPowered.start claims
  unfold State.autos
  by_cases hs : (s.load read).announce.station = 15
  · have stray : (s.load read).announce.stray = true := State.stray_iff.mpr hs
    have fixed : Drop.all.foldl State.autoPower (s.load read).announce = (s.load read).announce := by
      unfold Drop.all
      simp only [List.foldl_cons, List.foldl_nil, State.autoPower_stray stray]
    rw [if_pos hs, fixed]
    exact start
  · have stray : (s.load read).announce.stray = false := by rw [← Bool.not_eq_true, State.stray_iff]; exact hs
    have quiet : (s.load read).announce.cli.queue.any (·.body.isClaim) = false := by
      rw [State.announce_cli ((State.stray_of (announce.get .station)).symm.trans stray)]
      exact State.announcedCli_noClaim (by rw [load.get .cli]; exact law.noClaimNotes (law.loading.mp hl))
    rw [if_neg hs]
    exact start.foldl stray quiet Drop.all (by decide)

end

/-- Settles O52: the resets by `State.resetAll_resetTo` and `State.cellReset_resetTo`, the end of loading by the image's checks
and `State.loadEnd_autoPowered`. -/
theorem resetsAndLoadingStartTheHub : Obligations.ResetsAndLoadingStartTheHub := by
  intro s cleared
  have resets : ∀ {pins : Pins} {t : State} {kept : List Block}, s.ResetTo t pins kept → cleared pins t kept := by
    intro pins t kept h
    refine ⟨h.blocks, h.kept, h.latched, ?_, h.drops, h.cli, h.uplink⟩
    rw [h.station]
    exact latchStation_eq pins
  refine ⟨fun pins => ⟨_, rfl, resets (s.resetAll_resetTo pins)⟩, fun src target pins hf => ?_, fun read hl law => ?_,
    fun hl => ⟨congrArg Host.Outcome.next (if_neg hl), fun read => congrArg Host.Outcome.next (if_neg hl)⟩,
    fun hl => congrArg Host.Outcome.next (if_pos hl)⟩
  · intro here
    rw [exec_cellReset hf]
    refine ⟨fun hh hr => ?_, fun hh hr => ?_, fun hh => ?_⟩
    · rw [if_pos hh, if_pos hr]
      exact ⟨_, rfl, resets (s.cellReset_resetTo pins)⟩
    · rw [if_pos hh, if_neg (by rw [hr]; exact Bool.false_ne_true)]
    · rw [if_neg hh]
  · have run : exec (.loadEnd read) s = .next (Drop.all.foldl State.autoPower (s.load read).announce) :=
      congrArg Host.Outcome.next (if_pos hl)
    have frame := exec_frame _ run
    have powered := s.loadEnd_autoPowered law hl read
    generalize Drop.all.foldl State.autoPower (s.load read).announce = t at run frame powered
    refine ⟨t, run, ?_⟩
    intro autos announced
    have load := s.load_frame read
    have announce := (s.load read).announce_frame
    have station : (s.load read).announce.station = s.station := (announce.get .station).trans (load.get .station)
    have drops : (s.load read).announce.drops = s.drops := (announce.get .drops).trans (load.get .drops)
    have lens : (s.load read).announce.lens = s.lens := (announce.get .lens).trans (load.get .lens)
    have budget : (s.load read).announce.budget = s.budget := (announce.get .budget).trans (load.get .budget)
    have loader : t.loader = (s.load read).loader := (powered.frame.get .loader).trans (announce.get .loader)
    have cfg : t.cfg = (s.load read).cfg := (powered.frame.get .cfg).trans (announce.get .cfg)
    have clamped : t.clampedFields = (s.load read).clampedFields :=
      (powered.frame.get .clampedFields).trans (announce.get .clampedFields)
    have autos_eq : (s.load read).announce.autos = autos := by
      unfold State.autos
      rw [station]
      refine if_congr Iff.rfl rfl (List.filter_congr fun d _ => ?_)
      exact (State.isAuto_of (powered.frame.get .cfg) d).symm
    have announced_of : s.station ≠ 15 → announced = s.announcedCli := fun hs => if_neg hs
    have announced_eq : (s.load read).announce.cli = announced := by
      by_cases hs : s.station = 15
      · rw [State.announce_stray (State.stray_iff.mpr ((load.get .station).trans hs)), load.get .cli]
        exact (if_pos hs).symm
      · have stray : (s.load read).stray = false := by
          rw [← Bool.not_eq_true, State.stray_iff, load.get .station]; exact hs
        rw [State.announce_cli stray, announced_of hs, State.announcedCli_congr (load.get .cli) (load.get .now)]
    rw [autos_eq] at powered
    have cli : t.cli = match autos.find? fun d => !(s.drops.get d).locateHold with
        | none => announced
        | some d => announced.enqueue (.claim d (t.dropCfg d).allowance none) := by
      rw [powered.cli]
      unfold State.claimOf
      simp only [drops, announced_eq, State.dropCfg_of (powered.frame.get .cfg)]
    refine ⟨frame, fun img hi ha => ?_, fun hn => ?_, fun d => ⟨?_, ?_⟩, ?_, cli, fun hs hq => ?_⟩
    · rw [loader, cfg, clamped, hi, s.load_accepted ha]
      exact ⟨rfl, rfl, congrArg (fun n => min 255 (s.clampedFields + n)) (imageClamps_eq img)⟩
    · have disabled : ∀ d, (t.dropCfg d).enabled = false := by
        intro d
        unfold State.dropCfg
        rw [cfg, s.load_rejected hn]
        cases d <;> rfl
      have none_ : autos = [] :=
        ite_eq_left_iff.mpr fun _ => List.filter_eq_nil_iff.mpr fun d _ => by rw [disabled d]; exact Bool.false_ne_true
      rw [loader, cfg, clamped, s.load_rejected hn]
      exact ⟨rfl, rfl, rfl, none_⟩
    · rw [powered.drops, drops]
    · rw [powered.lens, lens]
    · rw [powered.budget, budget]
    · obtain ⟨held, room⟩ := s.announcedCli_presence hq
      rw [← announced_of hs] at held room
      rw [cli]
      cases autos.find? fun d => !(s.drops.get d).locateHold with
      | none => exact held
      | some d => exact Cli.enqueue_keeps_presence (by show (1 : Nat) < 2; decide) room held

end Sys2Proof.Machine

/-! PROOF. The view table and the site tables at every step (O59): which commands write them, the entries that a receipt
sets, and why a record that is gathered, combined or founded leaves the sites of one polarity apart. -/

namespace Sys2Proof.Machine

/-! ## The view table (02 R51, 03 R56) -/

section
variable {s t : State} {l : List Block} {ds : List Drop}

/-- What leaves the view table and the station number keeps the law of the view. -/
theorem State.ViewLaw.keep (h : s.ViewLaw) (k : s.ChangesOnly t l ds) (hl : .view ∉ l ∧ .station ∉ l) : t.ViewLaw := by
  have view : t.view = s.view := k.get .view hl.1
  have station : t.station = s.station := k.get .station hl.2
  exact ⟨view ▸ h.entries, view ▸ h.held, view ▸ h.absent, by rw [view, station]; exact h.own⟩

/-- One entry of the view changes. -/
theorem State.ViewLaw.setView (h : s.ViewLaw) {st : Station} {e : ViewEntry} (held : e.held ≤ 5000)
    (absent : e.present = false → e = absentView) (own : st.val = s.station → e.present = false) :
    (s.setView st e).ViewLaw where
  entries := List.length_set.trans h.entries
  held x hx := (List.mem_or_eq_of_mem_set hx).elim (h.held x) fun k => k ▸ held
  absent x hx := (List.mem_or_eq_of_mem_set hx).elim (h.absent x) fun k => k ▸ absent
  own x hx := by
    have hx : (s.view.set st.val e)[s.station]? = some x := hx
    by_cases hs : st.val = s.station
    · rw [hs, List.getElem?_set_self'] at hx
      obtain ⟨_, _, rfl⟩ := Option.map_eq_some_iff.mp hx
      exact own hs
    · rw [List.getElem?_set_ne hs] at hx
      exact h.own x hx

/-- A receipt from another station refreshes its entry, and the entry is present. -/
theorem State.ViewLaw.refresh (h : s.ViewLaw) {src : Station} (hf : src.val ≠ s.station) (age held : Nat) (limit : Nat)
    (hold : Bool) : (s.setView src ⟨.running age limit, min 5000 held, hold⟩).ViewLaw :=
  h.setView (Nat.min_le_left _ _) nofun fun k => absurd k hf

/-- A PRESENCE sets every field of its sender's entry (02 R50, R51; 03 R67). -/
theorem State.takePresence_eq (s : State) (src : Station) (p : PresenceFields) :
    s.takePresence src p = s.setView src ⟨.running s.now 1000000, min 5000 p.held.toNat, p.hold⟩ := by
  have view : ∀ (e : ViewEntry) (f : ViewEntry → ViewEntry),
      (s.view.set src.val e).set src.val (f ((s.view.set src.val e).getD src.val absentView)) =
        s.view.set src.val (f e) := by
    intro e f
    by_cases hi : src.val < s.view.length
    · rw [List.set_set, List.getD_eq_getElem?_getD, List.getElem?_set_self hi, Option.getD_some]
    · have out : ∀ a, s.view.set src.val a = s.view := fun a => List.set_eq_of_length_le (Nat.le_of_not_lt hi)
      rw [out, out, out]
  exact congrArg (fun v => { s with view := v }) (view _ fun e => { e with hold := p.hold })

theorem State.ViewLaw.hear (h : s.ViewLaw) (src : Station) {f : State → State}
    (hf : ∀ u : State, u.ViewLaw → src.val ≠ u.station → (f u).ViewLaw) : (s.hear src f).ViewLaw := by
  unfold State.hear
  split
  · exact h.keep s.ownNumber_frame (by decide)
  · exact hf _ (h.keep s.countHeard_frame (by decide)) ‹_›

/-- After a reset every entry is absent, whatever the number latched (02 R51). -/
theorem State.resetAll_viewLaw (s : State) (pins : Pins) : (s.resetAll pins).ViewLaw where
  entries := State.reset_viewLaw.entries
  held := State.reset_viewLaw.held
  absent := State.reset_viewLaw.absent
  own e he := by rw [List.eq_of_mem_replicate (List.mem_of_getElem? he)]; rfl

/-- Every command keeps the law of the view: by its frame, or as it resets the table or sets one entry. -/
theorem State.ViewLaw.exec (h : s.ViewLaw) (c : Instr) (he : exec c s = .next t) : t.ViewLaw := by
  cases c with
  | powerOnReset pins => cases he; exact s.resetAll_viewLaw pins
  | cellReset src target pins =>
    cases he
    refine h.hear src fun u hu _ => ?_
    split_ifs
    · exact ⟨(u.resetAll_viewLaw pins).entries, (u.resetAll_viewLaw pins).held, (u.resetAll_viewLaw pins).absent,
        (u.resetAll_viewLaw pins).own⟩
    · exact ⟨hu.entries, hu.held, hu.absent, hu.own⟩
    · exact hu
  | claimReceived src n => cases he; exact h.hear src fun u hu hf => hu.refresh hf _ _ _ _
  | releaseReceived src n =>
    cases he
    exact h.hear src fun u hu hf => (hu.refresh hf _ _ _ _).keep (State.releaseHeard_frame _) (by decide)
  | presenceReceived src p =>
    cases he
    exact h.hear src fun u hu hf => by rw [u.takePresence_eq]; exact hu.refresh hf _ _ _ _
  | viewAgeExpiry st =>
    cases he
    split
    · exact h.setView (by decide) (fun _ => rfl) fun _ => rfl
    · exact h
  | _ => exact h.keep (exec_frame _ he) (by dsimp only [touchedBy]; decide)

end

/-! ## The slots of a site table (11 R195) -/

section
variable {t u : SiteTable} {i j : Nat} {v w : Site}

theorem SiteTable.site_setSlot (hi : i < t.slots.length) (x : Option Site) (j : Nat) :
    (t.setSlot i x).site j = if j = i then x else t.site j := by
  unfold SiteTable.site SiteTable.setSlot
  dsimp only
  split
  · subst j; rw [List.getD_eq_getElem?_getD, List.getElem?_set_self hi, Option.getD_some]
  · rw [List.getD_eq_getElem?_getD, List.getD_eq_getElem?_getD, List.getElem?_set_ne (Ne.symm ‹_›)]

theorem SiteTable.setSlot_length (i : Nat) (x : Option Site) : (t.setSlot i x).slots.length = t.slots.length :=
  List.length_set

theorem SiteTable.lt_of_site (h : t.site i = some v) : i < t.slots.length := by
  by_contra hi
  unfold SiteTable.site at h
  rw [List.getD_eq_default _ _ (Nat.le_of_not_lt hi)] at h
  exact nomatch h

theorem SiteTable.mem_occupied (hl : t.slots.length = 4) {p : Nat × Site} : p ∈ t.occupied ↔ t.site p.1 = some p.2 := by
  unfold SiteTable.occupied
  rw [List.mem_filterMap]
  constructor
  · rintro ⟨i, -, h⟩
    obtain ⟨v, hv, rfl⟩ := Option.map_eq_some_iff.mp h
    exact hv
  · exact fun h => ⟨p.1, List.mem_range.mpr (hl ▸ SiteTable.lt_of_site h), by rw [h]; rfl⟩

/-- The best of a list is one of it. -/
theorem firstBest_mem (better : Site → Site → Bool) {ps : List (Nat × Site)} {p : Nat × Site}
    (h : firstBest better ps = some p) : p ∈ ps := by
  have fold : ∀ (ps : List (Nat × Site)) (p : Nat × Site),
      ps.foldl (fun a b => if better b.2 a.2 then b else a) p ∈ p :: ps := by
    intro ps
    induction ps with
    | nil => exact fun p => List.mem_cons_self
    | cons q qs ih =>
      intro p
      rw [List.foldl_cons]
      split
      · exact List.mem_cons_of_mem _ (ih q)
      · rcases List.mem_cons.mp (ih p) with h | h
        · rw [h]; exact List.mem_cons_self
        · exact List.mem_cons_of_mem _ (List.mem_cons_of_mem _ h)
  cases ps with
  | nil => exact nomatch h
  | cons q qs => cases h; exact fold qs q

theorem firstBest_eq_none {better : Site → Site → Bool} {ps : List (Nat × Site)} (h : firstBest better ps = none) :
    ps = [] := by
  cases ps with
  | nil => rfl
  | cons => exact nomatch h

/-! ## Polarity and distance -/

theorem apart_comm (a b : Nat) : apart a b = apart b a := by unfold apart; omega

theorem Site.clear.symm (h : v.clear w) : w.clear v := fun k => by rw [apart_comm]; exact h k.symm

theorem Site.near_iff {negative : Bool} {x : Nat} :
    v.near negative x = true ↔ v.kind.negative = negative ∧ apart v.center x ≤ 150 := by
  unfold Site.near
  rw [Bool.and_eq_true, beq_iff_eq, decide_eq_true_iff]
  rfl

/-- A site of no reach of a place stands clear of a site at that place. -/
theorem Site.clear_of_not_near (h : ¬v.near w.kind.negative w.center = true) : w.clear v := by
  intro k
  rw [Site.near_iff, not_and, apart_comm] at h
  exact Nat.lt_of_not_le (h k.symm)

/-- The more severe of two kinds is one of them. -/
theorem moreSevere_negative {a b : SiteKind} (h : a.negative = b.negative) :
    (moreSevere a b).negative = a.negative := by
  unfold moreSevere
  split
  · rename_i k; rcases k with rfl | rfl
    · rfl
    · exact h.symm
  · split
    · rename_i k; rcases k with rfl | rfl
      · rfl
      · exact h.symm
    · rfl

/-- A weighted mean, its remainder dropped, lies between the two places. -/
theorem weightedMean_between (a b : Nat) {m n : Nat} (h : 0 < m + n) :
    min a b ≤ (a * m + b * n) / (m + n) ∧ (a * m + b * n) / (m + n) ≤ max a b := by
  constructor
  · rw [Nat.le_div_iff_mul_le h, Nat.mul_add]
    exact Nat.add_le_add (Nat.mul_le_mul_right _ (Nat.min_le_left _ _)) (Nat.mul_le_mul_right _ (Nat.min_le_right _ _))
  · refine Nat.div_le_of_le_mul ?_
    rw [Nat.mul_comm (m + n), Nat.mul_add]
    exact Nat.add_le_add (Nat.mul_le_mul_right _ (Nat.le_max_left _ _)) (Nat.mul_le_mul_right _ (Nat.le_max_right _ _))

/-! ## What a record does to the site it meets -/

/-- A count of a site stays in its range. -/
theorem satAdd_count {n k : Nat} (h : 1 ≤ n) : 1 ≤ satAdd 65535 n k ∧ satAdd 65535 n k ≤ 65535 := by
  unfold satAdd; omega

/-- A gathered record leaves the site between its place and the record's (11 R196). -/
theorem Site.gather_between (r : SiteRecord) (v : Site) :
    min v.center r.distance ≤ (v.gather r).center ∧ (v.gather r).center ≤ max v.center r.distance := by
  have h := weightedMean_between v.center r.distance (Nat.add_pos_right v.weight Nat.one_pos)
  rwa [Nat.mul_one] at h

theorem Site.gather_negative {r : SiteRecord} (h : v.kind.negative = r.kind.negative) :
    (v.gather r).kind.negative = v.kind.negative := moreSevere_negative h

/-- Two combined sites stand between the two (11 R197). -/
theorem Site.combine_between (next : BitVec 32) (hv : 1 ≤ v.count) :
    min v.center w.center ≤ (Site.combine next v w).center ∧ (Site.combine next v w).center ≤ max v.center w.center :=
  weightedMean_between _ _ (by unfold Site.weight; omega)

theorem Site.combine_negative (next : BitVec 32) (h : v.kind.negative = w.kind.negative) :
    (Site.combine next v w).kind.negative = v.kind.negative := moreSevere_negative h

/-- A site that a record within reach has moved and that has come within reach of another one stands, combined with it,
clear of every third: the third is clear of both, and the move is no longer than the reach. -/
theorem apart_of_combined {a x u n m c : Nat} (near : apart a x ≤ 150) (moved : min a x ≤ u ∧ u ≤ max a x)
    (reached : apart n u ≤ 150) (han : 150 < apart a n) (ham : 150 < apart a m) (hnm : 150 < apart n m)
    (between : min u n ≤ c ∧ c ≤ max u n) : 150 < apart c m := by
  unfold apart at *; omega

/-! ## The law of a site table -/

theorem SiteTable.Law.of_slots (h : t.Law) (e : u.slots = t.slots) : u.Law := by
  have site : ∀ i, u.site i = t.site i := fun i => congrArg (·.getD i none) e
  exact ⟨e ▸ h.slots, fun i v hv => h.counts i v (site i ▸ hv),
    fun i j v w hij hv hw => h.apart i j v w hij (site i ▸ hv) (site j ▸ hw)⟩

/-- A table all of whose sites but one stood in a table that meets the law, that one clear of all others. -/
theorem SiteTable.Law.replace (h : t.Law) (slots : u.slots.length = 4) {c : Site} (hc : u.site i = some c)
    (count : 1 ≤ c.count ∧ c.count ≤ 65535)
    (others : ∀ j w, j ≠ i → u.site j = some w → t.site j = some w ∧ c.clear w) : u.Law where
  slots := slots
  counts j w hw := by
    by_cases hj : j = i
    · subst hj; rw [hc] at hw; cases hw; exact count
    · exact h.counts j w (others j w hj hw).1
  apart j k v w hjk hv hw := by
    by_cases hj : j = i
    · subst hj; rw [hc] at hv; cases hv; exact (others k w (Ne.symm hjk) hw).2
    · by_cases hk : k = i
      · subst hk; rw [hc] at hw; cases hw; exact (others j v hj hv).2.symm
      · exact h.apart j k v w hjk (others j v hj hv).1 (others k w hk hw).1

/-- A slot takes a site that is clear of the sites of all other slots. -/
theorem SiteTable.Law.put (h : t.Law) (hi : i < 4) {c : Site} (count : 1 ≤ c.count ∧ c.count ≤ 65535)
    (clear : ∀ j w, j ≠ i → t.site j = some w → c.clear w) : (t.setSlot i (some c)).Law := by
  have site := t.site_setSlot (h.slots ▸ hi) (some c)
  refine h.replace (SiteTable.setSlot_length i _ |>.trans h.slots) ((site i).trans (if_pos rfl)) count ?_
  intro j w hj hw
  rw [site, if_neg hj] at hw
  exact ⟨hw, clear j w hj hw⟩

/-- What a table is after two of its sites `a` and `b` have been combined: slot `i` holds the combined site `c`, and the
rest stands as it stood, but for the two slots (11 R197). -/
structure SiteTable.Combined (t u : SiteTable) (a b : Nat × Site) (i : Nat) (c : Site) : Prop where
  slots : u.slots.length = 4
  site : u.site i = some c
  count : 1 ≤ c.count ∧ c.count ≤ 65535
  polarity : c.kind.negative = a.2.kind.negative
  between : min a.2.center b.2.center ≤ c.center ∧ c.center ≤ max a.2.center b.2.center
  others : ∀ j w, j ≠ i → u.site j = some w → j ≠ a.1 ∧ j ≠ b.1 ∧ t.site j = some w

theorem SiteTable.Combined.symm {a b : Nat × Site} {c : Site} (h : t.Combined u a b i c)
    (polarity : a.2.kind.negative = b.2.kind.negative) : t.Combined u b a i c where
  slots := h.slots
  site := h.site
  count := h.count
  polarity := h.polarity.trans polarity
  between := by rw [Nat.min_comm, Nat.max_comm]; exact h.between
  others j w hj hw :=
    have ⟨ha, hb, ht⟩ := h.others j w hj hw
    ⟨hb, ha, ht⟩

/-- The combined site stands in the lower slot. -/
theorem SiteTable.combineSlots_combined (hl : t.slots.length = 4) {a b : Nat × Site} (ha : t.site a.1 = some a.2)
    (hb : t.site b.1 = some b.2) (hab : a.1 ≠ b.1) (polarity : a.2.kind.negative = b.2.kind.negative)
    (count : 1 ≤ a.2.count ∧ 1 ≤ b.2.count) : ∃ i c, t.Combined (t.combineSlots a b).1 a b i c := by
  have into : ∀ low high : Nat × Site, t.site low.1 = some low.2 → t.site high.1 = some high.2 → low.1 ≠ high.1 →
      low.2.kind.negative = high.2.kind.negative → 1 ≤ low.2.count →
      t.Combined ((t.setSlot low.1 (some (Site.combine t.nextSeq low.2 high.2))).setSlot high.1 none) low high low.1
        (Site.combine t.nextSeq low.2 high.2) := by
    intro low high hlow hhigh hne hp hc
    have site : ∀ j, ((t.setSlot low.1 (some (Site.combine t.nextSeq low.2 high.2))).setSlot high.1 none).site j =
        if j = high.1 then none else if j = low.1 then some (Site.combine t.nextSeq low.2 high.2) else t.site j := by
      intro j
      rw [SiteTable.site_setSlot (by rw [SiteTable.setSlot_length]; exact SiteTable.lt_of_site hhigh),
        SiteTable.site_setSlot (SiteTable.lt_of_site hlow)]
    refine ⟨?_, ?_, satAdd_count hc, Site.combine_negative _ hp, Site.combine_between _ hc, fun j w hj hw => ?_⟩
    · rw [SiteTable.setSlot_length, SiteTable.setSlot_length]; exact hl
    · rw [site, if_neg hne, if_pos rfl]
    · rw [site, if_neg hj] at hw
      by_cases hh : j = high.1
      · rw [if_pos hh] at hw; exact nomatch hw
      · rw [if_neg hh] at hw; exact ⟨hj, hh, hw⟩
  unfold SiteTable.combineSlots
  by_cases h : a.1 < b.1
  · simp only [if_pos h]
    exact ⟨_, _, into a b ha hb hab polarity count.1⟩
  · simp only [if_neg h]
    exact ⟨_, _, (into b a hb ha (Ne.symm hab) polarity.symm count.2).symm polarity.symm⟩

/-! ## A record enters -/

/-- The candidate of a record is a site of its polarity within its reach. -/
theorem SiteTable.candidate_some (hl : t.slots.length = 4) {negative : Bool} {x : Nat} {p : Nat × Site}
    (h : t.candidate negative x = some p) :
    t.site p.1 = some p.2 ∧ p.2.kind.negative = negative ∧ Machine.apart p.2.center x ≤ 150 := by
  obtain ⟨hm, hn⟩ := List.mem_filter.mp (firstBest_mem _ h)
  exact ⟨(SiteTable.mem_occupied hl).mp hm, Site.near_iff.mp hn⟩

/-- Without a candidate every site stands clear of the record. -/
theorem SiteTable.candidate_none (hl : t.slots.length = 4) {r : SiteRecord}
    (h : t.candidate r.kind.negative r.distance = none) (hv : t.site i = some v) : r.found.clear v := by
  refine Site.clear_of_not_near fun hn => ?_
  have hm : (i, v) ∈ t.occupied.filter fun p => p.2.near r.kind.negative r.distance :=
    List.mem_filter.mpr ⟨(SiteTable.mem_occupied hl).mpr hv, hn⟩
  rw [firstBest_eq_none h] at hm
  exact nomatch hm

/-- A neighbour of an updated site is another site of its polarity within its reach. -/
theorem SiteTable.neighbour_some (hl : t.slots.length = 4) {p : Nat × Site} (h : t.neighbour i v = some p) :
    i ≠ p.1 ∧ t.site p.1 = some p.2 ∧ p.2.kind.negative = v.kind.negative ∧ Machine.apart p.2.center v.center ≤ 150 := by
  have hp := List.find?_some h
  rw [Bool.and_eq_true, bne_iff_ne] at hp
  exact ⟨Ne.symm hp.1, (SiteTable.mem_occupied hl).mp (List.mem_of_find?_eq_some h), Site.near_iff.mp hp.2⟩

theorem SiteTable.neighbour_none (hl : t.slots.length = 4) (h : t.neighbour i v = none) (hj : j ≠ i)
    (hw : t.site j = some w) : v.clear w := by
  refine Site.clear_of_not_near fun hn => List.find?_eq_none.mp h (j, w) ((SiteTable.mem_occupied hl).mpr hw) ?_
  rw [Bool.and_eq_true, bne_iff_ne]
  exact ⟨hj, hn⟩

/-- A record gathered into its candidate: with no neighbour the moved site is clear of all others, and combined with
one it is too (11 R196, R197). -/
theorem SiteTable.Law.gatherInto (h : t.Law) {r : SiteRecord} (hv : t.site i = some v)
    (polarity : v.kind.negative = r.kind.negative) (near : Machine.apart v.center r.distance ≤ 150) :
    (t.gatherInto r i v).1.Law := by
  have hi : i < t.slots.length := SiteTable.lt_of_site hv
  have site := t.site_setSlot hi (some (v.gather r))
  have hl : (t.setSlot i (some (v.gather r))).slots.length = 4 := (SiteTable.setSlot_length _ _).trans h.slots
  have count : 1 ≤ (v.gather r).count ∧ (v.gather r).count ≤ 65535 := satAdd_count (h.counts i v hv).1
  have negative := Site.gather_negative polarity
  unfold SiteTable.gatherInto
  dsimp only
  split
  · rename_i hn
    refine h.put (h.slots ▸ hi) count fun j w hj hw => ?_
    exact SiteTable.neighbour_none hl hn hj (by rw [site, if_neg hj]; exact hw)
  · rename_i n hn
    obtain ⟨hne, hs, hp, hr⟩ := SiteTable.neighbour_some hl hn
    have hs' : t.site n.1 = some n.2 := by rwa [site, if_neg (Ne.symm hne)] at hs
    have van := h.apart i n.1 v n.2 hne hv hs' (negative.symm.trans hp.symm)
    obtain ⟨k, c, combined⟩ := SiteTable.combineSlots_combined hl (a := (i, v.gather r)) (b := n)
      (by rw [site, if_pos rfl]) hs hne hp.symm ⟨count.1, (h.counts _ _ hs').1⟩
    refine h.replace combined.slots combined.site combined.count fun j w hj hw => ?_
    obtain ⟨hji, hjn, hw⟩ := combined.others j w hj hw
    rw [site, if_neg hji] at hw
    refine ⟨hw, fun hc => ?_⟩
    have hcv : v.kind.negative = w.kind.negative := negative.symm.trans (combined.polarity.symm.trans hc)
    exact apart_of_combined near (Site.gather_between r v) hr van (h.apart i j v w (Ne.symm hji) hv hw hcv)
      (h.apart n.1 j n.2 w (Ne.symm hjn) hs' hw (hp.trans (negative.trans hcv))) combined.between

theorem SiteTable.evictSlot_lt (hl : t.slots.length = 4) : t.evictSlot < 4 := by
  unfold SiteTable.evictSlot
  split
  · rename_i p h
    exact hl ▸ SiteTable.lt_of_site ((SiteTable.mem_occupied hl).mp (firstBest_mem _ h))
  · decide

/-- A record clear of every site founds one, in an empty slot or in an evicted one (11 R198). -/
theorem SiteTable.Law.foundSite (h : t.Law) {r : SiteRecord} (clear : ∀ j w, t.site j = some w → r.found.clear w) :
    (t.foundSite r).1.Law := by
  have put : ∀ i, i < 4 → (t.setSlot i (some r.found)).Law := fun i hi =>
    h.put hi ⟨Nat.le_refl 1, (by decide : (1 : Nat) ≤ 65535)⟩ fun j w _ hw => clear j w hw
  unfold SiteTable.foundSite
  split
  · rename_i i hi
    exact put i (List.mem_range.mp (List.mem_of_find?_eq_some hi))
  · exact (put _ (SiteTable.evictSlot_lt h.slots)).of_slots rfl

theorem SiteTable.Law.enter (h : t.Law) (r : SiteRecord) : (t.enter r).1.Law := by
  unfold SiteTable.enter
  split
  · rename_i p hp
    obtain ⟨hs, polarity, near⟩ := SiteTable.candidate_some h.slots hp
    exact h.gatherInto hs polarity near
  · rename_i hn
    exact h.foundSite fun j w hw => SiteTable.candidate_none h.slots hn hw

theorem SiteTable.Law.makeRecord (h : t.Law) (flash crosstalk : Bool) (trigger : Option Half) (r : Reflection) :
    (t.makeRecord flash crosstalk trigger r).1.Law := by
  have next : t.takeSequence.Law := h.of_slots rfl
  unfold SiteTable.makeRecord
  split
  · split
    · exact next
    · exact next.enter _
  · exact next

/-- A table without sites keeps the law. -/
theorem SiteTable.law_of_empty (h : t.slots = List.replicate 4 none) : t.Law := by
  have site : ∀ i, t.site i = none := fun i => (congrArg (·.getD i none) h).trans (resetSites_site i)
  refine ⟨h ▸ List.length_replicate, fun i v hv => ?_, fun i j v w _ hv => ?_⟩ <;>
    exact nomatch (site i).symm.trans hv

end

/-! ## Commands and the site tables -/

section
variable {s t : State} {l : List Block} {ds : List Drop}

theorem State.SiteLaw.keep (h : s.SiteLaw) (k : s.ChangesOnly t l ds) (hl : .sites ∉ l) : t.SiteLaw := by
  have sites : t.sites = s.sites := k.get .sites hl
  exact fun d => sites ▸ h d

theorem State.SiteLaw.modSites (h : s.SiteLaw) (d : Drop) {f : SiteTable → SiteTable} (hf : (f (s.sites.get d)).Law) :
    (s.modSites d f).SiteLaw := by
  intro e
  rw [State.modSites_sites, PerDrop.get_set]
  split
  · exact hf
  · exact h e

theorem State.SiteLaw.hear (h : s.SiteLaw) (src : Station) {f : State → State}
    (hf : ∀ u : State, u.SiteLaw → (f u).SiteLaw) : (s.hear src f).SiteLaw := by
  unfold State.hear
  split
  · exact h.keep s.ownNumber_frame (by decide)
  · exact hf _ (h.keep s.countHeard_frame (by decide))

/-- The record of a capture, with what it reports (11 R194). -/
theorem State.SiteLaw.makeRecord (h : s.SiteLaw) (c : Capture) (r : Reflection) : (s.makeRecord c r).SiteLaw := by
  let m := (s.sites.get c.drop).makeRecord (decide (c.type = .flash)) c.crosstalk c.trigger r
  have entered : ((s.modSites c.drop fun _ => m.1).reportSites c.drop m.2).SiteLaw :=
    (h.modSites c.drop ((h c.drop).makeRecord _ _ _ r)).keep (State.reportSites_frame _ _ _) (by decide)
  unfold State.makeRecord
  dsimp only
  split
  · exact entered.keep (State.breakResult_frame _ _ _ _) (by decide)
  · exact entered

theorem State.SiteLaw.shotDone (h : s.SiteLaw) (c : Capture) : (s.shotDone c).SiteLaw := by
  have count : ∀ f, (s.modLocator f).SiteLaw := fun f => h.keep (s.modLocator_frame f) (by decide)
  unfold State.shotDone State.finishCapture
  dsimp only
  split_ifs
  · exact h.keep (s.endCapture_frame _ _ _) (by decide)
  · split
    · exact (count _).keep (State.endCapture_frame _ _ _ _) (by decide)
    · exact ((count _).makeRecord _ _).keep (State.endCapture_frame _ _ _ _) (by decide)
  · exact count _

/-- CLEAR_SITES leaves its drop's table empty (11 R201). -/
theorem State.SiteLaw.clearSites (h : s.SiteLaw) (d : Drop) : (s.modSites d fun _ => (s.sites.get d).clear.1).SiteLaw :=
  h.modSites d (SiteTable.law_of_empty rfl)

/-- Every command keeps the law of the site tables: by its frame, or as it resets the tables, makes a record or clears
one. -/
theorem State.SiteLaw.exec (h : s.SiteLaw) (c : Instr) (he : exec c s = .next t) : t.SiteLaw := by
  cases c with
  | powerOnReset pins => cases he; exact State.reset_siteLaw
  | cellReset src target pins =>
    cases he
    refine h.hear src fun u hu => ?_
    split_ifs <;> exact hu
  | shotComplete samples =>
    cases he
    split
    · split_ifs
      · exact h.shotDone _
      · exact h
    · exact h
  | clearSites r =>
    cases he
    have answered : ∀ {u : State}, u.SiteLaw → ∀ k r c v, (u.answer k r c v).SiteLaw := fun hu k r c v =>
      hu.keep (State.answer_frame _ k r c v) (by decide)
    refine h.hear r.src fun u hu => ?_
    split_ifs
    · exact hu
    · split
      · exact answered ((hu.clearSites _).keep (State.reportSites_frame _ _ _) (by decide)) _ _ _ _
      · exact answered hu _ _ _ _
    · exact answered hu _ _ _ _
  | _ => exact h.keep (exec_frame _ he) (by dsimp only [touchedBy]; decide)

end

/-- Settles O59: each command keeps both laws, by its frame where it writes neither the view nor a site table. -/
theorem everyStepKeepsViewsAndSites : Obligations.EveryStepKeepsViewsAndSites := by
  intro s t hv hs h
  unfold step at h
  split at h
  · cases h
    exact ⟨⟨hv.entries, hv.held, hv.absent, hv.own⟩, hs⟩
  · have view : s.withoutFront.ViewLaw := ⟨hv.entries, hv.held, hv.absent, hv.own⟩
    have sites : s.withoutFront.SiteLaw := hs
    exact ⟨view.exec _ h, sites.exec _ h⟩

end Sys2Proof.Machine

/-! PROOF. The transmit queue and the line (O13, O14, O17): which note the start of an attempt finds, what an attempt's end
without an echo leaves of it, and which notes join. -/

namespace Sys2Proof.Machine

/-! ## The first and the last of a list that a test picks -/

section
variable {α : Type} {p : α → Bool} {a : α} {pre post : List α}

theorem modifyFirst_append_cons (f : α → α) (ha : p a = true) (hp : ∀ x ∈ pre, p x = false) :
    modifyFirst p f (pre ++ a :: post) = pre ++ f a :: post := by
  induction pre with
  | nil => exact if_pos ha
  | cons x xs ih =>
    rw [List.cons_append, modifyFirst, if_neg (by rw [hp x List.mem_cons_self]; exact Bool.false_ne_true),
      ih fun y hy => hp y (List.mem_cons_of_mem _ hy)]
    rfl

theorem eraseP_append_cons (ha : p a = true) (hp : ∀ x ∈ pre, p x = false) :
    (pre ++ a :: post).eraseP p = pre ++ post := by
  rw [List.eraseP_append_right _ fun x hx => by rw [hp x hx]; exact Bool.false_ne_true, List.eraseP_cons_of_pos ha]

theorem eraseLast_append_cons (ha : p a = true) (hp : ∀ x ∈ post, p x = false) :
    eraseLast p (pre ++ a :: post) = pre ++ post := by
  unfold eraseLast
  rw [List.reverse_append, List.reverse_cons, List.append_assoc, List.singleton_append,
    eraseP_append_cons ha fun x hx => hp x (List.mem_reverse.mp hx), List.reverse_append, List.reverse_reverse,
    List.reverse_reverse]

end

/-! ## The head of the queue (02 R40) -/

theorem NoteBody.cls_le (b : NoteBody) : b.cls ≤ 3 := by
  unfold NoteBody.cls
  cases b.kind <;> decide

/-- A queue of notes has a lowest class, and a note of it. -/
theorem lowestClass_spec {q : List QNote} (h : q ≠ []) :
    (∃ n ∈ q, n.body.cls = lowestClass q) ∧ ∀ n ∈ q, lowestClass q ≤ n.body.cls := by
  unfold lowestClass
  cases hm : (q.map fun n => n.body.cls).min? with
  | none => exact absurd (List.map_eq_nil_iff.mp (List.min?_eq_none_iff.mp hm)) h
  | some c =>
    obtain ⟨n, hn, rfl⟩ := List.mem_map.mp (List.min?_mem hm)
    rw [List.foldl_min, hm, Option.getD_some, Nat.min_eq_right n.body.cls_le]
    exact ⟨⟨n, hn, rfl⟩, fun m hk => (List.le_min?_iff hm).mp (Nat.le_refl _) _ (List.mem_map_of_mem hk)⟩

/-- The head of a queue: the first joined of the lowest class. -/
theorem exists_head {q : List QNote} (h : q ≠ []) :
    ∃ pre n post, q = pre ++ n :: post ∧ n.body.cls = lowestClass q ∧ ∀ m ∈ pre, (m.body.cls == lowestClass q) = false := by
  obtain ⟨n, hn, hc⟩ := (lowestClass_spec h).1
  cases hf : q.find? fun m => m.body.cls == lowestClass q with
  | none => exact absurd (beq_iff_eq.mpr hc) (List.find?_eq_none.mp hf n hn)
  | some m =>
    obtain ⟨hm, pre, post, hq, hp⟩ := List.find?_eq_some_iff_append.mp hf
    exact ⟨pre, m, post, hq, beq_iff_eq.mp hm, fun x hx => Bool.not_eq_true' _ ▸ hp x hx⟩

section
variable {s : State} {pre post : List QNote} {n : QNote}

/-- The start of an attempt on the queue's head, with none on the line (02 R33, R42). -/
theorem exec_noteStart (may : s.mayStart = true) (hq : s.cli.queue = pre ++ n :: post)
    (lowest : n.body.cls = lowestClass s.cli.queue) (before : ∀ m ∈ pre, (m.body.cls == lowestClass s.cli.queue) = false)
    (idle : s.onLine = none) :
    exec .noteStart s = .next
      { s with
        cli :=
          { s.cli with
            queue := pre ++ { n with body := s.fillNote n.body, onLine := true } :: post
            drive := (frameOf s.station (s.fillNote n.body)).lineBits
            waitGaps := 1 } } := by
  have silent : ∀ m ∈ pre, m.onLine = false := fun m hm =>
    Bool.eq_false_iff.mpr (List.find?_eq_none.mp idle m (hq ▸ List.mem_append_left _ hm))
  have started : s.startHead s.cli.queue = pre ++ { n with body := s.fillNote n.body, onLine := true } :: post := by
    unfold State.startHead
    rw [hq] at before lowest ⊢
    exact modifyFirst_append_cons _ (beq_iff_eq.mpr lowest) before
  have driven : (s.modCli fun c => { c with queue := s.startHead c.queue }).onLine =
      some { n with body := s.fillNote n.body, onLine := true } := by
    refine (congrArg (List.find? (·.onLine)) started).trans (List.find?_eq_some_iff_append.mpr ⟨rfl, pre, post, rfl, ?_⟩)
    exact fun m hm => by rw [silent m hm]; rfl
  refine congrArg Host.Outcome.next ((if_pos may).trans ?_)
  unfold State.driveNote
  rw [driven]
  unfold State.modCli
  dsimp only
  rw [started]

end

/-- Settles O13: the head is the first joined of the lowest class, and it is filled with the state's own fields. -/
theorem noteStartSendsTheHead : Obligations.NoteStartSendsTheHead := by
  intro s hs hw hl hq ho presence filled
  obtain ⟨pre, n, post, split, lowest, before⟩ := exists_head hq
  have least : ∀ m ∈ s.cli.queue, n.body.cls ≤ m.body.cls := lowest ▸ (lowestClass_spec hq).2
  have may : s.mayStart = true := by
    unfold State.mayStart
    simp [hs, hw, hl, hq, ho]
  have origin : s.isOrigin = presence.origin := by
    unfold State.isOrigin
    cases hc : s.cfg <;> simp [presence, hc, hs]
  have fill : ∀ b, s.fillNote b = filled b := by
    intro b
    cases b with
    | presence f =>
      show NoteBody.presence (some s.presenceFields) = .presence (some presence)
      unfold State.presenceFields
      rw [origin]
    | _ => rfl
  refine ⟨pre, n, post, split, fun m hm => ?_, fun m hm => ?_, ?_⟩
  · exact Nat.lt_of_le_of_ne (least m (split ▸ List.mem_append_left _ hm)) fun h => by
      have := before m hm
      rw [← lowest, ← h, beq_self_eq_true] at this
      exact nomatch this
  · exact least m (split ▸ List.mem_append_right _ (List.mem_cons_of_mem _ hm))
  · rw [exec_noteStart may split lowest before ho, fill]

/-! ## The end of an attempt without an echo (02 R33, R38, R39) -/

section
variable {s : State} {pre post : List QNote} {n : QNote}

/-- The note on the line, by its place in the queue. -/
theorem State.onLine_of (hq : s.cli.queue = pre ++ n :: post) (hn : n.onLine = true) (hp : ∀ m ∈ pre, m.onLine = false) :
    s.onLine = some n :=
  List.find?_eq_some_iff_append.mpr ⟨hn, pre, post, hq, fun m hm => by rw [hp m hm]; rfl⟩

/-- An attempt that loses arbitration leaves the note in its place, uncounted (02 R33). -/
theorem State.loseArbitration_eq (hq : s.cli.queue = pre ++ n :: post) (hn : n.onLine = true)
    (hp : ∀ m ∈ pre, m.onLine = false) :
    s.loseArbitration =
      { s with
        cli :=
          { s.cli with
            queue := pre ++ { n with onLine := false } :: post
            drive := []
            counters := { s.cli.counters with arbitrationLosses := bump s.cli.counters.arbitrationLosses } } } := by
  have kept := modifyFirst_append_cons (post := post) (fun n : QNote => { n with onLine := false }) hn hp
  unfold State.loseArbitration State.modCounters State.modCli Cli.keepOnLine
  dsimp only
  rw [hq, kept]

/-- A send error below the eighth leaves the note in its place with its class (02 R38, R39). -/
theorem State.keepNote_abortNote (hq : s.cli.queue = pre ++ n :: post) (hn : n.onLine = true)
    (hp : ∀ m ∈ pre, m.onLine = false) (l : List ErrorClass) :
    s.abortNote.keepNote l =
      { s with
        cli :=
          { s.cli with
            queue := pre ++ { n with onLine := false, failures := l } :: post
            drive := abortRun
            waitGaps := s.station + 1
            counters := { s.cli.counters with sendErrors := bump s.cli.counters.sendErrors } } } := by
  have kept := modifyFirst_append_cons (post := post) (fun n : QNote => { n with onLine := false, failures := l }) hn hp
  unfold State.abortNote State.keepNote State.modCounters State.modCli
  dsimp only
  rw [hq, kept]

/-- The eighth send error drops the note (02 R39, log 30). -/
theorem State.dropNote_abortNote (hq : s.cli.queue = pre ++ n :: post) (hn : n.onLine = true)
    (hp : ∀ m ∈ pre, m.onLine = false) (l : List ErrorClass) :
    s.abortNote.dropNote l =
      { s with
        cli :=
          { s.cli with
            queue := pre ++ post
            drive := abortRun
            waitGaps := 1
            counters :=
              { s.cli.counters with
                sendErrors := bump s.cli.counters.sendErrors
                notesDropped := bump s.cli.counters.notesDropped
                duplicateSuspected :=
                  if ∀ k ∈ l, k = .contention then bump s.cli.counters.duplicateSuspected
                  else s.cli.counters.duplicateSuspected } } } := by
  have all : (l.all (· == .contention) = true) = ∀ k ∈ l, k = .contention := by simp
  unfold State.abortNote State.dropNote State.modCounters State.modCli
  dsimp only
  rw [hq, eraseP_append_cons hn hp]
  simp only [all]

theorem isArbitrationLoss_iff (e : BitError) :
    isArbitrationLoss e = true ↔ e.field = .arbitration ∧ e.sentDominant = false := by
  unfold isArbitrationLoss
  rw [Bool.and_eq_true, beq_iff_eq, Bool.not_eq_true']

/-- CONTENTION is a recessive bit read dominant in the kind, length or payload field, with no abort run heard before
(02 R38). -/
theorem errorClass_eq (e : BitError) :
    errorClass e =
      if e.sentDominant = false ∧ e.heardAbort = false ∧ (e.field = .kind ∨ e.field = .length ∨ e.field = .payload) then
        .contention
      else .corrupt := by
  unfold errorClass
  refine if_congr ?_ rfl rfl
  simp only [Bool.and_eq_true, Bool.or_eq_true, Bool.not_eq_true', beq_iff_eq, and_assoc, or_assoc]

end

/-- Settles O14: the attempt's end by its three kinds, each with the equation of what it leaves. -/
theorem failedAttemptsKeepOrDropTheNote : Obligations.FailedAttemptsKeepOrDropTheNote := by
  intro s pre post n e hq hn hp c isLoss kind lost
  have line := State.onLine_of hq hn hp
  have loss : s.loseArbitration = lost := State.loseArbitration_eq hq hn hp
  have length : (n.failures ++ [kind]).length < Config.maxAttempts ↔ n.failures.length < 7 := by
    rw [List.length_append]; exact Nat.succ_lt_succ_iff
  have run : exec (.sendError e) s = .next
      (if isArbitrationLoss e = true then s.loseArbitration
      else if (n.failures ++ [errorClass e]).length < Config.maxAttempts then
        s.abortNote.keepNote (n.failures ++ [errorClass e])
      else (s.abortNote.dropNote (n.failures ++ [errorClass e])).tellDropped n.body) := by
    show Host.Outcome.next (match s.onLine with | none => s | some n => _) = _
    rw [line]
  refine ⟨congrArg Host.Outcome.next ((if_pos (by rw [line]; rfl)).trans loss), run.trans ?_⟩
  rw [show errorClass e = kind from errorClass_eq e, loss]
  by_cases hl : isLoss
  · rw [if_pos hl, if_pos ((isArbitrationLoss_iff e).mpr hl)]
  rw [if_neg hl, if_neg (mt (isArbitrationLoss_iff e).mp hl)]
  by_cases hf : n.failures.length < 7
  · rw [if_pos hf, if_pos (length.mpr hf), State.keepNote_abortNote hq hn hp]
  · rw [if_neg hf, if_neg (mt length.mp hf), State.dropNote_abortNote hq hn hp]

/-! ## Notes that join (02 R41, R44) -/

section
variable {c : Cli} {b : NoteBody}

theorem QNote.waits_iff {m : QNote} {k : Nat} : m.waits k = true ↔ m.body.cls = k ∧ m.onLine = false := by
  unfold QNote.waits
  rw [Bool.and_eq_true, beq_iff_eq, Bool.not_eq_true']

/-- A note of a class whose notes are all on the line, where they are of that class at all, does not wait. -/
theorem QNote.not_waits {m : QNote} {k : Nat} (h : m.body.cls = k → m.onLine = true) : m.waits k = false :=
  Bool.eq_false_iff.mpr fun hw =>
    have ⟨hc, ho⟩ := QNote.waits_iff.mp hw
    absurd ((h hc).symm.trans ho) (by decide)

theorem Cli.enqueue_classThree (h : b.cls = 3) :
    c.enqueue b = if c.queue.length < 8 then c.join b else c.refuseClassThree := if_pos h

theorem Cli.enqueue_classTwo (h : b.cls = 2) :
    c.enqueue b = if c.queue.length < 12 then c.join b else c.refuseAnswer :=
  (if_neg (by omega)).trans (if_pos h)

theorem Cli.enqueue_urgent (h : b.cls < 2) :
    c.enqueue b = if c.queue.length < 12 then c.join b else c.makeRoom.join b :=
  (if_neg (by omega)).trans (if_neg (by omega))

variable {pre post : List QNote} {m : QNote}

/-- The most recently joined class-3 note that waits leaves a full queue. -/
theorem Cli.makeRoom_classThree (hq : c.queue = pre ++ m :: post) (hm : m.waits 3 = true)
    (hp : ∀ x ∈ post, x.waits 3 = false) : c.makeRoom = { c.refuseClassThree with queue := pre ++ post } := by
  have held : c.queue.any (·.waits 3) = true := List.any_eq_true.mpr ⟨m, by rw [hq]; simp, hm⟩
  unfold Cli.makeRoom
  rw [if_pos held, hq, eraseLast_append_cons (p := fun x : QNote => x.waits 3) hm hp]

/-- Where no class-3 note waits, the most recently joined class-2 note that waits leaves. -/
theorem Cli.makeRoom_classTwo (hq : c.queue = pre ++ m :: post) (h3 : ∀ x ∈ c.queue, x.waits 3 = false)
    (hm : m.waits 2 = true) (hp : ∀ x ∈ post, x.waits 2 = false) :
    c.makeRoom = { c.refuseAnswer with queue := pre ++ post } := by
  have none3 : ¬c.queue.any (·.waits 3) = true := fun h =>
    have ⟨x, hx, hw⟩ := List.any_eq_true.mp h
    absurd (hw.symm.trans (h3 x hx)) (by decide)
  have held : c.queue.any (·.waits 2) = true := List.any_eq_true.mpr ⟨m, by rw [hq]; simp, hm⟩
  unfold Cli.makeRoom
  rw [if_neg none3, if_pos held, hq, eraseLast_append_cons (p := fun x : QNote => x.waits 2) hm hp]

end

/-- Settles O17: the check of each class, and the note that leaves a full queue for one of class 0 or 1. -/
theorem queueAdmitsByClass : Obligations.QueueAdmitsByClass := by
  refine ⟨fun s b => if_congr beq_iff_eq rfl rfl, ?_⟩
  intro c b n k joined
  refine ⟨Cli.enqueue_classThree, Cli.enqueue_classTwo, fun hb hn => (Cli.enqueue_urgent hb).trans (if_pos hn), ?_⟩
  intro hb hn pre m post hq hm
  have full : c.enqueue b = c.makeRoom.join b := (Cli.enqueue_urgent hb).trans (if_neg (Nat.not_lt.mpr hn))
  rw [full]
  constructor
  · intro hc after
    rw [Cli.makeRoom_classThree hq (QNote.waits_iff.mpr ⟨hc, hm⟩) fun x hx => QNote.not_waits (after x hx)]
    rfl
  · intro hc none3 after
    rw [Cli.makeRoom_classTwo hq (fun x hx => QNote.not_waits (none3 x hx)) (QNote.waits_iff.mpr ⟨hc, hm⟩)
      fun x hx => QNote.not_waits (after x hx)]
    rfl

end Sys2Proof.Machine

/-! PROOF. Notes that reach no block, PRESENCE and the claims of other stations (O15, O16, O18). -/

namespace Sys2Proof.Machine

section
variable {s : State}

/-- The notes of classes 2 and 3 that a hub sends echo to no block (02 R36). -/
theorem NoteBody.echoesToNone_of_cls {b : NoteBody} (h : b.cls = 2 ∨ b.cls = 3) : b.echoesToNone = true := by
  cases b with
  | answer | presence | event => rfl
  | _ => exact absurd h (by dsimp only [NoteBody.cls, NoteBody.kind, NoteKind.cls]; decide)

/-- An echo takes the note on the line out of the queue (02 R35). -/
theorem State.echoed_eq {pre post : List QNote} {n : QNote} (hq : s.cli.queue = pre ++ n :: post) (hn : n.onLine = true)
    (hp : ∀ m ∈ pre, m.onLine = false) :
    s.echoed =
      { s with
        cli :=
          { s.cli with
            queue := pre ++ post
            drive := []
            counters := { s.cli.counters with notesSent := bumpLong s.cli.counters.notesSent } } } := by
  unfold State.echoed State.modCounters State.modCli Cli.endOnLine
  dsimp only
  rw [hq, eraseP_append_cons hn hp]

/-- An announcement at a station that is not stray changes the Cell Line Interface alone (02 R49). -/
theorem State.announce_eq (h : s.stray = false) : s.announce = { s with cli := s.announcedCli } := by
  rw [← State.announce_cli h]
  unfold State.announce State.startPresenceTimer State.queuePresence
  rw [State.queueNote_eq]
  split <;> split <;> rfl

end

/-- Settles O15: an echo that no block awaits is `State.echoed`; each receipt changes one counter or two. -/
theorem notesForNoBlockOnlyCount : Obligations.NotesForNoBlockOnlyCount := by
  intro s c counted
  refine ⟨fun pre post n hq hn hp hc => ?_, fun f => by cases f <;> rfl, fun src hf => ?_, rfl⟩
  · have echo : exec .noteEcho s = .next (match s.onLine with
        | some n => if n.body.echoesToNone then s.echoed else s
        | none => s) := rfl
    rw [echo, State.onLine_of hq hn hp]
    exact congrArg Host.Outcome.next ((if_pos (NoteBody.echoesToNone_of_cls hc)).trans (State.echoed_eq hq hn hp))
  · have heard : exec (.noteHeard src) s = .next s.countHeard :=
      congrArg Host.Outcome.next (State.hear_foreign src id hf)
    exact ⟨heard, heard⟩

/-- Settles O16: the entry that `State.takePresence` sets, the absent entry of an ended age, and `State.announce`. -/
theorem presenceRefreshesTheView : Obligations.PresenceRefreshesTheView := by
  refine ⟨fun src p s hf => ?_, fun st s hp => congrArg Host.Outcome.next (if_pos hp), ?_⟩
  · exact congrArg Host.Outcome.next ((State.hear_foreign src _ hf).trans (State.takePresence_eq _ src p))
  · intro s hs ht queued
    exact congrArg Host.Outcome.next ((if_pos ht).trans (State.announce_eq hs))

/-- Settles O18: the claim test on the view as it stood decides what the refreshed entry holds. -/
theorem claimsOfOthersSetTheView : Obligations.ClaimsOfOthersSetTheView := by
  intro src n s hf amount total prior others granted
  have prior_eq : total - amount = prior := by
    show _ = if total < amount then 0 else total - amount
    split <;> omega
  have test : s.countHeard.claimGranted src.val amount total = true ↔ granted := by
    unfold State.claimGranted State.othersHeld
    rw [State.countHeard_cfg, State.countHeard_view, State.countHeard_budget, State.countHeard_station, if_neg hf, prior_eq]
    show _ ↔ match s.cfg with | none => True | some c => amount = 0 ∨ others + prior + amount ≤ c.station.cellBudget
    cases s.cfg with
    | none => exact iff_of_true rfl trivial
    | some c => simp only [Bool.or_eq_true, decide_eq_true_iff]; rfl
  have held : s.countHeard.heldFromClaim src n =
      if s.countHeard.claimGranted src.val amount total = true then total else total - amount := rfl
  refine ⟨min 5000 (s.countHeard.heldFromClaim src n), fun hg => ?_, fun hg => ?_, ?_⟩
  · rw [held, if_pos (test.mpr hg)]
  · rw [held, if_neg (mt test.mp hg), prior_eq]
  · exact congrArg Host.Outcome.next (State.hear_foreign src _ hf)

end Sys2Proof.Machine

/-! PROOF. A frame read back from its line bits (O60): numbers and bytes from their bits, the removal of what was inserted,
and the receiver's checks on the frame that was sent (02 R31, R32, R34). -/

namespace Sys2Proof.Machine

/-! ## Numbers and bytes from their bits -/

theorem bitsOf_length (n v : Nat) : (bitsOf n v).length = n := by
  induction n with
  | zero => rfl
  | succ n ih => rw [bitsOf, List.length_cons, ih]

/-- Bits read behind a number spell it shifted, with the lower bits of the number that they were written from. -/
theorem foldl_bitsOf (n v a : Nat) : (bitsOf n v).foldl (fun x b => 2 * x + b.toNat) a = 2 ^ n * a + v % 2 ^ n := by
  induction n generalizing a with
  | zero => simp [bitsOf, Nat.mod_one]
  | succ n ih =>
    rw [bitsOf, List.foldl_cons, ih, Nat.mod_pow_succ, Nat.toNat_testBit, Nat.pow_succ]
    ring

theorem natOfBits_bitsOf {n v : Nat} (h : v < 2 ^ n) : natOfBits (bitsOf n v) = v := by
  unfold natOfBits
  rw [foldl_bitsOf, Nat.mul_zero, Nat.zero_add, Nat.mod_eq_of_lt h]

theorem bitsOfBytes_length (bs : List Byte) : (bitsOfBytes bs).length = 8 * bs.length := by
  unfold bitsOfBytes
  rw [List.length_flatMap, List.map_congr_left fun b _ => bitsOf_length 8 b.toNat, List.map_const', List.sum_replicate,
    smul_eq_mul, Nat.mul_comm]

theorem bytesOfBits_bitsOfBytes (bs : List Byte) (rest : List Bool) :
    bytesOfBits bs.length (bitsOfBytes bs ++ rest) = bs := by
  induction bs with
  | nil => rfl
  | cons b bs ih =>
    have split : bitsOfBytes (b :: bs) ++ rest = bitsOf 8 b.toNat ++ (bitsOfBytes bs ++ rest) := List.append_assoc _ _ _
    rw [split, List.length_cons, bytesOfBits, List.take_left' (bitsOf_length 8 _), List.drop_left' (bitsOf_length 8 _), ih,
      natOfBits_bitsOf b.isLt, BitVec.ofNat_toNat, BitVec.setWidth_eq]

/-! ## Inserted bits (02 R31) -/

section
variable {n run r : Nat} {level l b : Bool} {bs rest tail : List Bool}

theorem removeInserted_plain (h : run ≠ 5)
    (k : removeInserted n b (if b = level then run + 1 else 1) rest = .ok (bs, l, r, tail)) :
    removeInserted (n + 1) level run (b :: rest) = .ok (b :: bs, l, r, tail) := by
  unfold removeInserted
  rw [if_neg h, k]

/-- Behind a run of five the bit of the other level is an inserted one. -/
theorem removeInserted_inserted (h : run = 5)
    (k : removeInserted n b (if b = (!level) then 2 else 1) rest = .ok (bs, l, r, tail)) :
    removeInserted (n + 1) level run ((!level) :: b :: rest) = .ok (b :: bs, l, r, tail) := by
  unfold removeInserted
  rw [if_pos h, if_neg (Bool.not_ne_self level)]
  dsimp only
  rw [k]

end

/-- A receiver that stands at the level and run of the sender reads the next bits back, and stands with it again. -/
theorem removeInserted_insertBits (bs rest tail : List Bool) (level : Bool) (run : Nat) :
    ∃ l r, removeInserted bs.length level run (insertBits level run (bs ++ rest) ++ tail) =
      .ok (bs, l, r, insertBits l r rest ++ tail) := by
  induction bs generalizing level run with
  | nil => exact ⟨level, run, rfl⟩
  | cons b bs ih =>
    rw [List.cons_append, insertBits]
    by_cases h : run = 5
    · obtain ⟨l, r, k⟩ := ih b (if b = (!level) then 2 else 1)
      rw [if_pos h]
      exact ⟨l, r, removeInserted_inserted h k⟩
    · obtain ⟨l, r, k⟩ := ih b (if b = level then run + 1 else 1)
      rw [if_neg h]
      exact ⟨l, r, removeInserted_plain h k⟩

/-! ## The frame -/

/-- The bits up to the length field, with the start bit (02 R32). -/
def FrameFields.headerBits (f : FrameFields) : List Bool :=
  false :: (bitsOf 2 f.cls ++ bitsOf 4 f.station ++ bitsOf 5 f.kind ++ bitsOf 4 f.payload.length)

/-- The bits behind the length field: the payload and the CRC (02 R32). -/
def FrameFields.payloadBits (f : FrameFields) : List Bool :=
  bitsOfBytes f.payload ++ bitsOf 16 (crc f.checkedBits).toNat

section
variable {f : FrameFields} {k : NoteKind}

theorem FrameFields.bodyBits_eq (f : FrameFields) : f.bodyBits = f.headerBits ++ f.payloadBits := by
  unfold FrameFields.bodyBits FrameFields.checkedBits FrameFields.headerBits FrameFields.payloadBits
  rw [List.cons_append, List.append_assoc _ (bitsOfBytes f.payload)]; rfl

theorem FrameFields.payloadBits_length (f : FrameFields) : f.payloadBits.length = 8 * f.payload.length + 16 := by
  unfold FrameFields.payloadBits
  rw [List.length_append, bitsOfBytes_length, bitsOf_length]

theorem FrameFields.headerBits_len (h : f.payload.length ≤ 8) :
    natOfBits ((f.headerBits.drop 12).take 4) = f.payload.length :=
  natOfBits_bitsOf (n := 4) (Nat.lt_of_le_of_lt h (by decide))

theorem NoteKind.ofValue?_value (k : NoteKind) : NoteKind.ofValue? k.value = some k := by cases k <;> decide

/-- No kind allows a payload above 8 bytes (02 R47). -/
theorem NoteKind.allows_le {n : Nat} (h : k.allows n = true) : n ≤ 8 := by
  cases k <;> simp only [NoteKind.allows, decide_eq_true_iff] at h <;> omega

theorem NoteKind.value_lt (k : NoteKind) : k.value < 2 ^ 5 := by cases k <;> decide

/-- A frame of a known kind with an allowed length passes the receiver's checks, and its fields are read (02 R34). -/
theorem checkFrame_sent (hc : f.cls < 4) (hs : f.station < 15) (hk : f.kind = k.value)
    (ha : k.allows f.payload.length = true) : checkFrame f.headerBits f.payloadBits endFieldBits = .ok f := by
  have cls : natOfBits ((f.headerBits.drop 1).take 2) = f.cls := natOfBits_bitsOf (n := 2) hc
  have station : natOfBits ((f.headerBits.drop 3).take 4) = f.station := natOfBits_bitsOf (n := 4) (Nat.lt_succ_of_lt hs)
  have kind : natOfBits ((f.headerBits.drop 7).take 5) = f.kind := natOfBits_bitsOf (n := 5) (hk ▸ k.value_lt)
  have payload : f.payloadBits.take (8 * f.payload.length) = bitsOfBytes f.payload :=
    List.take_left' (bitsOfBytes_length _)
  have sum : f.payloadBits.drop (8 * f.payload.length) = bitsOf 16 (crc f.checkedBits).toNat :=
    List.drop_left' (bitsOfBytes_length _)
  have checked : f.headerBits.drop 1 ++ bitsOfBytes f.payload = f.checkedBits := rfl
  have bytes : bytesOfBits f.payload.length f.payloadBits = f.payload := bytesOfBits_bitsOfBytes _ _
  unfold checkFrame
  rw [cls, station, kind, FrameFields.headerBits_len (NoteKind.allows_le ha)]
  dsimp only
  rw [payload, sum, checked, bytes, if_neg (not_not.mpr rfl), hk, k.ofValue?_value]
  dsimp only
  rw [ha, if_neg (by decide), if_neg (Nat.ne_of_lt hs), if_neg fun h => h (List.take_length (l := endFieldBits)), ← hk]

end

/-- Settles O60: the header and then the payload with its CRC are read back by `removeInserted_insertBits`, and pass the
checks. -/
theorem framesReadBack : Obligations.FramesReadBack := by
  intro f k hc hs hk ha
  have short := NoteKind.allows_le ha
  obtain ⟨l, r, readHeader⟩ := removeInserted_insertBits f.headerBits f.payloadBits endFieldBits true 0
  obtain ⟨l', r', readPayload⟩ := removeInserted_insertBits f.payloadBits [] endFieldBits l r
  rw [List.append_nil, f.payloadBits_length] at readPayload
  have header : removeInserted 16 true 0 f.lineBits =
      .ok (f.headerBits, l, r, insertBits l r f.payloadBits ++ endFieldBits) := by
    unfold FrameFields.lineBits
    rw [f.bodyBits_eq]
    exact readHeader
  unfold receiveFrame
  rw [header]
  dsimp only
  rw [FrameFields.headerBits_len short, if_neg (Nat.not_lt.mpr short), readPayload]
  exact checkFrame_sent hc hs hk ha

end Sys2Proof.Machine

/-! PROOF. The claim queue (O20, O21): the look for the next claim, and what a RELEASE, a retry timer and a dropped CLAIM
make of the entries. -/

namespace Sys2Proof.Machine

section
variable {s : State}

/-- No entry that may be claimed for: each waits, or its drop has locate_hold set (03 R60). -/
theorem State.nextClaim_none
    (h : ∀ e ∈ s.budget.claims, e.retry ≠ .sendable ∨ (s.drops.get e.drop).locateHold = true) : s.nextClaim = none := by
  refine List.find?_eq_none.mpr fun e he => ?_
  rcases h e he with hr | hl
  · simp [hr]
  · simp [hl]

/-- The first entry that may be claimed for is the next claim (03 R60). -/
theorem State.nextClaim_some {pre post : List ClaimEntry} {e : ClaimEntry} (hq : s.budget.claims = pre ++ e :: post)
    (before : ∀ x ∈ pre, x.retry ≠ .sendable ∨ (s.drops.get x.drop).locateHold = true) (hr : e.retry = .sendable)
    (hl : (s.drops.get e.drop).locateHold = false) : s.nextClaim = some e := by
  refine List.find?_eq_some_iff_append.mpr ⟨by simp [hr, hl], pre, post, hq, fun x hx => ?_⟩
  rcases before x hx with hw | hh
  · simp [hw]
  · simp [hh]

theorem State.lookClaims_of_none (h : s.nextClaim = none) : s.lookClaims = s := by
  unfold State.lookClaims
  rw [h, ite_self]

theorem State.lookClaims_of_some {e : ClaimEntry} (free : s.claimOutstanding = false) (h : s.nextClaim = some e) :
    s.lookClaims = s.queueNote (.claim e.drop (s.dropCfg e.drop).allowance none) := by
  unfold State.lookClaims
  rw [h, free]
  rfl

theorem State.queueNote_joins (hs : s.stray = false) (b : NoteBody) :
    s.queueNote b = { s with cli := s.cli.enqueue b } := by
  rw [State.queueNote_eq, State.queueNote_cli hs]

/-- A dropped CLAIM is counted, its drop's entry waits where the drop is still CLAIMING, and the next claim is looked for
(03 R66). -/
theorem State.tellDropped_claim (s : State) (d : Drop) (amount : Nat) (total : Option Nat) :
    s.tellDropped (.claim d amount total) = State.lookClaims
      { s with
        budget :=
          { s.budget with
            claims :=
              if (s.drops.get d).state = .claiming then
                s.budget.claims.map fun e => if e.drop = d then { e with retry := .waiting (.running s.now 500000) } else e
              else s.budget.claims
            claimsDropped := bump s.budget.claimsDropped } } := by
  unfold State.tellDropped
  refine congrArg State.lookClaims ?_
  split <;> rfl

theorem State.retryRunning_of {e : ClaimEntry} {r : Timer} (he : e ∈ s.budget.claims) (hr : e.retry = .waiting r) :
    s.retryRunning e.drop = true :=
  List.any_eq_true.mpr ⟨e, he, by simp [hr]⟩

theorem exec_releaseEcho {n : QNote} {d : Drop} {amount : Nat} {total : Option Nat} (hn : s.onLine = some n)
    (hb : n.body = .release d amount total) : exec .releaseEcho s = .next s.echoed.releaseHeard := by
  have body : s.onLine.map QNote.body = some (.release d amount total) := by rw [hn, Option.map_some, hb]
  show execReleaseEcho s = _
  unfold execReleaseEcho
  rw [body]

end

/-- Settles O21: the look by what `State.nextClaim` finds, and the dropped CLAIM by `State.tellDropped_claim`. -/
theorem oneClaimIsSentAtATime : Obligations.OneClaimIsSentAtATime := by
  intro s
  refine ⟨State.lookClaims_outstanding, fun h => State.lookClaims_of_none (State.nextClaim_none h), ?_,
    s.tellDropped_claim⟩
  intro free hs pre e post hq before hr hl
  rw [State.lookClaims_of_some free (State.nextClaim_some hq before hr hl), State.queueNote_joins hs]

/-- Settles O20: each of the three events sets the entries it names SENDABLE and then looks for the next claim. -/
theorem releasesAndRetriesMakeClaimsSendable : Obligations.ReleasesAndRetriesMakeClaimsSendable := by
  intro s sendable
  refine ⟨fun src n hf => ?_, fun n d amount total hn hb => exec_releaseEcho hn hb, fun d e r he hd hr => ?_⟩
  · exact congrArg Host.Outcome.next (State.hear_foreign src _ hf)
  · subst hd
    exact congrArg Host.Outcome.next (if_pos (State.retryRunning_of he hr))

end Sys2Proof.Machine

/-! PROOF. The own held total (O56), its laws: the CLAIM notes held, the drops that claim, and what an operation keeps of
them (03 R54, R59, R60). -/

namespace Sys2Proof.Machine

/-! ## The CLAIM notes held -/

/-- The drop and the amount that a CLAIM names. -/
def NoteBody.claimed : NoteBody → Option (Drop × Nat)
  | .claim d amount _ => some (d, amount)
  | _ => none

/-- What the CLAIM notes in the queue name, in order. -/
def Cli.claimed (c : Cli) : List (Drop × Nat) := c.queue.filterMap (·.body.claimed)

/-- The drops in the claim queue, in order (03 R59). -/
def State.claimants (s : State) : List Drop := s.budget.claims.map ClaimEntry.drop

theorem NoteBody.claimed_isSome (b : NoteBody) : b.claimed.isSome = b.isClaim := by cases b <;> rfl

theorem NoteBody.claimed_none_iff (b : NoteBody) : b.claimed = none ↔ b.isClaim = false := by
  rw [← b.claimed_isSome, Option.isSome_eq_false_iff, Option.isNone_iff_eq_none]

theorem NoteBody.claimed_of_event {b : NoteBody} (h : b.isEvent = true) : b.claimed = none := by
  cases b with
  | event => rfl
  | _ => cases h

theorem State.claimCarriesAllowance_iff (s : State) (b : NoteBody) :
    s.claimCarriesAllowance b ↔ ∀ p ∈ b.claimed, p.2 = (s.dropCfg p.1).allowance := by
  cases b <;> simp [State.claimCarriesAllowance, NoteBody.claimed]

theorem Cli.claimed_length (c : Cli) : c.claimed.length = (c.queue.filter (·.body.isClaim)).length := by
  unfold Cli.claimed
  rw [List.length_filterMap_eq_countP, List.countP_eq_length_filter]
  simp only [NoteBody.claimed_isSome]

theorem Cli.claimed_nil_iff (c : Cli) : c.claimed = [] ↔ ∀ n ∈ c.queue, n.body.isClaim = false := by
  unfold Cli.claimed
  simp only [List.filterMap_eq_nil_iff, NoteBody.claimed_none_iff]

theorem State.claimed_of_free {s : State} (h : s.claimOutstanding = false) : s.cli.claimed = [] := by
  rw [Cli.claimed_nil_iff]
  unfold State.claimOutstanding at h
  simpa using h

theorem Cli.claimed_sublist {c e : Cli} (h : c.queue.Sublist e.queue) : c.claimed.Sublist e.claimed := h.filterMap _

theorem Cli.claimed_join (c : Cli) (b : NoteBody) : (c.join b).claimed = c.claimed ++ b.claimed.toList := by
  simp only [Cli.claimed, Cli.join, List.filterMap_append]
  cases h : b.claimed <;> simp [h]

theorem eraseLast_sublist {α : Type} (p : α → Bool) (l : List α) : (eraseLast p l).Sublist l := by
  have := (List.eraseP_sublist (p := p) (l := l.reverse)).reverse
  rwa [List.reverse_reverse] at this

theorem Cli.makeRoom_sublist (c : Cli) : c.makeRoom.queue.Sublist c.queue := by
  unfold Cli.makeRoom
  split_ifs
  · exact eraseLast_sublist _ _
  · exact eraseLast_sublist _ _
  · exact .refl _

/-- Behind the CLAIM notes held there stands at most the one that joins. -/
theorem Cli.claimed_enqueue (c : Cli) (b : NoteBody) :
    (c.enqueue b).claimed.Sublist (c.claimed ++ b.claimed.toList) := by
  have join : (c.join b).claimed.Sublist (c.claimed ++ b.claimed.toList) := by rw [Cli.claimed_join]
  have refuse : c.claimed.Sublist (c.claimed ++ b.claimed.toList) := List.sublist_append_left _ _
  unfold Cli.enqueue
  split_ifs
  · exact join
  · exact refuse
  · exact join
  · exact refuse
  · exact join
  · rw [Cli.claimed_join]
    exact (Cli.claimed_sublist c.makeRoom_sublist).append_right _

theorem Cli.claimed_enqueue_other (c : Cli) {b : NoteBody} (h : b.claimed = none) :
    (c.enqueue b).claimed.Sublist c.claimed := by
  have := c.claimed_enqueue b
  rwa [h, Option.toList_none, List.append_nil] at this

theorem Cli.claimed_foldl_events (bs : List NoteBody) (h : ∀ b ∈ bs, b.isEvent = true) (c : Cli) :
    (bs.foldl Cli.enqueue c).claimed.Sublist c.claimed := by
  induction bs generalizing c with
  | nil => exact .refl _
  | cons b bs ih =>
    exact (ih (fun x hx => h x (List.mem_cons_of_mem _ hx)) _).trans
      (c.claimed_enqueue_other (NoteBody.claimed_of_event (h b List.mem_cons_self)))

theorem State.Queues.claimed_sublist {s t : State} (h : State.Queues NoteBody.isEvent s t) :
    t.cli.claimed.Sublist s.cli.claimed := by
  obtain ⟨bs, hb, ht⟩ := h
  rw [ht]
  exact Cli.claimed_foldl_events bs hb s.cli

/-- A change of notes that keeps what each names as a CLAIM. -/
theorem claimed_modifyFirst (p : QNote → Bool) (f : QNote → QNote) (hf : ∀ n, (f n).body.claimed = n.body.claimed)
    (q : List QNote) : (modifyFirst p f q).filterMap (·.body.claimed) = q.filterMap (·.body.claimed) := by
  induction q with
  | nil => rfl
  | cons n q ih =>
    unfold modifyFirst
    split
    · simp only [List.filterMap_cons, hf]
    · simp only [List.filterMap_cons, ih]

theorem State.claimed_fillNote (s : State) (b : NoteBody) : (s.fillNote b).claimed = b.claimed := by cases b <;> rfl

/-! ## The law of the CLAIM notes -/

/-- At most one CLAIM note is held, with its drop's allowance; until loading ends none is, and no drop claims (03 R60;
06 R107). -/
structure State.ClaimNotesLaw (s : State) : Prop where
  one : s.cli.claimed.length ≤ 1
  amounts : ∀ p ∈ s.cli.claimed, p.2 = (s.dropCfg p.1).allowance
  unloaded : s.cfg = none → s.cli.claimed = [] ∧ s.claimants = []

section
variable {s t u : State} {d : Drop}

/-- Notes other than CLAIMs come and go, and CLAIM notes go. -/
theorem State.ClaimNotesLaw.shrink (h : s.ClaimNotesLaw) (cfg : t.cfg = s.cfg)
    (notes : t.cli.claimed.Sublist s.cli.claimed) (claimants : s.cfg = none → s.claimants = [] → t.claimants = []) :
    t.ClaimNotesLaw where
  one := notes.length_le.trans h.one
  amounts p hp := by rw [State.dropCfg_of cfg]; exact h.amounts p (notes.subset hp)
  unloaded hc := by
    obtain ⟨hn, hq⟩ := h.unloaded (cfg ▸ hc)
    exact ⟨List.sublist_nil.mp (hn ▸ notes), claimants (cfg ▸ hc) hq⟩

/-- The only CLAIM note is one of a drop in the claim queue, with its allowance. -/
theorem State.ClaimNotesLaw.single (h : s.ClaimNotesLaw) (cfg : t.cfg = s.cfg) (hd : d ∈ s.claimants)
    (notes : t.cli.claimed.Sublist [(d, (s.dropCfg d).allowance)]) : t.ClaimNotesLaw where
  one := notes.length_le
  amounts p hp := by
    rw [List.mem_singleton.mp (notes.subset hp), State.dropCfg_of cfg]
  unloaded hc := by
    rw [(h.unloaded (cfg ▸ hc)).2] at hd
    exact absurd hd List.not_mem_nil

theorem State.mem_claimants : d ∈ s.claimants ↔ s.budget.claims.any (fun e => decide (e.drop = d)) = true := by
  simp only [State.claimants, List.mem_map, List.any_eq_true, decide_eq_true_eq]

/-- Until loading ends no drop is CLAIMING, so none stands in the claim queue. -/
theorem State.BudgetLaw.claimNotes (h : s.BudgetLaw) : s.ClaimNotesLaw where
  one := s.cli.claimed_length ▸ h.oneClaim
  amounts p hp := by
    obtain ⟨n, hn, hb⟩ := List.mem_filterMap.mp hp
    exact (s.claimCarriesAllowance_iff n.body).mp (h.amounts n hn) p hb
  unloaded hc := by
    refine ⟨(Cli.claimed_nil_iff _).mpr (h.noClaimNotes hc), ?_⟩
    unfold State.claimants
    rw [h.noClaims (h.loading.mpr hc), List.map_nil]

/-- The law of the own held total from that of the CLAIM notes and those of the drops. -/
theorem State.ClaimNotesLaw.budgetLaw (h : s.ClaimNotesLaw) (held : s.budget.ownHeld = s.shares)
    (claimants : ∀ d, d ∈ s.claimants ↔ (s.drops.get d).state = .claiming) (distinct : s.claimants.Nodup)
    (loading : s.loader = .loading ↔ s.cfg = none) (off : s.cfg = none → ∀ d, (s.drops.get d).state = .off) :
    s.BudgetLaw where
  held := held
  claimants d := State.mem_claimants.symm.trans (claimants d)
  distinct := distinct
  oneClaim := s.cli.claimed_length ▸ h.one
  amounts n hn := (s.claimCarriesAllowance_iff n.body).mpr fun p hp => h.amounts p (List.mem_filterMap.mpr ⟨n, hn, hp⟩)
  loading := loading
  offUntilLoaded := off
  noClaimNotes hc := (Cli.claimed_nil_iff _).mp (h.unloaded hc).1

/-- A drop out of OFF has its configuration. -/
theorem State.BudgetLaw.loaded (h : s.BudgetLaw) (hs : (s.drops.get d).state ≠ .off) : s.cfg ≠ none :=
  fun hc => hs (h.offUntilLoaded hc d)

/-! ## Shares -/

theorem State.share_of (cfg : t.cfg = s.cfg) (hp : (t.drops.get d).state.powered = (s.drops.get d).state.powered) :
    t.share d = s.share d := by
  unfold State.share
  rw [hp, State.dropCfg_of cfg]

/-- The sum of the shares where that of one drop changes. -/
theorem State.shares_move (h : ∀ e, e ≠ d → t.share e = s.share e) :
    t.shares + s.share d = s.shares + t.share d := by
  unfold State.shares Drop.all
  simp only [List.map_cons, List.map_nil, List.sum_cons, List.sum_nil]
  cases d
  · rw [h .d1 (by decide), h .d2 (by decide), h .d3 (by decide)]; omega
  · rw [h .d0 (by decide), h .d2 (by decide), h .d3 (by decide)]; omega
  · rw [h .d0 (by decide), h .d1 (by decide), h .d3 (by decide)]; omega
  · rw [h .d0 (by decide), h .d1 (by decide), h .d2 (by decide)]; omega

theorem State.share_le (s : State) (d : Drop) : s.share d ≤ s.shares :=
  List.le_sum_of_mem (List.mem_map_of_mem d.mem_all)

theorem State.share_powered (h : (s.drops.get d).state.powered = true) : s.share d = (s.dropCfg d).allowance := if_pos h

theorem State.share_unpowered (h : (s.drops.get d).state.powered = false) : s.share d = 0 :=
  if_neg (by rw [h]; exact Bool.false_ne_true)

end

/-! ## What keeps the own held total -/

/-- From `s` to `t` no drop gains or loses its power, enters or leaves CLAIMING or leaves OFF; the configuration, the own
held total and the drops in the claim queue stay, and the law of the CLAIM notes is kept. -/
structure State.KeepsBudget (s t : State) : Prop where
  powered : ∀ d, (t.drops.get d).state.powered = (s.drops.get d).state.powered
  claiming : ∀ d, (t.drops.get d).state = .claiming ↔ (s.drops.get d).state = .claiming
  off : ∀ d, (s.drops.get d).state = .off → (t.drops.get d).state = .off
  cfg : t.cfg = s.cfg
  loader : t.loader = s.loader
  held : t.budget.ownHeld = s.budget.ownHeld
  claimants : t.claimants = s.claimants
  notes : s.ClaimNotesLaw → t.ClaimNotesLaw

section
variable {s t u : State} {d : Drop}

theorem State.KeepsBudget.refl (s : State) : s.KeepsBudget s :=
  ⟨fun _ => rfl, fun _ => .rfl, fun _ h => h, rfl, rfl, rfl, rfl, fun h => h⟩

theorem State.KeepsBudget.trans (h : s.KeepsBudget t) (k : t.KeepsBudget u) : s.KeepsBudget u where
  powered d := (k.powered d).trans (h.powered d)
  claiming d := (k.claiming d).trans (h.claiming d)
  off d x := k.off d (h.off d x)
  cfg := k.cfg.trans h.cfg
  loader := k.loader.trans h.loader
  held := k.held.trans h.held
  claimants := k.claimants.trans h.claimants
  notes x := k.notes (h.notes x)

theorem State.KeepsBudget.ite {c : Prop} [Decidable c] (h : c → s.KeepsBudget t) (k : ¬c → s.KeepsBudget u) :
    s.KeepsBudget (if c then t else u) := by
  split
  · exact h ‹_›
  · exact k ‹_›

theorem State.KeepsBudget.iteRefl {c : Prop} [Decidable c] (h : s.KeepsBudget t) : s.KeepsBudget (if c then t else s) :=
  .ite (fun _ => h) fun _ => .refl s

theorem State.KeepsBudget.foldl {β : Type} {f : State → β → State}
    (h : ∀ (s : State) (b : β), s.KeepsBudget (f s b)) : ∀ (bs : List β) (s : State), s.KeepsBudget (bs.foldl f s)
  | [], s => .refl s
  | b :: bs, s => (h s b).trans (State.KeepsBudget.foldl h bs (f s b))

/-- The fields beside the notes that the law of the own held total reads. -/
def shareFields : List Block := [.drops, .budget, .cfg, .loader]

/-- What leaves the drop records, the Budget Unit and the configuration as they are, and keeps the law of the CLAIM
notes. -/
theorem State.KeepsBudget.of_notes {l : List Block} {ds : List Drop} (h : s.ChangesOnly t l ds)
    (hl : ∀ b ∈ shareFields, b ∉ l) (notes : s.ClaimNotesLaw → t.ClaimNotesLaw) : s.KeepsBudget t := by
  have drops : t.drops = s.drops := h.get .drops (hl _ (by decide))
  have budget : t.budget = s.budget := h.get .budget (hl _ (by decide))
  exact ⟨fun _ => by rw [drops], fun _ => by rw [drops], fun _ => by rw [drops]; exact fun x => x,
    h.get .cfg (hl _ (by decide)), h.get .loader (hl _ (by decide)), by rw [budget],
    by unfold State.claimants; rw [budget], notes⟩

/-- What leaves them as they are and brings no CLAIM note. -/
theorem State.KeepsBudget.of_claimed {l : List Block} {ds : List Drop} (h : s.ChangesOnly t l ds)
    (hl : ∀ b ∈ shareFields, b ∉ l) (notes : t.cli.claimed.Sublist s.cli.claimed) : s.KeepsBudget t := by
  have budget : t.budget = s.budget := h.get .budget (hl _ (by decide))
  have claimants : t.claimants = s.claimants := by unfold State.claimants; rw [budget]
  exact .of_notes h hl fun x => x.shrink (h.get .cfg (hl _ (by decide))) notes fun _ k => claimants.trans k

theorem State.KeepsBudget.of_frame {l : List Block} {ds : List Drop} (h : s.ChangesOnly t l ds)
    (hl : ∀ b ∈ .cli :: shareFields, b ∉ l) : s.KeepsBudget t := by
  have cli : t.cli = s.cli := h.get .cli (hl _ (by decide))
  exact .of_claimed h (fun b hb => hl b (List.mem_cons_of_mem _ hb)) (by rw [cli])

theorem State.KeepsBudget.of_events {l : List Block} {ds : List Drop} (h : s.ChangesOnly t l ds)
    (hl : ∀ b ∈ shareFields, b ∉ l) (q : State.Queues NoteBody.isEvent s t) : s.KeepsBudget t :=
  .of_claimed h hl q.claimed_sublist

/-- What leaves the drop records, the Budget Unit, the configuration and the notes as they are. -/
theorem State.KeepsBudget.of_same (drops : t.drops = s.drops) (cfg : t.cfg = s.cfg) (loader : t.loader = s.loader)
    (budget : t.budget = s.budget) (cli : t.cli = s.cli) : s.KeepsBudget t := by
  have claimants : t.claimants = s.claimants := by unfold State.claimants; rw [budget]
  exact ⟨fun _ => by rw [drops], fun _ => by rw [drops], fun _ => by rw [drops]; exact fun x => x, cfg, loader,
    by rw [budget], claimants, fun x => x.shrink cfg (by rw [cli]) fun _ k => claimants.trans k⟩

theorem State.BudgetLaw.keep (h : s.BudgetLaw) (k : s.KeepsBudget t) : t.BudgetLaw := by
  refine (k.notes h.claimNotes).budgetLaw ?_ (fun d => ?_) ?_ ?_ fun hc d => ?_
  · have shares : t.shares = s.shares :=
      congrArg List.sum (List.map_congr_left fun d _ => State.share_of k.cfg (k.powered d))
    rw [k.held, shares, h.held]
  · rw [k.claimants, k.claiming, State.mem_claimants]; exact h.claimants d
  · rw [k.claimants]; exact h.distinct
  · rw [k.loader, k.cfg]; exact h.loading
  · exact k.off d (h.offUntilLoaded (k.cfg ▸ hc) d)

/-- One drop moves, with its configuration loaded: the own held total changes by what its share does, and it stands in the
claim queue exactly if it has come to CLAIMING. -/
theorem State.BudgetLaw.move (h : s.BudgetLaw) (d : Drop) (loaded : s.cfg ≠ none) (cfg : t.cfg = s.cfg)
    (loader : t.loader = s.loader) (others : ∀ e, e ≠ d → (t.drops.get e).state = (s.drops.get e).state)
    (held : t.budget.ownHeld + s.share d = s.budget.ownHeld + t.share d)
    (waits : ∀ e, e ≠ d → (e ∈ t.claimants ↔ e ∈ s.claimants))
    (own : d ∈ t.claimants ↔ (t.drops.get d).state = .claiming) (distinct : t.claimants.Nodup)
    (notes : t.cli.claimed.Sublist s.cli.claimed) : t.BudgetLaw := by
  refine (h.claimNotes.shrink cfg notes fun hc => absurd hc loaded).budgetLaw ?_ (fun e => ?_) distinct ?_ fun hc => ?_
  · have shares := State.shares_move (d := d) fun e he => State.share_of cfg (congrArg DropState.powered (others e he))
    have := h.held
    omega
  · by_cases he : e = d
    · rw [he]; exact own
    · rw [waits e he, others e he, State.mem_claimants]; exact h.claimants e
  · rw [loader, cfg]; exact h.loading
  · exact absurd (cfg ▸ hc) loaded

end

end Sys2Proof.Machine

/-! PROOF. The own held total (O56), kept by operations: of the line, of the claim queue, of the frame memory, of the lens,
of the drops and of the Line Locator. -/

namespace Sys2Proof.Machine

section
variable (s : State)

/-! ## Blocks beside the Budget Unit -/

theorem State.modLink_keepsBudget (d : Drop) (f : LinkPort → LinkPort) : s.KeepsBudget (s.modLink d f) :=
  .of_frame (s.modLink_frame d f) (by decide)

theorem State.modRx_keepsBudget (d : Drop) (f : Receiver → Receiver) : s.KeepsBudget (s.modRx d f) :=
  .of_frame (s.modRx_frame d f) (by decide)

theorem State.modLens_keepsBudget (d : Drop) (f : Lens → Lens) : s.KeepsBudget (s.modLens d f) :=
  .of_frame (s.modLens_frame d f) (by decide)

theorem State.modSites_keepsBudget (d : Drop) (f : SiteTable → SiteTable) : s.KeepsBudget (s.modSites d f) :=
  .of_frame (s.modSites_frame d f) (by decide)

theorem State.modTrig_keepsBudget (f : TriggerUnit → TriggerUnit) : s.KeepsBudget (s.modTrig f) :=
  .of_frame (s.modTrig_frame f) (by decide)

theorem State.modFmm_keepsBudget (f : FrameMemory → FrameMemory) : s.KeepsBudget (s.modFmm f) :=
  .of_frame (s.modFmm_frame f) (by decide)

theorem State.modShots_keepsBudget (f : Shots → Shots) : s.KeepsBudget (s.modShots f) :=
  .of_frame (s.modShots_frame f) (by decide)

theorem State.modUplink_keepsBudget (f : Uplink → Uplink) : s.KeepsBudget (s.modUplink f) :=
  .of_frame (s.modUplink_frame f) (by decide)

theorem State.modLocator_keepsBudget (f : Locator → Locator) : s.KeepsBudget (s.modLocator f) :=
  .of_frame (s.modLocator_frame f) (by decide)

theorem State.modPart_keepsBudget (n : Half) (d : Drop) (f : Part → Part) : s.KeepsBudget (s.modPart n d f) :=
  .of_frame (s.modPart_frame n d f) (by decide)

theorem State.modAxis_keepsBudget (d : Drop) (ax : Axis) (f : AxisRec → AxisRec) : s.KeepsBudget (s.modAxis d ax f) :=
  .of_frame (s.modAxis_frame d ax f) (by decide)

theorem State.heardItem_keepsBudget (d : Drop) : s.KeepsBudget (s.heardItem d) := s.modLink_keepsBudget d _

theorem State.handMark_keepsBudget (d : Drop) (m : Mark) : s.KeepsBudget (s.handMark d m) := s.modLink_keepsBudget d _

theorem State.clearHomed_keepsBudget (d : Drop) : s.KeepsBudget (s.clearHomed d) := s.modLens_keepsBudget d _

theorem State.endFragment_keepsBudget (d : Drop) : s.KeepsBudget (s.endFragment d) :=
  .of_frame (s.endFragment_frame d) (by decide)

theorem State.boundaryDecision_keepsBudget : s.KeepsBudget s.boundaryDecision :=
  .of_frame s.boundaryDecision_frame (by decide)

theorem State.refreshView_keepsBudget (st : Station) (n : Nat) : s.KeepsBudget (s.refreshView st n) :=
  .of_frame (s.refreshView_frame st n) (by decide)

theorem State.closeOpenParts_keepsBudget (d : Drop) (c : ClosedStatus) : s.KeepsBudget (s.closeOpenParts d c) :=
  .of_events (s.closeOpenParts_frame d c) (by decide) (s.closeOpenParts_queues d c)

/-! ## The line -/

theorem State.modCli_keepsBudget (f : Cli → Cli) (h : (f s.cli).claimed.Sublist s.cli.claimed) :
    s.KeepsBudget (s.modCli f) :=
  .of_claimed (s.modCli_frame f) (by decide) h

/-- A change of the queue's first note of a kind that keeps what it names as a CLAIM. -/
theorem State.modNote_keepsBudget {f : Cli → Cli} {p : QNote → Bool} {g : QNote → QNote}
    (hq : (f s.cli).queue = modifyFirst p g s.cli.queue) (hg : ∀ n, (g n).body.claimed = n.body.claimed) :
    s.KeepsBudget (s.modCli f) := by
  refine s.modCli_keepsBudget f ?_
  unfold Cli.claimed
  rw [hq, claimed_modifyFirst p g hg]

theorem State.modCounters_keepsBudget (f : LineCounters → LineCounters) : s.KeepsBudget (s.modCounters f) :=
  .of_claimed (s.modCounters_frame f) (by decide) (.refl _)

theorem State.queueNote_keepsBudget {b : NoteBody} (h : b.claimed = none) : s.KeepsBudget (s.queueNote b) :=
  .ite (fun _ => .refl s) fun _ => (s.modCli_keepsBudget _ (s.cli.claimed_enqueue_other h))

theorem State.queueEvent_keepsBudget (e : Event) : s.KeepsBudget (s.queueEvent e) := s.queueNote_keepsBudget rfl

theorem State.answer_keepsBudget (k : Byte) (r : Request) (c : AnswerCode) (v : AnswerValue) :
    s.KeepsBudget (s.answer k r c v) := s.queueNote_keepsBudget rfl

theorem State.withdraw_keepsBudget (p : NoteBody → Bool) : s.KeepsBudget (s.withdraw p) :=
  s.modCli_keepsBudget _ (Cli.claimed_sublist List.eraseP_sublist)

theorem State.echoed_keepsBudget : s.KeepsBudget s.echoed :=
  (s.modCli_keepsBudget _ (Cli.claimed_sublist List.eraseP_sublist)).trans (State.modCounters_keepsBudget _ _)

theorem State.countHeard_keepsBudget : s.KeepsBudget s.countHeard := s.modCounters_keepsBudget _

theorem State.ownNumber_keepsBudget : s.KeepsBudget s.ownNumber :=
  s.countHeard_keepsBudget.trans (State.modCounters_keepsBudget _ _)

theorem State.announce_keepsBudget : s.KeepsBudget s.announce := by
  have queued : s.KeepsBudget s.queuePresence := .ite (fun _ => .refl s) fun _ => s.queueNote_keepsBudget rfl
  exact queued.trans (.ite (fun _ => .refl _) fun _ => State.modCli_keepsBudget _ _ (.refl _))

theorem State.startNote_keepsBudget :
    s.KeepsBudget (s.modCli fun c => { c with queue := s.startHead c.queue }).driveNote := by
  have started : s.KeepsBudget (s.modCli fun c => { c with queue := s.startHead c.queue }) :=
    s.modNote_keepsBudget rfl fun n => s.claimed_fillNote n.body
  refine started.trans ?_
  unfold State.driveNote
  split
  · exact State.modCli_keepsBudget _ _ (.refl _)
  · exact .refl _

theorem State.loseArbitration_keepsBudget : s.KeepsBudget s.loseArbitration :=
  (s.modNote_keepsBudget (g := fun n => { n with onLine := false }) rfl fun _ => rfl).trans
    (State.modCounters_keepsBudget _ _)

theorem State.abortNote_keepsBudget : s.KeepsBudget s.abortNote :=
  (s.modCli_keepsBudget _ (.refl _)).trans (State.modCounters_keepsBudget _ _)

theorem State.keepNote_keepsBudget (l : List ErrorClass) : s.KeepsBudget (s.keepNote l) :=
  s.modNote_keepsBudget rfl fun _ => rfl

theorem State.dropNote_keepsBudget (l : List ErrorClass) : s.KeepsBudget (s.dropNote l) :=
  (s.modCli_keepsBudget _ (Cli.claimed_sublist List.eraseP_sublist)).trans (State.modCounters_keepsBudget _ _)

/-! ## The claim queue -/

/-- With no CLAIM outstanding the one that the look queues is the only one, of a drop in the claim queue and with its
allowance (03 R60). -/
theorem State.lookClaims_keepsBudget : s.KeepsBudget s.lookClaims := by
  unfold State.lookClaims
  split
  · exact .refl s
  · rename_i taken
    have free : s.cli.claimed = [] := State.claimed_of_free (Bool.eq_false_iff.mpr taken)
    split
    · exact .refl s
    · rename_i e he
      have frame := s.queueNote_frame (.claim e.drop (s.dropCfg e.drop).allowance none)
      have claims : e.drop ∈ s.claimants := List.mem_map_of_mem (List.mem_of_find?_eq_some he)
      refine .of_notes frame (by decide) fun h => h.single (frame.get .cfg (by decide)) claims ?_
      unfold State.queueNote
      split
      · rw [free]; exact List.nil_sublist _
      · have joined := s.cli.claimed_enqueue (.claim e.drop (s.dropCfg e.drop).allowance none)
        rwa [free, List.nil_append] at joined

/-- A change of the Budget Unit that keeps the own held total and the drops in the claim queue. -/
theorem State.modBudget_keepsBudget (f : Budget → Budget) (held : (f s.budget).ownHeld = s.budget.ownHeld)
    (claimants : (f s.budget).claims.map ClaimEntry.drop = s.budget.claims.map ClaimEntry.drop) :
    s.KeepsBudget (s.modBudget f) :=
  ⟨fun _ => rfl, fun _ => .rfl, fun _ h => h, rfl, rfl, held, claimants,
    fun h => h.shrink rfl (.refl _) fun _ k => claimants.trans k⟩

/-- A change of retry states (03 R59). -/
theorem State.modRetries_keepsBudget (f : ClaimEntry → ClaimEntry) (h : ∀ e, (f e).drop = e.drop) :
    s.KeepsBudget (s.modBudget fun b => { b with claims := b.claims.map f }) :=
  s.modBudget_keepsBudget _ rfl (by simp only [List.map_map]; exact List.map_congr_left fun e _ => h e)

theorem State.setRetry_keepsBudget (d : Drop) (f : RetryState → RetryState) : s.KeepsBudget (s.setRetry d f) :=
  s.modRetries_keepsBudget _ fun e => by split <;> rfl

theorem State.releaseHeard_keepsBudget : s.KeepsBudget s.releaseHeard :=
  (s.modRetries_keepsBudget (fun e => { e with retry := .sendable }) fun _ => rfl).trans (State.lookClaims_keepsBudget _)

theorem State.queueRelease_keepsBudget (d : Drop) : s.KeepsBudget (s.queueRelease d) :=
  .ite (fun _ => .refl s) fun _ => s.queueNote_keepsBudget rfl

/-! ## Records of drops -/

/-- A change of one drop's record that keeps its power and whether it is CLAIMING, and does not take it out of OFF. -/
theorem State.modDrop_keepsBudget (d : Drop) (f : DropRec → DropRec)
    (hp : (f (s.drops.get d)).state.powered = (s.drops.get d).state.powered)
    (hc : (f (s.drops.get d)).state = .claiming ↔ (s.drops.get d).state = .claiming)
    (ho : (s.drops.get d).state = .off → (f (s.drops.get d)).state = .off) : s.KeepsBudget (s.modDrop d f) := by
  have record : ∀ e, e ≠ d → (s.modDrop d f).drops.get e = s.drops.get e := fun e he => by
    rw [State.modDrop_drops, PerDrop.get_set_other _ _ he]
  have own : (s.modDrop d f).drops.get d = f (s.drops.get d) := by rw [State.modDrop_drops, PerDrop.get_set_same]
  refine ⟨fun e => ?_, fun e => ?_, fun e => ?_, rfl, rfl, rfl, rfl, fun h => h.shrink rfl (.refl _) fun _ k => k⟩
  all_goals
    by_cases he : e = d
    · subst he; rw [own]; assumption
    · simp only [record e he, imp_self]

/-- A change of one drop's record that keeps its state. -/
theorem State.modDrop_sameState (d : Drop) (f : DropRec → DropRec)
    (h : (f (s.drops.get d)).state = (s.drops.get d).state) : s.KeepsBudget (s.modDrop d f) :=
  s.modDrop_keepsBudget d f (by rw [h]) (by rw [h]) (by rw [h]; exact fun x => x)

variable {s} in
/-- A powered drop goes to another powered state. -/
theorem State.modDrop_staysPowered {d : Drop} {f : DropRec → DropRec} (hs : (s.drops.get d).state.powered = true)
    (ht : (f (s.drops.get d)).state.powered = true) : s.KeepsBudget (s.modDrop d f) := by
  have ne : ∀ {st x : DropState}, st.powered = true → x.powered = false → st ≠ x := fun h k j => by
    rw [j, k] at h; cases h
  exact s.modDrop_keepsBudget d f (ht.trans hs.symm) (iff_of_false (ne ht rfl) (ne hs rfl)) fun h => absurd h (ne hs rfl)

variable {s} in
/-- An unpowered drop that is not CLAIMING goes to OFF. -/
theorem State.modDrop_toOff {d : Drop} {f : DropRec → DropRec} (hs : (s.drops.get d).state.powered = false)
    (hc : (s.drops.get d).state ≠ .claiming) (ht : (f (s.drops.get d)).state = .off) : s.KeepsBudget (s.modDrop d f) :=
  s.modDrop_keepsBudget d f (by rw [ht, hs]; rfl) (by rw [ht]; exact iff_of_false (by decide) hc) fun _ => ht

end

end Sys2Proof.Machine

/-! PROOF. The own held total (O56), kept by the operations on frames, lenses, powered drops and captures: none of them
gives or takes a share. -/

namespace Sys2Proof.Machine

section
variable (s : State)

/-! ## The frame memory and the fragments -/

theorem State.evalHold_keepsBudget : s.KeepsBudget s.evalHold := by
  have change : ∀ v, s.KeepsBudget (s.changeHold v) := fun v =>
    (s.modFmm_keepsBudget _).trans (State.announce_keepsBudget _)
  unfold State.evalHold
  split
  · exact .refl s
  · exact .ite (fun _ => change true) fun _ => .iteRefl (change false)

theorem State.takePage_keepsBudget : s.KeepsBudget s.takePage.2 := by
  unfold State.takePage
  split <;> exact (s.modFmm_keepsBudget _).trans (State.evalHold_keepsBudget _)

theorem State.returnPage_keepsBudget (p : Nat) : s.KeepsBudget (s.returnPage p) :=
  (s.modFmm_keepsBudget _).trans (State.evalHold_keepsBudget _)

variable {s} in
theorem State.storeWord_keepsBudget {t : State} {d : Drop} {n : Half} {page words : Nat} {w : Word}
    (h : s.storeWord d n page words w = .next t) : s.KeepsBudget t := by
  unfold State.storeWord at h
  simp only at h
  split at h
  · cases h
    exact (s.modFmm_keepsBudget _).trans (State.modPart_keepsBudget _ n d _)
  · cases h

variable {s} in
theorem State.payloadWord_keepsBudget {t : State} {d : Drop} {n : Half} {p : Part} {k : Nat} {w : Word}
    (h : s.payloadWord d n p k w = .next t) : s.KeepsBudget t := by
  have lose : ∀ u : State, u.KeepsBudget (u.loseWord d n) := fun u =>
    (u.modPart_keepsBudget n d _).trans (State.modRx_keepsBudget _ d _)
  have take := s.takePage_keepsBudget
  unfold State.payloadWord at h
  split at h
  · cases h
    exact (State.KeepsBudget.of_frame (s.flagPart_frame n d _) (by decide)).trans (State.modRx_keepsBudget _ d _)
  · split at h
    · cases h; exact lose s
    · split at h
      · split at h
        · rename_i page u hp
          rw [hp] at take
          exact (take.trans (State.modPart_keepsBudget _ n d _)).trans (State.storeWord_keepsBudget h)
        · rename_i u hp
          rw [hp] at take
          cases h
          exact take.trans (lose u)
      · exact State.storeWord_keepsBudget h

variable {s} in
theorem State.dataAt_keepsBudget {t : State} {d : Drop} {w : Word} (h : s.dataAt d w = .next t) : s.KeepsBudget t := by
  unfold State.dataAt at h
  split at h
  · cases h; exact s.modRx_keepsBudget d _
  · cases h; exact .refl _
  · simp only at h
    split at h
    · exact (s.modRx_keepsBudget d _).trans (State.payloadWord_keepsBudget h)
    · cases h; exact s.modRx_keepsBudget d _

theorem State.endWord_keepsBudget (d : Drop) (n : Half) (w : Word) : s.KeepsBudget (s.endWord d n w) := by
  have short : s.KeepsBudget (s.lengthError d n) := .of_frame (s.lengthError_frame d n) (by decide)
  have close : ∀ u : State, u.KeepsBudget (u.closePart n d .complete) := fun u =>
    .of_events (u.closePart_frame n d _) (by decide) (u.closePart_queues n d _)
  refine .ite (fun _ => short.trans (State.modRx_keepsBudget _ d _)) fun _ => ?_
  have idle : s.KeepsBudget
      ((if endCount w ≠ (s.rx.get d).arrived then s.lengthError d n else s).modRx d Receiver.toIdle) :=
    (State.KeepsBudget.iteRefl short).trans (State.modRx_keepsBudget _ d _)
  exact .ite (fun _ => idle.trans (close _)) fun _ => idle

theorem State.closeAt_keepsBudget (d : Drop) (w : Word) : s.KeepsBudget (s.closeAt d w) := by
  unfold State.closeAt
  split
  · exact s.modRx_keepsBudget d _
  · exact s.modRx_keepsBudget d _
  · exact s.endWord_keepsBudget d _ w

variable {s} in
theorem State.sendWord_keepsBudget {t : State} {fill : Word} {r : RecordWord} (h : s.sendWord fill r = .next t) :
    s.KeepsBudget t := by
  have sent : ∀ w, s.KeepsBudget (s.sent w) := fun _ => s.modUplink_keepsBudget _
  unfold State.sendWord at h
  split at h
  · cases h; exact sent _
  · cases h; exact (sent _).trans (State.modUplink_keepsBudget _ _)
  · simp only at h
    split at h
    · cases h
      exact ((sent _).trans (State.modShots_keepsBudget _ _)).trans (.foldl State.returnPage_keepsBudget _ _)
    · cases h

theorem State.afterWord_keepsBudget (i n : Nat) : s.KeepsBudget (s.afterWord i n) :=
  .ite (fun _ => s.modUplink_keepsBudget _) fun _ =>
    ((s.modShots_keepsBudget _).trans (State.modUplink_keepsBudget _ _)).trans
      (State.boundaryDecision_keepsBudget _)

/-! ## The lens -/

theorem State.axisLeft_keepsBudget (d : Drop) (ax : Axis) (o : LensOutcome) : s.KeepsBudget (s.axisLeft d ax o) :=
  .of_events (s.axisLeft_frame d ax o) (by decide) (s.axisLeft_queues d ax o)

theorem State.loseBurst_keepsBudget (d : Drop) (b : Burst) : s.KeepsBudget (s.loseBurst d b) :=
  ((s.modLens_keepsBudget d _).trans (State.modAxis_keepsBudget _ d _ _)).trans
    (State.axisLeft_keepsBudget _ d _ _)

theorem State.takeAck_keepsBudget (d : Drop) (a : LensAck) : s.KeepsBudget (s.takeAck d a) := by
  have apply : ∀ (u : State) b, u.KeepsBudget (u.applyAck d b a) := fun u b => by
    unfold State.applyAck
    simp only
    split
    · exact u.modLens_keepsBudget d _
    · exact u.modAxis_keepsBudget d _ _
    · exact ((u.modAxis_keepsBudget d _ _).trans (State.modLens_keepsBudget _ d _)).trans (State.axisLeft_keepsBudget _ d _ _)
  unfold State.takeAck
  split
  · exact s.modLens_keepsBudget d _
  · exact (s.modLens_keepsBudget d _).trans (apply _ _)

theorem State.homeDrop_keepsBudget (r : Request) (d : Drop) (axes : List Axis) : s.KeepsBudget (s.homeDrop r d axes) :=
  .ite (fun _ => s.answer_keepsBudget _ _ _ _) fun _ => .ite (fun _ => s.answer_keepsBudget _ _ _ _) fun _ =>
    (State.KeepsBudget.of_frame (s.startHoming_frame d axes) (by decide)).trans (State.answer_keepsBudget _ _ _ _ _)

theorem State.moveDrop_keepsBudget (k : RequestKind) (r : Request) (d : Drop) (ax : Axis) (n : Int) (v : Bool) :
    s.KeepsBudget (s.moveDrop k r d ax n v) := by
  have ans : ∀ (u : State) c a, u.KeepsBudget (u.answer k.value r c a) := fun u c a => u.answer_keepsBudget _ _ _ _
  exact .ite (fun _ => ans s _ _) fun _ => .ite (fun _ => ans s _ _) fun _ => .ite (fun _ => ans s _ _) fun _ =>
    .ite (fun _ => ans s _ _) fun _ => (s.modAxis_keepsBudget d ax _).trans (ans _ _ _)

theorem State.popDrop_keepsBudget (r : Request) (d : Drop) : s.KeepsBudget (s.popDrop r d) := by
  have ans : ∀ (u : State) k c a, u.KeepsBudget (u.answer k r c a) := fun u k c a => u.answer_keepsBudget _ _ _ _
  refine .ite (fun _ => ans s _ _ _) fun _ => .ite (fun _ => ans s _ _ _) fun _ => ?_
  split
  · exact ans s _ _ _
  · exact .ite (fun _ => ans s _ _ _) fun _ => (s.modLens_keepsBudget d _).trans (ans _ _ _ _)

theorem State.sweepDrop_keepsBudget (r : Request) (d : Drop) : s.KeepsBudget (s.sweepDrop r d) := by
  have ans : ∀ (u : State) k c a, u.KeepsBudget (u.answer k r c a) := fun u k c a => u.answer_keepsBudget _ _ _ _
  exact .ite (fun _ => ans s _ _ _) fun _ => .ite (fun _ => ans s _ _ _) fun _ => .ite (fun _ => ans s _ _ _) fun _ =>
    .ite (fun _ => ans s _ _ _) fun _ => ((State.KeepsBudget.of_frame (s.modSweep_frame d _) (by decide)).trans
      (.of_frame (State.beginPoint_frame _ d) (by decide))).trans (ans _ _ _ _)

theorem State.stopSweep_keepsBudget (d : Drop) (o : SweepOutcome) : s.KeepsBudget (s.stopSweep d o) :=
  .of_events (s.stopSweep_frame d o) (by decide) (s.stopSweep_queues d o)

theorem State.haltLens_keepsBudget (d : Drop) : s.KeepsBudget (s.haltLens d) := by
  have halt : ∀ (u : State) ax, u.KeepsBudget (u.haltAxis d ax) := fun u ax =>
    .of_events (u.haltAxis_frame d ax) (by decide) (u.haltAxis_queues d ax)
  exact (State.KeepsBudget.ite (fun _ => s.stopSweep_keepsBudget d _) fun _ => halt s _).trans (halt _ _)

theorem State.lensLeaveReady_keepsBudget (d : Drop) : s.KeepsBudget (s.lensLeaveReady d) :=
  .of_events (s.lensLeaveReady_frame d) (by decide) (s.lensLeaveReady_queues d)

/-! ## The trigger input -/

theorem State.takeEdge_keepsBudget : s.KeepsBudget s.takeEdge := by
  unfold State.takeEdge
  split
  · exact .refl s
  · exact .ite (fun _ => .refl s) fun _ => .ite (fun _ =>
      (s.modTrig_keepsBudget _).trans (State.modTrig_keepsBudget _ _)) fun _ =>
        ((s.modTrig_keepsBudget _).trans (State.queueNote_keepsBudget _ rfl)).trans (State.modTrig_keepsBudget _ _)

theorem State.riseSeen_keepsBudget : s.KeepsBudget s.riseSeen := by
  have drawn : s.KeepsBudget (match s.cfg with | some _ => s | none => { s with draws := s.draws + 1 }) := by
    split
    · exact .refl s
    · exact .of_same rfl rfl rfl rfl rfl
  exact .ite (fun _ => (drawn.trans (State.modTrig_keepsBudget _ _)).trans (State.takeEdge_keepsBudget _)) fun _ =>
    drawn.trans (State.modTrig_keepsBudget _ _)

/-! ## Drops that stay powered, or stay unpowered -/

variable {s} {d : Drop}

theorem State.enterWarming_keepsBudget (h : (s.drops.get d).state.powered = true) : s.KeepsBudget (s.enterWarming d) :=
  (State.modDrop_staysPowered h rfl).trans (State.modLink_keepsBudget _ d _)

theorem State.enterReady_keepsBudget (h : (s.drops.get d).state.powered = true) : s.KeepsBudget (s.enterReady d) :=
  ((State.modDrop_staysPowered h rfl).trans (.of_frame (State.setRelayed_frame _ d _) (by decide))).trans
    (State.queueEvent_keepsBudget _ _)

theorem State.beatSeen_keepsBudget (s : State) (d : Drop) : s.KeepsBudget (s.beatSeen d) := by
  refine .iteRefl ?_
  split_ifs with warming lost
  · exact State.enterReady_keepsBudget (by rw [warming]; rfl)
  · exact (State.modDrop_sameState s d _ rfl).trans (State.enterReady_keepsBudget (by simp [lost.1, DropState.powered]))
  · exact .refl s

theorem State.hush_keepsBudget (h : (s.drops.get d).state.powered = true) : s.KeepsBudget (s.hush d) :=
  ((State.modDrop_staysPowered h rfl).trans (State.handMark_keepsBudget _ d _)).trans
    (State.lensLeaveReady_keepsBudget _ d)

theorem State.unhush_keepsBudget (s : State) (d : Drop) : s.KeepsBudget (s.unhush d) := by
  unfold State.unhush
  split
  · rename_i hs
    exact (s.handMark_keepsBudget d _).trans
      (State.enterWarming_keepsBudget (by show (s.drops.get d).state.powered = true; rw [hs]; rfl))
  · exact .refl s

theorem State.loseLock_keepsBudget (s : State) (d : Drop) (o : LossOrder) : s.KeepsBudget (s.loseLock d o) := by
  have unlocked : s.KeepsBudget (s.modLink d LinkPort.unlock) := s.modLink_keepsBudget d _
  have close : ∀ u : State, u.KeepsBudget (u.closeLost d o) := fun u => by
    cases o
    · exact (u.endFragment_keepsBudget d).trans (State.closeOpenParts_keepsBudget _ d _)
    · exact (u.closeOpenParts_keepsBudget d _).trans (State.endFragment_keepsBudget _ d)
  refine .ite (fun ready => unlocked.trans ?_) fun _ => unlocked.trans (State.endFragment_keepsBudget _ d)
  have lost : (s.modLink d LinkPort.unlock).KeepsBudget _ :=
    State.modDrop_staysPowered (d := d) (f := (·.lose ((s.modLink d LinkPort.unlock).timer Config.relockWindowUs)))
      (by rw [State.modLink_drops, ready]; rfl) rfl
  exact ((lost.trans (close _)).trans (State.modLocator_keepsBudget _ _)).trans (State.lensLeaveReady_keepsBudget _ d)

theorem State.settleOff_keepsBudget (hp : (s.drops.get d).state.powered = false)
    (hc : (s.drops.get d).state ≠ .claiming) : s.KeepsBudget (s.settleOff d) :=
  (State.modDrop_toOff hp hc rfl).trans (State.clearHomed_keepsBudget _ d)

theorem State.clearFault_keepsBudget (h : (s.drops.get d).state = .fault) : s.KeepsBudget (s.clearFault d) :=
  (State.modDrop_toOff (by rw [h]; rfl) (by rw [h]; decide) rfl).trans (State.clearHomed_keepsBudget _ d)

theorem State.startPart_keepsBudget (s : State) (n : Half) (p : Part) : s.KeepsBudget (State.startPart n s p) := by
  refine .ite (fun _ => ?_) fun _ => .of_events (s.offerPart_frame _ p) (by decide) (s.offerPart_queues _ p)
  exact ((s.handMark_keepsBudget p.drop _).trans (.of_frame (State.setRelayed_frame _ p.drop _) (by decide))).trans
    (State.modDrop_sameState _ p.drop _ rfl)

end

/-! ## The Line Locator -/

section
variable (s : State)

theorem State.modActive_keepsBudget (f : ActiveRequest → ActiveRequest) : s.KeepsBudget (s.modActive f) :=
  s.modLocator_keepsBudget _

theorem State.queueLocateEnd_keepsBudget (a : ActiveRequest) : s.KeepsBudget (s.queueLocateEnd a) :=
  .iteRefl (s.queueNote_keepsBudget rfl)

theorem State.endRequest_keepsBudget (a : ActiveRequest) : s.KeepsBudget (s.endRequest a) :=
  (((s.queueLocateEnd_keepsBudget a).trans (State.modDrop_sameState _ a.drop _ rfl)).trans
    (State.modLocator_keepsBudget _ _)).trans (State.lookClaims_keepsBudget _)

theorem State.finishRequest_keepsBudget (a : ActiveRequest) (o : LocateOutcome) : s.KeepsBudget (s.finishRequest a o) :=
  (s.endRequest_keepsBudget a).trans (State.queueEvent_keepsBudget _ _)

theorem State.defer_keepsBudget (a : ActiveRequest) : s.KeepsBudget (s.defer a) :=
  .ite (fun _ => (s.modLocator_keepsBudget _).trans (State.finishRequest_keepsBudget _ a _)) fun _ =>
    (s.modActive_keepsBudget _).trans (State.modLocator_keepsBudget _ _)

theorem State.lookBundle_keepsBudget (a : ActiveRequest) : s.KeepsBudget (s.lookBundle a) :=
  .ite (fun _ => (s.queueNote_keepsBudget rfl).trans (State.modActive_keepsBudget _ _)) fun _ =>
    .ite (fun _ => .refl s) fun _ => s.defer_keepsBudget a

theorem State.enterBundle_keepsBudget (a : ActiveRequest) (c : CaptureType) : s.KeepsBudget (s.enterBundle a c) :=
  .ite (fun _ => s.modActive_keepsBudget _) fun _ => (s.modActive_keepsBudget _).trans (State.lookBundle_keepsBudget _ _)

theorem State.holderGone_keepsBudget (b : Nat) : s.KeepsBudget (s.holderGone b) := by
  unfold State.holderGone
  split
  · exact .refl s
  · exact .iteRefl (s.lookBundle_keepsBudget _)

theorem State.startHeard_keepsBudget (st : Station) (b : Nat) : s.KeepsBudget (s.startHeard st b) :=
  .of_frame (s.startHeard_frame st b) (by decide)

theorem State.endHeard_keepsBudget (st : Station) (b : Nat) : s.KeepsBudget (s.endHeard st b) := by
  unfold State.endHeard
  split
  · exact .refl s
  · exact .iteRefl ((s.modLocator_keepsBudget _).trans (State.holderGone_keepsBudget _ b))

theorem State.rivalStart_keepsBudget (b : Nat) : s.KeepsBudget (s.rivalStart b) := by
  unfold State.rivalStart
  split
  · exact .refl s
  · exact .iteRefl (((s.withdraw_keepsBudget _).trans (State.modActive_keepsBudget _ _)).trans
      (State.defer_keepsBudget _ _))

theorem State.startEcho_keepsBudget : s.KeepsBudget s.startEcho := by
  unfold State.startEcho
  split
  · exact s.echoed_keepsBudget.trans (.of_frame (State.ownStart_frame _ _ _) (by decide))
  · exact .refl s

theorem State.endEcho_keepsBudget : s.KeepsBudget s.endEcho := by
  unfold State.endEcho
  split
  · exact (s.echoed_keepsBudget.trans (State.modActive_keepsBudget _ _)).trans (State.endHeard_keepsBudget _ _ _)
  · exact .refl s

theorem State.activate_keepsBudget (e : RequestEntry) (rest : List RequestEntry) : s.KeepsBudget (s.activate e rest) := by
  have hold : ∀ u : State, u.KeepsBudget (u.setHold e.drop) := fun u =>
    have set := u.modDrop_sameState e.drop (fun r => { r with locateHold := true }) rfl
    .ite (fun _ => set.trans (State.stopSweep_keepsBudget _ _ _)) fun _ => set
  have active : ∀ f, s.KeepsBudget ((s.modLocator f).setHold e.drop) := fun f =>
    (s.modLocator_keepsBudget f).trans (hold _)
  exact .ite (fun _ => active _) fun _ => (active _).trans (State.enterBundle_keepsBudget _ _ _)

theorem State.endCapture_keepsBudget (c : Capture) (o : LocateOutcome) (r : Option Reflection) :
    s.KeepsBudget (s.endCapture c o r) := by
  have free : s.KeepsBudget ((s.modLocator fun l => { l with capture := none, settle := .stopped }).unhush c.drop) :=
    (s.modLocator_keepsBudget _).trans (State.unhush_keepsBudget _ _)
  refine State.KeepsBudget.trans ?_ (State.queueEvent_keepsBudget _ _)
  split
  · exact free
  iterate 2 exact free.trans (State.endRequest_keepsBudget _ _)
  · exact free

theorem State.makeRecord_keepsBudget (c : Capture) (r : Reflection) : s.KeepsBudget (s.makeRecord c r) := by
  have report : ∀ (u : State) cs, u.KeepsBudget (u.reportSites c.drop cs) := fun u cs =>
    .of_events (u.reportSites_frame c.drop cs) (by decide) (u.reportSites_queues c.drop cs)
  have entered : ∀ f cs, s.KeepsBudget ((s.modSites c.drop f).reportSites c.drop cs) := fun f cs =>
    (s.modSites_keepsBudget c.drop f).trans (report _ cs)
  have result : ∀ u : State, u.KeepsBudget (u.breakResult c.drop c.trigger r) := fun u =>
    .of_frame (u.breakResult_frame _ _ _) (by decide)
  exact .ite (fun _ => (entered _ _).trans (result _)) fun _ => entered _ _

theorem State.shotDone_keepsBudget (c : Capture) : s.KeepsBudget (s.shotDone c) := by
  refine .ite (fun _ => s.endCapture_keepsBudget _ _ _) fun _ => .ite (fun _ => ?_) fun _ => s.modLocator_keepsBudget _
  unfold State.finishCapture
  simp only
  split
  · exact (s.modLocator_keepsBudget _).trans (State.endCapture_keepsBudget _ _ _ _)
  · exact ((s.modLocator_keepsBudget _).trans (State.makeRecord_keepsBudget _ _ _)).trans
      (State.endCapture_keepsBudget _ _ _ _)

theorem State.haltActive_keepsBudget (a : ActiveRequest) : s.KeepsBudget (s.haltActive a).1 := by
  unfold State.haltActive
  split
  iterate 3 exact (State.KeepsBudget.iteRefl (s.withdraw_keepsBudget _)).trans (State.finishRequest_keepsBudget _ _ _)
  · split
    · exact s.endCapture_keepsBudget _ _ _
    · exact s.finishRequest_keepsBudget _ _
  · dsimp only
    exact s.modLocator_keepsBudget _

theorem State.locateHaltDrop_keepsBudget (r : Request) (d : Drop) : s.KeepsBudget (s.locateHaltDrop r d) := by
  have ans : ∀ (u : State) k c v, u.KeepsBudget (u.answer k r c v) := fun u k c v => u.answer_keepsBudget _ _ _ _
  have count : s.KeepsBudget s.countHalt := s.modLocator_keepsBudget _
  unfold State.locateHaltDrop
  simp only
  split
  · exact ans s _ _ _
  · exact .ite (fun _ => ((count.trans (State.modLocator_keepsBudget _ _)).trans (State.queueEvent_keepsBudget _ _)).trans
      (ans _ _ _ _)) fun _ => ans s _ _ _
  · exact .ite (fun _ => (count.trans (State.haltActive_keepsBudget _ _)).trans (ans _ _ _ _)) fun _ => ans s _ _ _

theorem State.locateDrop_keepsBudget (r : Request) (d : Drop) : s.KeepsBudget (s.locateDrop r d) := by
  have ans : ∀ (u : State) k c v, u.KeepsBudget (u.answer k r c v) := fun u k c v => u.answer_keepsBudget _ _ _ _
  exact .ite (fun _ => ans s _ _ _) fun _ => .ite (fun _ => ans s _ _ _) fun _ => .ite (fun _ => ans s _ _ _) fun _ =>
    (s.modLocator_keepsBudget _).trans (ans _ _ _ _)

theorem State.launch_keepsBudget (a : ActiveRequest) : s.KeepsBudget (s.launch a) := by
  refine .ite (fun _ => s.modLocator_keepsBudget _) fun _ => .ite (fun quiet => ?_) fun _ => .iteRefl ?_
  · exact (State.hush_keepsBudget (by rw [quiet.2]; rfl)).trans (State.modLocator_keepsBudget _ _)
  · exact (s.queueLocateEnd_keepsBudget a).trans (State.modActive_keepsBudget _ _)

/-- The block that queued a dropped note takes it without a change of shares (02 R39, 03 R66). -/
theorem State.tellDropped_keepsBudget (b : NoteBody) : s.KeepsBudget (s.tellDropped b) := by
  unfold State.tellDropped
  split
  · exact s.modTrig_keepsBudget _
  · have count := s.modBudget_keepsBudget (fun b => { b with claimsDropped := bump b.claimsDropped }) rfl rfl
    exact (State.KeepsBudget.ite (fun _ => count.trans (State.setRetry_keepsBudget _ _ _)) fun _ => count).trans
      (State.lookClaims_keepsBudget _)
  · exact .refl s
  · split
    · exact .iteRefl (s.finishRequest_keepsBudget _ _)
    · exact .refl s
  · exact .ite (fun _ => ((s.modActive_keepsBudget _).trans (State.modLocator_keepsBudget _ _)).trans
      (State.holderGone_keepsBudget _ _)) fun _ => s.modActive_keepsBudget _
  all_goals exact .refl s

end

end Sys2Proof.Machine

/-! PROOF. The own held total (O56) at every command: a share is taken at the echo of a granted CLAIM and given up with the
power (03 R54), and everything else keeps it. -/

namespace Sys2Proof.Machine

/-! ## Drops that enter and leave the claim queue, take a share and give it up -/

/-- The drops left in a claim queue that one drop's entry leaves, in order. -/
theorem claimants_without (l : List ClaimEntry) (d : Drop) :
    (l.filter fun e => decide (e.drop ≠ d)).map ClaimEntry.drop =
      (l.map ClaimEntry.drop).filter fun e => decide (e ≠ d) := by
  rw [List.filter_map]; rfl

section
variable {s t : State} {d : Drop}

/-- A drop's entry leaves the claim queue as the drop comes to a state other than CLAIMING. -/
theorem State.BudgetLaw.leaves (h : s.BudgetLaw) (d : Drop) (loaded : s.cfg ≠ none) (cfg : t.cfg = s.cfg)
    (loader : t.loader = s.loader) (others : ∀ e, e ≠ d → (t.drops.get e).state = (s.drops.get e).state)
    (held : t.budget.ownHeld + s.share d = s.budget.ownHeld + t.share d)
    (claims : t.budget.claims = s.budget.claims.filter fun e => decide (e.drop ≠ d))
    (moved : (t.drops.get d).state ≠ .claiming) (cli : t.cli = s.cli) : t.BudgetLaw := by
  have left : t.claimants = s.claimants.filter fun e => decide (e ≠ d) := by
    unfold State.claimants
    rw [claims, claimants_without]
  refine h.move d loaded cfg loader others held (fun e he => ?_) (iff_of_false ?_ moved) ?_ (by rw [cli])
  · rw [left, List.mem_filter]
    exact and_iff_left (decide_eq_true he)
  · rw [left, List.mem_filter]
    exact fun k => of_decide_eq_true k.2 rfl
  · rw [left]; exact h.distinct.filter _

/-- A drop in CLAIMING at the tail of the claim queue, before the look for the next claim (01 R5, 03 R59). -/
def State.claimsAtTail (s : State) (d : Drop) : State :=
  ((s.setDropState d .claiming).clearHomed d).modBudget fun b =>
    { b with claims := (b.claims.filter fun e => decide (e.drop ≠ d)) ++ [⟨d, .sendable⟩] }

theorem State.enterClaiming_eq (s : State) (d : Drop) : s.enterClaiming d = (s.claimsAtTail d).lookClaims := rfl

theorem State.claimsAtTail_claimants (s : State) (d : Drop) :
    (s.claimsAtTail d).claimants = (s.claimants.filter fun e => decide (e ≠ d)) ++ [d] := by
  show List.map ClaimEntry.drop ((s.budget.claims.filter _) ++ _) = _
  rw [List.map_append, claimants_without]; rfl

theorem State.claimsAtTail_state (s : State) (d e : Drop) :
    ((s.claimsAtTail d).drops.get e).state = if e = d then .claiming else (s.drops.get e).state := by
  show ((s.modDrop d fun r => { r with state := .claiming }).drops.get e).state = _
  rw [State.modDrop_drops, PerDrop.get_set]
  split <;> rfl

/-- An unpowered drop enters CLAIMING (01 R5, 03 R59). -/
theorem State.BudgetLaw.enterClaiming (h : s.BudgetLaw) (loaded : s.cfg ≠ none)
    (hp : (s.drops.get d).state.powered = false) : (s.enterClaiming d).BudgetLaw := by
  rw [State.enterClaiming_eq]
  refine State.BudgetLaw.keep ?_ (State.lookClaims_keepsBudget _)
  have own : ((s.claimsAtTail d).drops.get d).state = .claiming := by rw [State.claimsAtTail_state, if_pos rfl]
  refine h.move d loaded rfl rfl (fun e he => ?_) ?_ (fun e he => ?_) (iff_of_true ?_ own) ?_ (.refl _)
  · rw [State.claimsAtTail_state, if_neg he]
  · rw [State.share_unpowered hp, State.share_unpowered (by rw [own]; rfl)]; rfl
  · simp [State.claimsAtTail_claimants, he]
  · simp [State.claimsAtTail_claimants]
  · rw [State.claimsAtTail_claimants]
    refine List.nodup_append.mpr ⟨h.distinct.filter _, List.nodup_singleton d, fun e he x hx => ?_⟩
    rw [List.mem_singleton.mp hx]
    exact of_decide_eq_true (List.mem_filter.mp he).2

theorem State.BudgetLaw.wakeDrop (h : s.BudgetLaw) : (s.wakeDrop d).BudgetLaw := by
  unfold State.wakeDrop
  split
  · rename_i napping
    exact h.enterClaiming (h.loaded (by rw [napping]; decide)) (by rw [napping]; rfl)
  · exact h

theorem State.BudgetLaw.wakeAll (h : s.BudgetLaw) (ds : List Drop) : (s.wakeAll ds).BudgetLaw := by
  induction ds generalizing s with
  | nil => exact h
  | cons d ds ih => exact ih h.wakeDrop

theorem State.BudgetLaw.turnOn (h : s.BudgetLaw) (loaded : s.cfg ≠ none) (hs : (s.drops.get d).state = .off) :
    (s.turnOn d).BudgetLaw :=
  (h.keep (s.modDrop_sameState d (fun r => { r with onIntent := true }) rfl)).enterClaiming loaded
    (by simp [hs, DropState.powered])

/-- A powered drop that loses its power gives up its share at once (01 R4, 03 R54). -/
theorem State.BudgetLaw.powerDown (h : s.BudgetLaw) (hp : (s.drops.get d).state.powered = true) {next : DropState}
    (hn : next.powered = false) (hc : next ≠ .claiming) : (s.powerDown d next).BudgetLaw := by
  have own : ((s.openSwitch d next).drops.get d).state = next := by simp [State.openSwitch]
  have opened : ((s.openSwitch d next).modBudget fun b =>
      { b with ownHeld := b.ownHeld - (s.dropCfg d).allowance }).BudgetLaw := by
    have claiming : ¬d ∈ s.claimants := fun k => by
      have hs := (h.claimants d).mp (State.mem_claimants.mp k)
      rw [hs] at hp; cases hp
    refine h.move d (h.loaded fun k => by rw [k] at hp; cases hp) rfl rfl (fun e he => ?_) ?_ (fun _ _ => .rfl)
      (iff_of_false claiming (by rw [State.modBudget_drops, own]; exact hc)) h.distinct (.refl _)
    · simp [State.openSwitch, he]
    · have share := s.share_le d
      rw [← h.held, State.share_powered hp] at share
      rw [State.share_powered hp, State.share_unpowered (by rw [State.modBudget_drops, own]; exact hn)]
      exact Nat.sub_add_cancel share
  refine opened.keep ?_
  unfold State.powerDown
  dsimp only
  refine .trans ?_ (.ite (fun _ => State.modLocator_keepsBudget _ _) fun _ => .refl _)
  refine .trans ?_ (State.clearHomed_keepsBudget _ d)
  refine .trans ?_ (.ite (fun _ => State.lensLeaveReady_keepsBudget _ d) fun _ => .refl _)
  refine .trans ?_ (State.endFragment_keepsBudget _ d)
  refine .trans ?_ (.ite (fun _ => State.closeOpenParts_keepsBudget _ d _) fun _ => .refl _)
  exact (State.queueRelease_keepsBudget _ d).trans (State.modLink_keepsBudget _ d _)

theorem State.BudgetLaw.enterFault (h : s.BudgetLaw) (hp : (s.drops.get d).state.powered = true) (c : Cause) :
    (s.enterFault d c).BudgetLaw :=
  (h.powerDown hp rfl (by decide)).keep ((State.modDrop_sameState _ d _ rfl).trans (State.queueEvent_keepsBudget _ _))

/-- A powered drop trips (01 R10). -/
theorem State.BudgetLaw.trip (h : s.BudgetLaw) (hp : (s.drops.get d).state.powered = true) (c : TripCause) :
    (s.trip d c).BudgetLaw := by
  have counted := h.keep (s.modDrop_sameState d (fun r =>
    { r with
      tripCount := bump r.tripCount, lastTripCause := some c
      tripSeries := min 3 ((s.drops.get d).tripSeries + 1) }) rfl)
  have powered : ((s.modDrop d fun r =>
      { r with
        tripCount := bump r.tripCount, lastTripCause := some c
        tripSeries := min 3 ((s.drops.get d).tripSeries + 1) }).drops.get d).state.powered = true := by simpa using hp
  unfold State.trip
  simp only
  split
  · exact (counted.powerDown powered rfl (by decide)).keep
      ((State.modDrop_sameState _ d _ rfl).trans (State.queueEvent_keepsBudget _ _))
  · exact counted.enterFault powered _

/-- A sample of the current (01 R8, R9). -/
theorem State.BudgetLaw.sampleCurrent (h : s.BudgetLaw) (n : Nat) : (s.sampleCurrent d n).BudgetLaw := by
  have measured : ∀ x l m, (s.modDrop d (·.measure x l m)).BudgetLaw := fun x l m =>
    h.keep (s.modDrop_sameState d _ rfl)
  unfold State.sampleCurrent
  simp only
  split
  · rename_i hard
    refine (measured _ _ _).trip ?_ _
    simp only [State.hardTrips, Bool.and_eq_true] at hard
    simpa [DropRec.measure] using hard.1
  · exact measured _ _ _

/-- POWER_OFF as it acts (01 R26). -/
theorem State.BudgetLaw.turnOff (h : s.BudgetLaw) : (s.turnOff d).BudgetLaw := by
  unfold State.turnOff
  split <;> rename_i hs
  · exact h
  · refine State.BudgetLaw.keep (s := (s.leaveClaims d).modDrop d fun r =>
      { r with state := .off, cause := none, backoffTimer := .stopped }) ?_ (State.clearHomed_keepsBudget _ d)
    have own : (((s.leaveClaims d).modDrop d fun r =>
      { r with state := .off, cause := none, backoffTimer := .stopped }).drops.get d).state = .off := by simp
    refine h.leaves d (h.loaded (by rw [hs]; decide)) rfl rfl (fun e he => by simp [State.leaveClaims, he]) ?_ rfl
      (by rw [own]; decide) rfl
    rw [State.share_unpowered (by rw [hs]; rfl), State.share_unpowered (by rw [own]; rfl)]; rfl
  iterate 3 exact h.keep (State.settleOff_keepsBudget (by rw [hs]; rfl) (by rw [hs]; decide))
  all_goals exact (h.powerDown (by rw [hs]; rfl) rfl (by decide)).keep (State.modDrop_sameState _ d _ rfl)

/-- A granted claim: the CLAIMING drop takes its share with its power (01 R6, 03 R61). -/
theorem State.BudgetLaw.takeGrant (h : s.BudgetLaw) (hs : (s.drops.get d).state = .claiming) :
    (s.takeGrant d (s.dropCfg d).allowance).BudgetLaw := by
  rw [State.takeGrant_eq]
  refine h.leaves d (h.loaded (by rw [hs]; decide)) rfl rfl (fun e he => ?_) ?_ rfl (by simp) rfl
  · simp [he]
  · rw [State.share_unpowered (by rw [hs]; rfl), State.share_powered (by simp [DropState.powered])]; rfl

/-- The verdict on the own claim, which asks for the drop's allowance (03 R60, R61). -/
theorem State.BudgetLaw.applyVerdict (h : s.BudgetLaw) (d : Drop) {amount : Nat} (ha : amount = (s.dropCfg d).allowance)
    (total : Nat) : (s.applyVerdict d amount total).BudgetLaw := by
  unfold State.applyVerdict
  simp only
  split_ifs with _ granted
  · exact ha ▸ h.takeGrant granted.1
  · exact h.keep ((s.queueRelease_keepsBudget d).trans (State.modBudget_keepsBudget _ _ rfl rfl))
  · have void := s.modBudget_keepsBudget (fun b => { b with claimsVoid := bump b.claimsVoid }) rfl rfl
    exact h.keep (.ite (fun _ => void.trans (State.setRetry_keepsBudget _ d _)) fun _ => void)

/-- The own CLAIM on the line asks for its drop's allowance (03 R60). -/
theorem State.BudgetLaw.claimEcho (h : s.BudgetLaw) {n : QNote} {amount : Nat} {total : Option Nat}
    (hn : s.onLine = some n) (hb : n.body = .claim d amount total) (x : Nat) :
    (s.echoed.applyVerdict d amount x).lookClaims.BudgetLaw := by
  have carries := h.amounts n (List.mem_of_find?_eq_some hn)
  rw [hb] at carries
  exact ((h.keep s.echoed_keepsBudget).applyVerdict d carries x).keep (State.lookClaims_keepsBudget _)

/-! ## Triggers -/

/-- A trigger is handed to the Shot Builder, and wakes the napping drops it involves (06 R109 to R114). -/
theorem State.BudgetLaw.handTrigger (h : s.BudgetLaw) (n : Half) (mask : Byte) (src : Station) :
    (s.handTrigger n mask src).BudgetLaw := by
  have shots : ∀ f, (s.modShots f).BudgetLaw := fun f => h.keep (s.modShots_keepsBudget f)
  unfold State.handTrigger
  simp only
  split_ifs
  · exact h
  · exact (shots _).wakeAll _
  · exact (shots _).wakeAll _
  · have opened := ((shots (·.add (s.newEntry n mask src ((s.involved mask).map s.openingPart)))).keep
      (.foldl (fun u p => u.startPart_keepsBudget n p) ((s.involved mask).map s.openingPart) _)).wakeAll (s.involved mask)
    unfold State.openShot
    simp only
    exact opened.keep (.iteRefl (State.boundaryDecision_keepsBudget _))

theorem State.BudgetLaw.takeTrigger (h : s.BudgetLaw) (n : Half) (mask : Byte) (src : Station) :
    (s.takeTrigger n mask src).BudgetLaw :=
  (h.keep ((s.modTrig_keepsBudget (·.number n)).trans
    (.iteRefl (State.queueEvent_keepsBudget _ _)))).handTrigger n mask src

/-! ## Receipts and requests -/

theorem State.BudgetLaw.hear (h : s.BudgetLaw) (src : Station) {f : State → State}
    (hf : ∀ u : State, u.BudgetLaw → (f u).BudgetLaw) : (s.hear src f).BudgetLaw := by
  unfold State.hear
  split
  · exact h.keep s.ownNumber_keepsBudget
  · exact hf _ (h.keep s.countHeard_keepsBudget)

theorem State.BudgetLaw.takeRequest (h : s.BudgetLaw) (k : RequestKind) (rank : Rank) (r : Request) {f : State → State}
    (hf : ∀ u : State, u.BudgetLaw → (f u).BudgetLaw) : (s.takeRequest k rank r f).BudgetLaw := by
  refine h.hear r.src fun u hu => ?_
  split_ifs
  · exact hu
  · exact hf u hu
  · exact hu.keep (u.answer_keepsBudget _ _ _ _)

theorem State.BudgetLaw.takeDropRequest (h : s.BudgetLaw) (k : RequestKind) (rank : Rank) (r : Request)
    {f : Drop → State → State} (hf : ∀ (d : Drop) (u : State), u.BudgetLaw → (f d u).BudgetLaw) :
    (s.takeDropRequest k rank r f).BudgetLaw := by
  refine h.takeRequest k rank r fun u hu => ?_
  split
  · exact hf _ u hu
  · exact hu.keep (u.answer_keepsBudget _ _ _ _)

theorem State.BudgetLaw.takeLensRequest (h : s.BudgetLaw) (k : RequestKind) (r : Request) (b : Bool)
    {f : Drop → State → State} (hf : ∀ (d : Drop) (u : State), u.KeepsBudget (f d u)) :
    (s.takeLensRequest k r b f).BudgetLaw := by
  refine h.takeDropRequest k _ r fun d u hu => hu.keep ?_
  have ans : ∀ c v, u.KeepsBudget (u.answer k.value r c v) := u.answer_keepsBudget k.value r
  exact .ite (fun _ => ans _ _) fun _ => .ite (fun _ => ans _ _) fun _ => .ite (fun _ => ans _ _) fun _ => hf d u

/-- POWER_ON takes a drop out of OFF where configuration enables it, so after the end of loading (01 R25; 06 R107). -/
theorem State.BudgetLaw.powerOnDrop (h : s.BudgetLaw) (r : Request) (d : Drop) : (s.powerOnDrop r d).BudgetLaw := by
  have ans : ∀ {u : State} c, u.BudgetLaw → (u.answerDrop .powerOn r d c).BudgetLaw := fun c hu =>
    hu.keep (State.answer_keepsBudget _ _ _ _ _)
  unfold State.powerOnDrop
  split
  · exact ans _ h
  · rename_i enabled
    have loaded : s.cfg ≠ none := fun hc => enabled (by unfold State.dropCfg; rw [hc]; rfl)
    split <;> rename_i hs
    · exact ans _ (h.turnOn loaded hs)
    all_goals exact ans _ h

/-! ## Resets and loading -/

/-- A reset hub holds nothing, and no drop claims (03 R54). -/
theorem State.resetAll_budgetLaw (s : State) (pins : Pins) : (s.resetAll pins).BudgetLaw := by
  have off : ∀ d, ((s.resetAll pins).drops.get d).state = .off := fun d => by cases d <;> rfl
  refine State.reset_budgetLaw.keep ⟨fun d => ?_, fun d => ?_, fun d _ => off d, rfl, rfl, rfl, rfl,
    fun h => h.shrink rfl (.refl _) fun _ k => k⟩
  · rw [off, State.reset_drops]; rfl
  · rw [off, State.reset_drops]; rfl

/-- While every drop is OFF the shares come to nothing. -/
theorem State.shares_of_off (off : ∀ d, (s.drops.get d).state = .off) : s.shares = 0 := by
  refine List.sum_eq_zero fun x hx => ?_
  obtain ⟨d, -, rfl⟩ := List.mem_map.mp hx
  exact State.share_unpowered (by rw [off]; rfl)

/-- The configuration takes its values while no drop is out of OFF (12 R206; 06 R107). -/
theorem State.BudgetLaw.load (h : s.BudgetLaw) (hl : s.loader = .loading) (read : EepromRead) :
    (s.load read).BudgetLaw ∧ (s.load read).cfg ≠ none := by
  have frame := s.load_frame read
  have off : ∀ d, (s.drops.get d).state = .off := h.offUntilLoaded (h.loading.mp hl)
  have drops : (s.load read).drops = s.drops := frame.get .drops
  have budget : (s.load read).budget = s.budget := frame.get .budget
  have loaded : (s.load read).cfg ≠ none ∧ (s.load read).loader ≠ .loading := by
    unfold State.load
    split <;> exact ⟨nofun, nofun⟩
  obtain ⟨silent, idle⟩ := h.claimNotes.unloaded (h.loading.mp hl)
  have notes : (s.load read).cli.claimed = [] := by
    rw [show (s.load read).cli = s.cli from frame.get .cli, silent]
  have claimants : (s.load read).claimants = [] := by rw [← idle]; unfold State.claimants; rw [budget]
  have law : (s.load read).ClaimNotesLaw :=
    ⟨by rw [notes]; exact Nat.zero_le 1, fun p hp => (by rw [notes] at hp; cases hp), fun hc => absurd hc loaded.1⟩
  refine ⟨law.budgetLaw ?_ (fun d => ?_) (by rw [claimants]; exact List.nodup_nil) (iff_of_false loaded.2 loaded.1)
    fun hc => absurd hc loaded.1, loaded.1⟩
  · rw [budget, h.held, State.shares_of_off off, State.shares_of_off (by rw [drops]; exact off)]
  · rw [claimants, drops, off]
    exact iff_of_false List.not_mem_nil (by decide)

/-- Drops that stand in OFF are turned on one after the other where configuration asks for it (01 R30). -/
theorem State.BudgetLaw.autoPowers {ds : List Drop} (hn : ds.Nodup) (h : s.BudgetLaw) (loaded : s.cfg ≠ none)
    (off : ∀ d ∈ ds, (s.drops.get d).state = .off) : (ds.foldl State.autoPower s).BudgetLaw := by
  induction ds generalizing s with
  | nil => exact h
  | cons d ds ih =>
    obtain ⟨hd, hn⟩ := List.nodup_cons.mp hn
    have frame := s.autoPower_frame d
    have cfg : (s.autoPower d).cfg = s.cfg := frame.get .cfg
    have turned : (s.autoPower d).BudgetLaw := by
      unfold State.autoPower
      simp only
      split
      · exact h.turnOn loaded (off d List.mem_cons_self)
      · exact h
    refine ih hn turned (by rw [cfg]; exact loaded) fun e he => ?_
    have other : e ≠ d := fun x => hd (x ▸ he)
    rw [(frame.drops e (by simpa using other)).drop]
    exact off e (List.mem_cons_of_mem _ he)

/-- The end of loading (01 R30; 12 R206, R207). -/
theorem State.BudgetLaw.loadEnd (h : s.BudgetLaw) (hl : s.loader = .loading) (read : EepromRead) :
    (Drop.all.foldl State.autoPower (s.load read).announce).BudgetLaw := by
  obtain ⟨law, loaded⟩ := h.load hl read
  have announced := State.announce_keepsBudget (s.load read)
  have drops : (s.load read).drops = s.drops := (s.load_frame read).get .drops
  refine (law.keep announced).autoPowers (by decide) (by rw [announced.cfg]; exact loaded) fun d _ => announced.off d ?_
  rw [drops]
  exact h.offUntilLoaded (h.loading.mp hl) d

end

/-! ## Every command -/

/-- Every command keeps the law of the own held total. -/
theorem State.BudgetLaw.exec {s t : State} (h : s.BudgetLaw) (c : Instr) (he : Machine.exec c s = .next t) :
    t.BudgetLaw := by
  cases c with
  | powerOnReset pins => cases he; exact s.resetAll_budgetLaw pins
  | cellReset src target pins =>
    cases he
    refine h.hear src fun u hu => ?_
    split_ifs
    · exact (u.resetAll_budgetLaw pins).keep (.of_same rfl rfl rfl rfl rfl)
    · exact hu.keep (.of_same rfl rfl rfl rfl rfl)
    · exact hu
  | loadEnd read =>
    cases he
    split_ifs with hl
    · exact h.loadEnd hl read
    · exact h
  | startupWaitEnd => cases he; exact h.keep (.ite (fun _ => .refl s) fun _ => s.modCli_keepsBudget _ (.refl _))
  | noteStart => cases he; exact h.keep (.iteRefl s.startNote_keepsBudget)
  | arbitrationLoss => cases he; exact h.keep (.iteRefl s.loseArbitration_keepsBudget)
  | sendError e =>
    cases he
    split
    · exact h
    · exact h.keep (.ite (fun _ => s.loseArbitration_keepsBudget) fun _ =>
        .ite (fun _ => s.abortNote_keepsBudget.trans (State.keepNote_keepsBudget _ _)) fun _ =>
          (s.abortNote_keepsBudget.trans (State.dropNote_keepsBudget _ _)).trans (State.tellDropped_keepsBudget _ _))
  | noteEcho =>
    cases he
    split
    · exact h.keep (.iteRefl s.echoed_keepsBudget)
    · exact h
  | noteDiscarded f => cases he; exact h.keep (s.modCounters_keepsBudget _)
  | ownNumberHeard => cases he; exact h.keep s.ownNumber_keepsBudget
  | noteHeard src => cases he; exact h.hear src fun _ hu => hu
  | triggerNote note =>
    cases he
    split
    · exact h.hear _ fun u hu => hu.takeTrigger _ _ _
    · unfold State.triggerEcho
      split
      · exact (h.keep (s.echoed_keepsBudget.trans (State.modTrig_keepsBudget _ _))).takeTrigger _ _ _
      · exact h
  | claimReceived src n => cases he; exact h.hear src fun u hu => hu.keep (u.refreshView_keepsBudget _ _)
  | claimEcho =>
    cases he
    split
    · rename_i d amount total hb
      obtain ⟨n, hn, hb⟩ := Option.map_eq_some_iff.mp hb
      exact h.claimEcho hn hb _
    · exact h
  | releaseReceived src n =>
    cases he
    exact h.hear src fun u hu => hu.keep ((u.refreshView_keepsBudget _ _).trans
      (State.releaseHeard_keepsBudget _))
  | releaseEcho =>
    cases he
    split
    · exact h.keep (s.echoed_keepsBudget.trans (State.releaseHeard_keepsBudget _))
    · exact h
  | presenceReceived src p =>
    cases he
    exact h.hear src fun u hu => hu.keep ((u.refreshView_keepsBudget _ _).trans
      (.of_frame (State.setView_frame _ _ _) (by decide)))
  | locateStartNote note =>
    cases he
    split
    · exact h.hear _ fun u hu => hu.keep ((u.startHeard_keepsBudget _ _).trans (State.rivalStart_keepsBudget _ _))
    · exact h.keep s.startEcho_keepsBudget
  | locateEndNote note =>
    cases he
    split
    · exact h.hear _ fun u hu => hu.keep (u.endHeard_keepsBudget _ _)
    · exact h.keep s.endEcho_keepsBudget
  | presenceTimerExpiry => cases he; exact h.keep (.iteRefl s.announce_keepsBudget)
  | retryTimerExpiry d =>
    cases he
    exact h.keep (.iteRefl ((s.setRetry_keepsBudget d _).trans (State.lookClaims_keepsBudget _)))
  | powerOn r => cases he; exact h.takeDropRequest _ _ r fun d u hu => hu.powerOnDrop r d
  | powerOff r =>
    cases he
    refine h.takeDropRequest _ _ r fun d u hu => ?_
    exact (hu.keep (u.modDrop_sameState d (fun r => { r with onIntent := false }) rfl)).turnOff.keep
      (State.answer_keepsBudget _ _ _ _ _)
  | wake r =>
    cases he
    refine h.takeDropRequest _ _ r fun d u hu => ?_
    split
    · exact hu.wakeDrop.keep (State.answer_keepsBudget _ _ _ _ _)
    · exact hu.keep (u.answer_keepsBudget _ _ _ _)
  | clear r =>
    cases he
    exact h.takeDropRequest _ _ r fun d u hu => hu.keep (.ite
      (fun fault => (State.clearFault_keepsBudget fault).trans (State.answer_keepsBudget _ _ _ _ _))
      fun _ => u.answer_keepsBudget _ _ _ _)
  | queryDrop r =>
    cases he
    refine h.takeDropRequest _ _ r fun d u hu => hu.keep ?_
    split
    · exact (State.KeepsBudget.of_frame u.drawIfUnloaded_frame (by decide)).trans (State.answer_keepsBudget _ _ _ _ _)
    · exact u.answer_keepsBudget _ _ _ _
  | powerGood d =>
    cases he
    exact h.keep (.ite (fun hr => State.enterWarming_keepsBudget (by rw [hr.1]; rfl)) fun _ => .refl s)
  | rampWindowExpiry d =>
    cases he
    split_ifs with hr
    · exact h.trip (by rw [hr.1]; rfl) _
    · exact h
  | currentAboveSteady d n => cases he; exact h.sampleCurrent n
  | currentBelowSteady d n => cases he; exact h.sampleCurrent n
  | steadyTripExpiry d =>
    cases he
    split_ifs with hr
    · exact h.trip hr.1 _
    · exact h
  | hardTrip d =>
    cases he
    split_ifs with hr
    · exact h.trip (by simp only [State.hardTrips, Bool.and_eq_true] at hr; exact hr.1) _
    · exact h
  | backoffExpiry d =>
    cases he
    split_ifs with hr
    · have stopped := h.keep (s.modDrop_sameState d (fun r => { r with cause := none, backoffTimer := .stopped }) rfl)
      exact stopped.enterClaiming (h.loaded (by rw [hr.1]; decide)) (by simp [hr.1, DropState.powered])
    · exact h
  | stableTimerExpiry d => cases he; exact h.keep (.iteRefl (s.modDrop_sameState d _ rfl))
  | napTimerExpiry d =>
    cases he
    split_ifs with hr
    · exact (h.powerDown (by rw [hr.1]; rfl) rfl (by decide)).keep (State.queueEvent_keepsBudget _ _)
    · exact h
  | warmTimerExpiry d =>
    cases he
    split_ifs with hr
    · exact h.enterFault (by rw [hr.1]; rfl) _
    · exact h
  | relockWindowExpiry d =>
    cases he
    split_ifs with hr
    · exact h.enterFault (by rw [hr.1]; rfl) _
    · exact h
  | lockLoss d o => cases he; exact h.keep (.iteRefl (s.loseLock_keepsBudget d o))
  | lockTimeout d o => cases he; exact h.keep (.iteRefl (s.loseLock_keepsBudget d o))
  | beat d =>
    cases he
    exact h.keep (.iteRefl ((((s.heardItem_keepsBudget d).trans
      (State.modLink_keepsBudget _ d _)).trans (State.endFragment_keepsBudget _ d)).trans
      (State.beatSeen_keepsBudget _ d)))
  | dataWord d w =>
    change execDataWord d w s = .next t at he
    unfold execDataWord at he
    split at he
    · exact h.keep ((s.heardItem_keepsBudget d).trans (State.dataAt_keepsBudget he))
    · cases he; exact h
  | closeWord d w =>
    cases he
    exact h.keep (.iteRefl ((s.heardItem_keepsBudget d).trans (State.closeAt_keepsBudget _ d w)))
  | shotTimeout n =>
    cases he
    split
    · exact h.keep (.iteRefl (.of_events (s.timeoutEntry_frame n) (by decide) (s.timeoutEntry_queues n)))
    · exact h
  | lensAck d a =>
    cases he
    exact h.keep (.iteRefl ((s.heardItem_keepsBudget d).trans (State.takeAck_keepsBudget _ d a)))
  | ackTimerExpiry d =>
    cases he
    split
    · exact h.keep (.iteRefl (s.loseBurst_keepsBudget d _))
    · exact h
  | lensHome r =>
    cases he
    refine h.takeLensRequest _ r _ fun d u => ?_
    split
    · exact u.homeDrop_keepsBudget r d _
    · exact u.answer_keepsBudget _ _ _ _
  | lensMove r =>
    cases he
    refine h.takeLensRequest _ r _ fun d u => ?_
    split
    · exact u.moveDrop_keepsBudget _ r d _ _ _
    · exact u.answer_keepsBudget _ _ _ _
  | lensNudge r =>
    cases he
    refine h.takeLensRequest _ r _ fun d u => ?_
    split
    · exact u.moveDrop_keepsBudget _ r d _ _ _
    · exact u.answer_keepsBudget _ _ _ _
  | lensHalt r =>
    cases he
    exact h.takeLensRequest _ r _ fun d u => (u.answer_keepsBudget _ _ _ _).trans (State.haltLens_keepsBudget _ d)
  | lensPush r =>
    cases he
    exact h.takeLensRequest _ r _ fun d u => .ite (fun _ => u.answer_keepsBudget _ _ _ _) fun _ =>
      (u.modLens_keepsBudget d _).trans (State.answer_keepsBudget _ _ _ _ _)
  | lensPop r => cases he; exact h.takeLensRequest _ r _ fun d u => u.popDrop_keepsBudget r d
  | queryLens r =>
    cases he
    refine h.takeDropRequest _ _ r fun d u hu => ?_
    split <;> exact hu.keep (u.answer_keepsBudget _ _ _ _)
  | lensSweep r => cases he; exact h.takeLensRequest _ r _ fun d u => u.sweepDrop_keepsBudget r d
  | pointTimerExpiry d =>
    cases he
    exact h.keep (.iteRefl (.of_events (s.beginReturn_frame d) (by decide) (s.beginReturn_queues d)))
  | querySweep r =>
    cases he
    refine h.takeDropRequest _ _ r fun d u hu => ?_
    split <;> exact hu.keep (u.answer_keepsBudget _ _ _ _)
  | triggerInputRise => cases he; exact h.keep (.iteRefl s.riseSeen_keepsBudget)
  | qualifyTimerExpiry =>
    cases he
    exact h.keep (.iteRefl ((s.modTrig_keepsBudget _).trans (State.takeEdge_keepsBudget _)))
  | uplinkWordSent =>
    change execUplinkWordSent s = .next t at he
    unfold execUplinkWordSent at he
    split at he
    · rename_i c e rest i _ _ _
      split at he
      · cases hw : s.sendWord c.station.fillWord (s.recordWord e i) with
        | next u =>
          rw [hw] at he
          cases he
          exact h.keep ((State.sendWord_keepsBudget hw).trans (u.afterWord_keepsBudget i _))
        | fault r => rw [hw] at he; cases he
        | refused r => rw [hw] at he; cases he
      · cases he; exact h
    · cases he; exact h
  | locate r => cases he; exact h.takeDropRequest _ _ r fun d u hu => hu.keep (u.locateDrop_keepsBudget r d)
  | locateHalt r => cases he; exact h.takeDropRequest _ _ r fun d u hu => hu.keep (u.locateHaltDrop_keepsBudget r d)
  | requestActivate =>
    cases he
    split
    · exact h.keep (.iteRefl (s.activate_keepsBudget _ _))
    · exact h
  | quiesceEnd =>
    cases he
    split
    · exact h.keep (.ite (fun _ => .refl s) fun _ => .ite (fun _ => s.enterBundle_keepsBudget _ _) fun _ =>
        .ite (fun _ => .refl s) fun _ => s.enterBundle_keepsBudget _ _)
    · exact h
  | holderExpiry b =>
    cases he
    exact h.keep (.iteRefl ((s.modLocator_keepsBudget _).trans (State.holderGone_keepsBudget _ b)))
  | launchStart =>
    cases he
    split
    · exact h.keep (.iteRefl (s.launch_keepsBudget _))
    · exact h
  | shotComplete samples =>
    cases he
    split
    · exact h.keep (.iteRefl (s.shotDone_keepsBudget _))
    · exact h
  | querySites r =>
    cases he
    refine h.takeDropRequest _ _ r fun d u hu => hu.keep (.ite (fun _ => u.answer_keepsBudget _ _ _ _) fun _ => ?_)
    split
    · exact u.answer_keepsBudget _ _ _ _
    · exact .foldl (fun v p => v.answer_keepsBudget _ _ _ _) _ u
  | clearSites r =>
    cases he
    refine h.takeDropRequest _ _ r fun d u hu => hu.keep ?_
    exact ((u.modSites_keepsBudget d _).trans
      (.of_events (State.reportSites_frame _ d _) (by decide) (State.reportSites_queues _ d _))).trans
      (State.answer_keepsBudget _ _ _ _ _)
  | queryStation r =>
    cases he
    refine h.takeRequest _ _ r fun u hu => hu.keep ?_
    split
    · exact (State.KeepsBudget.of_frame u.drawIfUnloaded_frame (by decide)).trans (State.answer_keepsBudget _ _ _ _ _)
    · exact u.answer_keepsBudget _ _ _ _
  | unknownRequestKind kind r =>
    cases he
    split_ifs
    · exact h
    · exact h.hear r.src fun u hu => hu.keep (.iteRefl (u.answer_keepsBudget _ _ _ _))
  | _ =>
    exact h.keep (.of_frame (exec_frame _ he) (by dsimp only [touchedBy]; decide))

/-- Settles O56: a command's moves of drops are those of `State.BudgetLaw.move`, and all else is `State.KeepsBudget`. -/
theorem everyStepKeepsTheOwnHeldTotal : Obligations.EveryStepKeepsTheOwnHeldTotal := by
  intro s t law hs
  unfold step at hs
  split at hs
  · cases hs; exact law.keep (.of_same rfl rfl rfl rfl rfl)
  · have front : s.withoutFront.BudgetLaw := law.keep (.of_same rfl rfl rfl rfl rfl)
    exact front.exec _ hs

end Sys2Proof.Machine

/-! PROOF. The local trigger input and the numbering of triggers (O22, O23). -/

namespace Sys2Proof.Machine

/-! ## Edges of the local trigger input (04 R73, R74) -/

section
variable {s : State} {c : Configuration}

theorem State.isOrigin_eq_false_iff (hc : s.cfg = some c) :
    s.isOrigin = false ↔ c.station.origin = false ∨ s.stray = true := by
  unfold State.isOrigin
  rw [hc, Bool.and_eq_false_iff, Bool.not_eq_false']

theorem State.someHold_iff :
    s.someHold = true ↔ s.fmm.hold = true ∨ ∃ e ∈ s.view, e.present = true ∧ e.hold = true := by
  simp only [State.someHold, Bool.or_eq_true, List.any_eq_true, Bool.and_eq_true]

theorem State.withholds_iff (c : StationCfg) :
    s.withholds c = true ↔
      s.trig.pendingMask.isSome = true ∨
        (c.respectHolds = true ∧ (s.fmm.hold = true ∨ ∃ e ∈ s.view, e.present = true ∧ e.hold = true)) := by
  unfold State.withholds
  rw [Bool.or_eq_true, Bool.and_eq_true, State.someHold_iff]

theorem State.takeEdge_unloaded (hc : s.cfg = none) : s.takeEdge = s := by
  unfold State.takeEdge
  rw [hc]

theorem State.takeEdge_elsewhere (hc : s.cfg = some c) (ho : s.isOrigin = false) : s.takeEdge = s := by
  unfold State.takeEdge
  rw [hc, ho]
  rfl

theorem State.takeEdge_withheld (hc : s.cfg = some c) (ho : s.isOrigin = true) (hw : s.withholds c.station = true) :
    s.takeEdge =
      s.modTrig fun u => { u with edgeCount := bumpLong u.edgeCount, withheldCount := bump u.withheldCount } := by
  unfold State.takeEdge
  rw [hc, ho]
  exact if_pos hw

theorem State.takeEdge_sent (hc : s.cfg = some c) (ho : s.isOrigin = true) (hw : ¬s.withholds c.station = true) :
    s.takeEdge =
      ((s.modTrig fun u => { u with edgeCount := bumpLong u.edgeCount }).queueNote
        (.trigger none c.station.localMask)).modTrig fun u => { u with pendingMask := some c.station.localMask } := by
  unfold State.takeEdge
  rw [hc, ho]
  exact if_neg hw

/-- An origin hub is not stray, so the TRIGGER note of an edge joins its queue (02 R44). -/
theorem State.takeEdge_edgeTaken (s : State) : s.EdgeTaken s.takeEdge := by
  unfold State.EdgeTaken
  dsimp only
  split
  next hc => exact State.takeEdge_unloaded hc
  next c hc =>
    have origin := State.isOrigin_eq_false_iff hc
    by_cases ho : c.station.origin = false ∨ s.stray = true
    · rw [if_pos ho]
      exact State.takeEdge_elsewhere hc (origin.mpr ho)
    rw [if_neg ho]
    have acts : s.isOrigin = true := eq_true_of_ne_false (mt origin.mp ho)
    have stray : s.stray = false := eq_false_of_ne_true fun h => ho (.inr h)
    by_cases hw : s.withholds c.station = true
    · rw [if_pos ((State.withholds_iff _).mp hw)]
      exact State.takeEdge_withheld hc acts hw
    · rw [if_neg (mt (State.withholds_iff _).mpr hw), State.takeEdge_sent hc acts hw,
        State.queueNote_joins (s := s.modTrig _) stray]
      rfl

/-- With a qualify time of 0 the rise is an edge at once (04 R73). -/
theorem exec_triggerInputRise_edge (hc : s.cfg = some c) (hl : s.trig.inputLevel = .low)
    (hq : c.station.qualifyUs = 0) :
    exec .triggerInputRise s = .next (s.modTrig fun u => { u with inputLevel := .high }).takeEdge := by
  refine congrArg Host.Outcome.next ((if_pos hl).trans ?_)
  unfold State.riseSeen State.qualifyTime
  rw [hc]
  exact if_pos hq

/-- With any other qualify time the rise starts the qualify timer (04 R73). -/
theorem exec_triggerInputRise_qualifying (hc : s.cfg = some c) (hl : s.trig.inputLevel = .low)
    (hq : c.station.qualifyUs ≠ 0) :
    exec .triggerInputRise s = .next
      (s.modTrig fun u => { u with inputLevel := .qualifying, qualifyTimer := .running s.now c.station.qualifyUs }) := by
  refine congrArg Host.Outcome.next ((if_pos hl).trans ?_)
  unfold State.riseSeen State.qualifyTime
  rw [hc]
  exact if_neg hq

theorem exec_qualifyTimerExpiry (hl : s.trig.inputLevel = .qualifying) (ht : s.trig.qualifyTimer.isRunning = true) :
    exec .qualifyTimerExpiry s = .next
      (s.modTrig fun u => { u with inputLevel := .high, qualifyTimer := .stopped }).takeEdge :=
  congrArg Host.Outcome.next (if_pos ⟨hl, ht⟩)

/-- Neither reset keeps the Trigger Unit (04 R71). -/
theorem State.ResetTo.trig {t : State} {pins : Pins} {kept : List Block} (h : s.ResetTo t pins kept)
    (hk : .trig ∉ kept) : t.trig = resetTrigger :=
  h.blocks .trig fun hm => (List.mem_append.mp hm).elim (by decide) hk

end

/-- Settles O22: each command's equation, with `State.takeEdge_edgeTaken` for what an edge comes to and the Trigger Unit's
values after a reset. -/
theorem inputLevelsGiveEdges : Obligations.InputLevelsGiveEdges := by
  intro s u
  refine ⟨fun c hc hl => ⟨fun hq => ?_, exec_triggerInputRise_qualifying hc hl⟩,
    fun hl => congrArg Host.Outcome.next (if_neg hl), rfl, fun hl ht => ?_, fun pins t ht => ?_,
    fun src target pins t hf addressed service ht => ?_⟩
  · exact ⟨_, exec_triggerInputRise_edge hc hl hq, State.takeEdge_edgeTaken _⟩
  · exact ⟨_, exec_qualifyTimerExpiry hl ht, State.takeEdge_edgeTaken _⟩
  · have run : exec (.powerOnReset pins) s = .next (s.resetAll pins) := rfl
    obtain rfl : s.resetAll pins = t := Host.Outcome.next.inj (run.symm.trans ht)
    rw [(s.resetAll_resetTo pins).trig (by decide)]
    exact ⟨rfl, rfl⟩
  · rw [exec_cellReset hf, if_pos addressed, if_pos service] at ht
    obtain rfl := Host.Outcome.next.inj ht
    rw [(s.cellReset_resetTo pins).trig (by decide)]
    exact ⟨rfl, rfl⟩

/-! ## Numbered triggers (04 R76 to R79) -/

section
variable {s : State}

theorem State.queueEvent_modTrig (s : State) (f : TriggerUnit → TriggerUnit) (e : Event) :
    (s.modTrig f).queueEvent e = (s.queueEvent e).modTrig f := by
  unfold State.queueEvent State.queueNote
  rw [State.stray_of (State.modTrig_station s f)]
  split <;> rfl

/-- A slip: a number was expected, and the note's is another (04 R77). -/
theorem TriggerUnit.slips_iff (u : TriggerUnit) (n : Half) :
    (u.synced && decide (n ≠ u.expected)) = true ↔ u.synced = true ∧ n ≠ u.expected := by
  rw [Bool.and_eq_true, decide_eq_true_iff]

theorem TriggerUnit.number_eq (u : TriggerUnit) (n : Half) :
    u.number n =
      { u with
        expected := n + 1
        synced := true
        slipCount := if u.synced = true ∧ n ≠ u.expected then bump u.slipCount else u.slipCount
        triggerCount := bumpLong u.triggerCount } := by
  unfold TriggerUnit.number
  rw [if_congr (u.slips_iff n) rfl rfl]

section
variable {n : Half} (mask : Byte) (src : Station)

theorem State.takeTrigger_slipped (h : s.trig.synced = true ∧ n ≠ s.trig.expected) :
    s.takeTrigger n mask src =
      ((s.queueEvent (.slip s.trig.expected n)).modTrig (·.number n)).handTrigger n mask src :=
  congrArg (State.handTrigger · n mask src)
    ((if_pos ((s.trig.slips_iff n).mpr h)).trans (s.queueEvent_modTrig _ _))

theorem State.takeTrigger_inStep (h : ¬(s.trig.synced = true ∧ n ≠ s.trig.expected)) :
    s.takeTrigger n mask src = (s.modTrig (·.number n)).handTrigger n mask src :=
  congrArg (State.handTrigger · n mask src) (if_neg (mt (s.trig.slips_iff n).mp h))

end

/-- The report of a slip reaches the transmit queue alone, so the numbering may stand behind it (04 R77 to R79). -/
theorem State.takeTrigger_eq (s : State) (n : Half) (mask : Byte) (src : Station) :
    s.takeTrigger n mask src =
      State.handTrigger
        { (if s.trig.synced = true ∧ n ≠ s.trig.expected then s.queueEvent (.slip s.trig.expected n) else s) with
          trig := s.trig.number n }
        n mask src := by
  by_cases slip : s.trig.synced = true ∧ n ≠ s.trig.expected
  · have trig : (s.queueEvent (.slip s.trig.expected n)).trig = s.trig := (s.queueEvent_frame _).get .trig
    rw [State.takeTrigger_slipped mask src slip, if_pos slip, State.modTrig, trig]
  · rw [State.takeTrigger_inStep mask src slip, if_neg slip]
    rfl

theorem State.ownStation_of {src : Station} (h : src.val = s.station) : s.ownStation = some src := by
  unfold State.ownStation
  rw [dif_pos (h ▸ src.isLt)]
  exact congrArg some (Fin.ext h.symm)

/-- The own echo ends the pending note, and the trigger is taken as one of the own station (04 R76). -/
theorem exec_triggerNote_echo {q : QNote} {n : Half} {mask : Byte} {src : Station} (hq : s.onLine = some q)
    (hb : q.body = .trigger (some n) mask) (hs : src.val = s.station) :
    exec (.triggerNote .echo) s = .next ((s.echoed.modTrig TriggerUnit.endPending).takeTrigger n mask src) := by
  refine congrArg Host.Outcome.next ?_
  have body : s.onLine.map QNote.body = some (.trigger (some n) mask) := by rw [hq, Option.map_some, hb]
  show s.triggerEcho = _
  unfold State.triggerEcho
  rw [body, State.ownStation_of hs]

end

/-- Settles O23: a note heard and the own echo are both taken by `State.takeTrigger_eq`, the echo after the pending note's
end. -/
theorem triggerNotesAreNumbered : Obligations.TriggerNotesAreNumbered := by
  intro s numbered
  have taken : ∀ (base : State) (n : Half) (mask : Byte) (src : Station),
      base.takeTrigger n mask src = (numbered base n).handTrigger n mask src := by
    intro base n mask src
    rw [State.takeTrigger_eq, TriggerUnit.number_eq]
  refine ⟨fun src n mask hf => ?_, fun q n mask src hq hb hs => ?_, fun n mask => rfl⟩
  · exact congrArg Host.Outcome.next ((State.hear_foreign src _ hf).trans (taken s.countHeard n mask src))
  · exact (exec_triggerNote_echo hq hb hs).trans (congrArg Host.Outcome.next (taken _ n mask src))

end Sys2Proof.Machine

/-! PROOF. The frame memory, the shot table and the record in progress (O55), their laws: what of the state they read, and
what a change must keep of it. -/

namespace Sys2Proof.Machine

/-! ## The laws together, and what they read -/

/-- The laws of the frame memory, the shot table, the receive contexts and the record in progress: every command keeps all
of them, and none keeps one without the others. -/
structure State.StoreLaw (s : State) : Prop where
  memory : s.MemoryLaw
  shots : s.ShotLaw
  rx : s.RxLaw
  record : s.RecordLaw

/-- What the frame memory and the record read of a part. -/
def Part.stock (p : Part) : Drop × Nat × List Nat := (p.drop, p.words, p.chain)

/-- What the frame memory and the record read of an entry. -/
def Entry.stock (e : Entry) : Bool × List (Drop × Nat × List Nat) := (decide (e.state = .sending), e.parts.map Part.stock)

/-- What all the laws read of a part. -/
def Part.outline (p : Part) : Bool × Drop × Nat × List Nat := (p.status.isOpen, p.stock)

/-- What all the laws read of an entry. -/
def Entry.outline (e : Entry) : Half × EntryState × Bool × List (Bool × Drop × Nat × List Nat) :=
  (e.trigger, e.state, e.age.isRunning, e.parts.map Part.outline)

/-- From `s` to `t` nothing changes that the frame memory's law and the record's law read. -/
structure State.KeepsStock (s t : State) : Prop where
  free : t.fmm.freeList = s.fmm.freeList
  count : t.fmm.freeCount = s.fmm.freeCount
  mem : Memory.wf s.fmm.mem = true → Memory.wf t.fmm.mem = true
  table : t.shots.table.map Entry.stock = s.shots.table.map Entry.stock
  loader : t.loader = s.loader
  cfg : t.cfg = s.cfg
  record : t.uplink.record = s.uplink.record

/-- From `s` to `t` nothing changes that any of the laws reads, but for contexts that leave IN. -/
structure State.KeepsStore (s t : State) : Prop where
  stock : s.KeepsStock t
  table : t.shots.table.map Entry.outline = s.shots.table.map Entry.outline
  modes : ∀ d n, (t.rx.get d).mode = .inside n → (s.rx.get d).mode = .inside n

section
variable {s t u : State} {x y : Entry} {p q : Part} {d : Drop} {n : Half}

theorem Part.stock_drop (h : p.stock = q.stock) : p.drop = q.drop := congrArg Prod.fst h

theorem Part.stock_words (h : p.stock = q.stock) : p.words = q.words := congrArg (fun x => x.2.1) h

theorem Part.stock_chain (h : p.stock = q.stock) : p.chain = q.chain := congrArg (fun x => x.2.2) h

theorem Entry.stock_parts (h : x.stock = y.stock) : x.parts.map Part.stock = y.parts.map Part.stock := congrArg Prod.snd h

theorem Entry.stock_sending (h : x.stock = y.stock) : x.state = .sending ↔ y.state = .sending := by
  have := congrArg Prod.fst h
  simpa [Entry.stock] using this

theorem Entry.stock_chains (h : x.stock = y.stock) : x.parts.map Part.chain = y.parts.map Part.chain := by
  have := congrArg (List.map fun z : Drop × Nat × List Nat => z.2.2) (Entry.stock_parts h)
  simpa [Part.stock, Function.comp_def] using this

/-- Equal outlines are equal stocks. -/
theorem Entry.stock_of_outline {l m : List Entry} (h : l.map Entry.outline = m.map Entry.outline) :
    l.map Entry.stock = m.map Entry.stock := by
  have := congrArg (List.map fun z : Half × EntryState × Bool × List (Bool × Drop × Nat × List Nat) =>
    (decide (z.2.1 = .sending), z.2.2.2.map Prod.snd)) h
  simp only [List.map_map, Function.comp_def, Entry.outline, Part.outline] at this
  exact this

/-! ## Changes compose -/

theorem State.KeepsStock.refl (s : State) : s.KeepsStock s := ⟨rfl, rfl, fun h => h, rfl, rfl, rfl, rfl⟩

theorem State.KeepsStock.trans (h : s.KeepsStock t) (k : t.KeepsStock u) : s.KeepsStock u :=
  ⟨k.free.trans h.free, k.count.trans h.count, fun w => k.mem (h.mem w), k.table.trans h.table, k.loader.trans h.loader,
    k.cfg.trans h.cfg, k.record.trans h.record⟩

theorem State.KeepsStore.refl (s : State) : s.KeepsStore s := ⟨.refl s, rfl, fun _ _ h => h⟩

theorem State.KeepsStore.trans (h : s.KeepsStore t) (k : t.KeepsStore u) : s.KeepsStore u :=
  ⟨h.stock.trans k.stock, k.table.trans h.table, fun d n m => h.modes d n (k.modes d n m)⟩

theorem State.KeepsStore.foldl {β : Type} {f : State → β → State} (h : ∀ (s : State) (b : β), s.KeepsStore (f s b)) :
    ∀ (bs : List β) (s : State), s.KeepsStore (bs.foldl f s)
  | [], s => .refl s
  | b :: bs, s => (h s b).trans (State.KeepsStore.foldl h bs (f s b))

theorem State.KeepsStore.ite {c : Prop} [Decidable c] (h : c → s.KeepsStore t) (k : ¬c → s.KeepsStore u) :
    s.KeepsStore (if c then t else u) := by
  split
  · exact h ‹_›
  · exact k ‹_›

theorem State.KeepsStore.iteRefl {c : Prop} [Decidable c] (h : s.KeepsStore t) : s.KeepsStore (if c then t else s) :=
  .ite (fun _ => h) fun _ => .refl s

/-- The fields of the state that the laws read. -/
def storeBlocks : List Block := [.fmm, .rx, .shots, .uplink, .loader, .cfg]

/-- What touches none of the fields keeps the laws. -/
theorem State.KeepsStore.of_frame {l : List Block} {ds : List Drop} (h : s.ChangesOnly t l ds)
    (k : (storeBlocks.all fun b => !l.contains b) = true) : s.KeepsStore t := by
  have get : ∀ b ∈ storeBlocks, b.same s t := fun b hb =>
    h.fields b fun m => by simpa [List.contains_eq_mem, m] using List.all_eq_true.mp k b hb
  have fmm : t.fmm = s.fmm := get .fmm (by decide)
  have rx : t.rx = s.rx := get .rx (by decide)
  have shots : t.shots = s.shots := get .shots (by decide)
  have uplink : t.uplink = s.uplink := get .uplink (by decide)
  exact ⟨⟨by rw [fmm], by rw [fmm], by rw [fmm]; exact fun w => w, by rw [shots], get .loader (by decide),
    get .cfg (by decide), by rw [uplink]⟩, by rw [shots], by rw [rx]; exact fun _ _ m => m⟩

/-! ## The frame memory -/

/-- The pages of the chains, from the stocks of the entries. -/
theorem State.chained_eq (s : State) :
    s.chained = (s.shots.table.map Entry.stock).flatMap fun x => x.2.flatMap fun y => y.2.2 := by
  simp [State.chained, Entry.stock, Part.stock, List.flatMap_map]

/-- The law of the frame memory survives where pages only change places between the free list and the chains. -/
theorem State.MemoryLaw.of_perm (h : s.MemoryLaw) (wf : Memory.wf t.fmm.mem = true)
    (count : t.fmm.freeCount = t.fmm.freeList.length)
    (perm : (t.fmm.freeList ++ t.chained).Perm (s.fmm.freeList ++ s.chained)) : t.MemoryLaw where
  wf := wf
  count := count
  pages p hp := h.pages p (perm.mem_iff.mp hp)
  once := perm.nodup_iff.mpr h.once
  all := by
    have := perm.length_eq
    rw [List.length_append, List.length_append] at this
    exact this.trans h.all

theorem State.MemoryLaw.keep (h : s.MemoryLaw) (k : s.KeepsStock t) : t.MemoryLaw :=
  h.of_perm (k.mem h.wf) (by rw [k.count, k.free]; exact h.count) (by
    rw [State.chained_eq, State.chained_eq, k.table, k.free])

/-! ## The shot table -/

theorem State.ShotLaw.keep (h : s.ShotLaw) (k : t.shots.table.map Entry.outline = s.shots.table.map Entry.outline) :
    t.ShotLaw := by
  have same : ∀ y ∈ t.shots.table, ∃ x ∈ s.shots.table, x.outline = y.outline := fun y hy =>
    List.mem_map.mp (k ▸ List.mem_map_of_mem hy)
  have parts : ∀ {x y : Entry}, x.outline = y.outline → x.parts.map Part.outline = y.parts.map Part.outline :=
    fun o => congrArg (fun z => z.2.2.2) o
  have drops : ∀ {x y : Entry}, x.outline = y.outline → x.parts.map Part.drop = y.parts.map Part.drop := by
    intro x y o
    have := congrArg (List.map fun z : Bool × Drop × Nat × List Nat => z.2.1) (parts o)
    simpa [Part.outline, Part.stock, Function.comp_def] using this
  have opened : ∀ {x y : Entry}, x.outline = y.outline → x.hasOpenPart = y.hasOpenPart := by
    intro x y o
    have := congrArg (List.any · Prod.fst) (parts o)
    simpa [Part.outline, Entry.hasOpenPart, List.any_map, Function.comp_def] using this
  have state : ∀ {x y : Entry}, x.outline = y.outline → x.state = y.state := fun o => congrArg (fun z => z.2.1) o
  have age : ∀ {x y : Entry}, x.outline = y.outline → x.age.isRunning = y.age.isRunning :=
    fun o => congrArg (fun z => z.2.2.1) o
  constructor
  · have := congrArg List.length k
    rw [List.length_map, List.length_map] at this
    rw [this]; exact h.size
  · have := congrArg (List.map Prod.fst) k
    simp only [List.map_map, Function.comp_def, Entry.outline] at this
    rw [show t.shots.table.map Entry.trigger = s.shots.table.map Entry.trigger from this]
    exact h.numbers
  · intro y hy
    obtain ⟨x, hx, o⟩ := same y hy
    rw [← drops o]; exact h.drops x hx
  · intro y hy
    obtain ⟨x, hx, o⟩ := same y hy
    rw [← state o, ← opened o]; exact h.opened x hx
  · intro y hy
    obtain ⟨x, hx, o⟩ := same y hy
    rw [← state o, ← age o]; exact h.aged x hx

/-! ## The receive contexts -/

/-- The part of a shot and a drop, in outline. -/
theorem State.part_outline (k : t.shots.table.map Entry.outline = s.shots.table.map Entry.outline) (n : Half) (d : Drop) :
    (t.part n d).map Part.outline = (s.part n d).map Part.outline := by
  have entry : ∀ u : State, (u.findEntry n).map Entry.outline =
      (u.shots.table.map Entry.outline).find? fun z => decide (z.1 = n) := by
    intro u
    rw [List.find?_map]; rfl
  have part : ∀ x : Entry, (x.part d).map Part.outline = (x.parts.map Part.outline).find? fun z => decide (z.2.1 = d) := by
    intro x
    rw [List.find?_map]; rfl
  have bind : ∀ u : State, (u.part n d).map Part.outline =
      ((u.findEntry n).map Entry.outline).bind fun z => z.2.2.2.find? fun z => decide (z.2.1 = d) := by
    intro u
    unfold State.part
    cases u.findEntry n with
    | none => rfl
    | some x => exact part x
  rw [bind t, bind s, entry t, entry s, k]

/-- A context in IN keeps its open part where no part that was open is lost. -/
theorem State.RxLaw.of_open (h : s.RxLaw) (modes : ∀ d n, (t.rx.get d).mode = .inside n → (s.rx.get d).mode = .inside n)
    (parts : ∀ d n p, (t.rx.get d).mode = .inside n → s.part n d = some p → p.status.isOpen = true →
      ∃ q, t.part n d = some q ∧ q.status.isOpen = true) : t.RxLaw := by
  intro d n m
  obtain ⟨p, hp, ho⟩ := h d n (modes d n m)
  exact parts d n p m hp ho

theorem State.RxLaw.keep (h : s.RxLaw) (k : s.KeepsStore t) : t.RxLaw := by
  refine h.of_open k.modes fun d n p _ hp ho => ?_
  have o := State.part_outline k.table n d
  rw [hp, Option.map_some, Option.map_eq_some_iff] at o
  obtain ⟨q, hq, e⟩ := o
  exact ⟨q, hq, (congrArg Prod.fst e).trans ho⟩

/-! ## The record in progress -/

/-- The record of an entry stands before a word: its parts have the pages still owed (07 R133). -/
structure State.AtWord (s : State) (i : Nat) (e : Entry) : Prop where
  sending : e.state = .sending
  pages : ∀ before p after, e.parts = before ++ p :: after → p.chain.length = s.pagesLeft p (i - s.dataStart e before)

/-- The law of the record survives a change of entries, one by one, that keeps the pages owed. -/
theorem State.RecordLaw.carry (h : s.RecordLaw) (loader : t.loader = s.loader) (cfg : t.cfg = s.cfg)
    (record : t.uplink.record = s.uplink.record)
    (table : List.Forall₂ (fun x y : Entry => (x.Unsent → y.Unsent) ∧ ∀ i, s.AtWord i x → i < s.dataStart x x.parts →
      t.AtWord i y ∧ i < t.dataStart y y.parts) s.shots.table t.shots.table) : t.RecordLaw := by
  have unsent : ∀ {l m : List Entry}, List.Forall₂ (fun x y : Entry => (x.Unsent → y.Unsent) ∧ ∀ i, s.AtWord i x →
      i < s.dataStart x x.parts → t.AtWord i y ∧ i < t.dataStart y y.parts) l m →
      (∀ x ∈ l, x.Unsent) → ∀ y ∈ m, y.Unsent := by
    intro l m f
    induction f with
    | nil => intro _ y hy; cases hy
    | cons xy _ ih =>
      intro hl y hy
      rcases List.mem_cons.mp hy with rfl | hy
      · exact xy.1 (hl _ List.mem_cons_self)
      · exact ih (fun x hx => hl x (List.mem_cons_of_mem _ hx)) y hy
  refine ⟨by rw [loader, cfg]; exact h.loading, fun hc => ?_, fun d => ?_, fun hr => ?_, fun i hr => ?_⟩
  · obtain ⟨ht, hr⟩ := h.unloaded (cfg ▸ hc)
    rw [ht] at table
    exact ⟨List.forall₂_nil_left_iff.mp table, record.trans hr⟩
  · rw [State.dropCfg_of cfg]; exact h.frames d
  · exact unsent table (h.between (record ▸ hr))
  · obtain ⟨x, rest, ht, hs, hi, hrest, hp⟩ := h.within i (record ▸ hr)
    rw [ht] at table
    cases hm : t.shots.table with
    | nil => rw [hm] at table; cases table
    | cons y rest' =>
      rw [hm] at table
      cases table with
      | cons xy tail =>
        obtain ⟨⟨hs', hp'⟩, hi'⟩ := xy.2 i ⟨hs, hp⟩ hi
        exact ⟨y, rest', rfl, hs', hi', unsent tail hrest, hp'⟩

theorem State.dataStart_of_stock (cfg : t.cfg = s.cfg) (len : y.parts.length = x.parts.length) {l m : List Part}
    (h : m.map Part.stock = l.map Part.stock) : t.dataStart y m = s.dataStart x l := by
  have := congrArg (List.map fun z : Drop × Nat × List Nat => if z.2.1 = 0 then 0 else (s.dropCfg z.1).frameSize) h
  simp only [List.map_map, Function.comp_def, Part.stock] at this
  unfold State.dataStart
  rw [len]
  simp only [State.dropCfg_of cfg]
  exact congrArg (fun z => 2 + 7 * x.parts.length + List.sum z) this

theorem Entry.Unsent.of_stock (h : x.Unsent) (k : y.stock = x.stock) : y.Unsent := by
  refine ⟨fun hs => h.1 ((Entry.stock_sending k).mp hs), fun q hq => ?_⟩
  obtain ⟨p, hp, e⟩ := List.mem_map.mp (Entry.stock_parts k ▸ List.mem_map_of_mem hq)
  rw [← Part.stock_chain e, ← Part.stock_words e]
  exact h.2 p hp

theorem State.AtWord.of_stock {i : Nat} (h : s.AtWord i x) (cfg : t.cfg = s.cfg) (k : y.stock = x.stock) : t.AtWord i y := by
  have parts := Entry.stock_parts k
  have len : y.parts.length = x.parts.length := by simpa using congrArg List.length parts
  refine ⟨(Entry.stock_sending k).mpr h.sending, fun before p after hy => ?_⟩
  rw [hy, List.map_append, List.map_cons] at parts
  obtain ⟨before', rest, hx, hb, hr⟩ := List.map_eq_append_iff.mp parts.symm
  obtain ⟨q, after', rfl, hq, -⟩ := List.map_eq_cons_iff.mp hr
  have hw := h.pages before' q after' hx
  rw [State.dataStart_of_stock cfg len hb.symm, ← Part.stock_chain hq, hw]
  unfold State.pagesLeft
  rw [State.dropCfg_of cfg, Part.stock_words hq, Part.stock_drop hq]

theorem State.RecordLaw.keep (h : s.RecordLaw) (k : s.KeepsStock t) : t.RecordLaw := by
  refine h.carry k.loader k.cfg k.record ?_
  have table : List.Forall₂ (fun x y : Entry => y.stock = x.stock) s.shots.table t.shots.table := by
    have := k.table.symm
    rw [← List.forall₂_eq_eq_eq, List.forall₂_map_left_iff, List.forall₂_map_right_iff] at this
    exact this.imp fun _ _ e => e.symm
  refine table.imp fun x y e => ⟨fun h => h.of_stock e, fun i hi hl => ⟨hi.of_stock k.cfg e, ?_⟩⟩
  have len : y.parts.length = x.parts.length := by simpa using congrArg List.length (Entry.stock_parts e)
  rwa [State.dataStart_of_stock k.cfg len (Entry.stock_parts e)]

theorem State.RecordLaw.congr (h : s.RecordLaw) (table : t.shots.table = s.shots.table) (loader : t.loader = s.loader)
    (cfg : t.cfg = s.cfg) (record : t.uplink.record = s.uplink.record) : t.RecordLaw := by
  refine h.carry loader cfg record ?_
  rw [table, List.forall₂_same]
  exact fun x _ => ⟨fun k => k, fun i hi hl => ⟨hi.of_stock cfg rfl, by rwa [State.dataStart_of_stock cfg rfl rfl]⟩⟩

/-- A change that keeps what the laws read keeps the laws. -/
theorem State.StoreLaw.keep (h : s.StoreLaw) (k : s.KeepsStore t) : t.StoreLaw :=
  ⟨h.memory.keep k.stock, h.shots.keep k.table, h.rx.keep k, h.record.keep k.stock⟩

end

end Sys2Proof.Machine

/-! PROOF. The frame memory, the shot table and the record in progress (O55): the operations that change nothing the laws
read, and the closing of parts (06 R119 to R122). -/

namespace Sys2Proof.Machine

section
variable (s : State)

/-! ## Updates that keep the laws -/

theorem State.modRx_keepsStore (d : Drop) (f : Receiver → Receiver)
    (h : ∀ n, (f (s.rx.get d)).mode = .inside n → (s.rx.get d).mode = .inside n) : s.KeepsStore (s.modRx d f) := by
  refine ⟨⟨rfl, rfl, fun w => w, rfl, rfl, rfl, rfl⟩, rfl, fun e n m => ?_⟩
  rw [State.modRx_rx, PerDrop.get_set] at m
  by_cases he : e = d
  · rw [if_pos he] at m
    rw [he]; exact h n m
  · rwa [if_neg he] at m

theorem State.modUplink_keepsStore (f : Uplink → Uplink) (h : (f s.uplink).record = s.uplink.record) :
    s.KeepsStore (s.modUplink f) :=
  ⟨⟨rfl, rfl, fun w => w, rfl, rfl, rfl, h⟩, rfl, fun _ _ m => m⟩

theorem State.modShots_keepsStore (f : Shots → Shots) (h : (f s.shots).table = s.shots.table) :
    s.KeepsStore (s.modShots f) :=
  ⟨⟨rfl, rfl, fun w => w, congrArg _ h, rfl, rfl, rfl⟩, congrArg _ h, fun _ _ m => m⟩

theorem State.modFmm_keepsStore (f : FrameMemory → FrameMemory) (free : (f s.fmm).freeList = s.fmm.freeList)
    (count : (f s.fmm).freeCount = s.fmm.freeCount)
    (mem : Memory.wf s.fmm.mem = true → Memory.wf (f s.fmm).mem = true) : s.KeepsStore (s.modFmm f) :=
  ⟨⟨free, count, mem, rfl, rfl, rfl, rfl⟩, rfl, fun _ _ m => m⟩

theorem State.modEntry_table (n : Half) (f : Entry → Entry) :
    (s.modEntry n f).shots.table = s.shots.table.map fun e => if e.trigger = n then f e else e := rfl

/-- A change of an entry maps the table to the same values where it keeps them for the entry. -/
theorem State.modEntry_map {β : Type} (n : Half) {f : Entry → Entry} (g : Entry → β) (h : ∀ e, g (f e) = g e) :
    (s.modEntry n f).shots.table.map g = s.shots.table.map g := by
  rw [State.modEntry_table, List.map_map]
  refine List.map_congr_left fun e _ => ?_
  simp only [Function.comp]
  split
  · exact h e
  · rfl

theorem Entry.modPart_map {β : Type} (e : Entry) (d : Drop) {f : Part → Part} (g : Part → β) (h : ∀ p, g (f p) = g p) :
    (e.modPart d f).parts.map g = e.parts.map g := by
  unfold Entry.modPart
  rw [List.map_map]
  refine List.map_congr_left fun p _ => ?_
  simp only [Function.comp]
  split
  · exact h p
  · rfl

theorem State.modPart_keepsStock (n : Half) (d : Drop) (f : Part → Part) (h : ∀ p, (f p).stock = p.stock) :
    s.KeepsStock (s.modPart n d f) :=
  ⟨rfl, rfl, fun w => w, s.modEntry_map n Entry.stock fun e => Prod.ext rfl (e.modPart_map d Part.stock h), rfl, rfl, rfl⟩

theorem State.modPart_keepsStore (n : Half) (d : Drop) (f : Part → Part) (h : ∀ p, (f p).outline = p.outline) :
    s.KeepsStore (s.modPart n d f) :=
  ⟨s.modPart_keepsStock n d f fun p => congrArg Prod.snd (h p),
    s.modEntry_map n Entry.outline fun e =>
      congrArg (fun z => (e.trigger, e.state, e.age.isRunning, z)) (e.modPart_map d Part.outline h),
    fun _ _ m => m⟩

theorem State.flagPart_keepsStore (n : Half) (d : Drop) (f : PartFlags → PartFlags) : s.KeepsStore (s.flagPart n d f) :=
  s.modPart_keepsStore n d _ fun _ => rfl

/-! ## Operations that keep the laws -/

theorem State.setPause_keepsStore (p : Pause) : s.KeepsStore (s.setPause p) := s.modUplink_keepsStore _ rfl

theorem State.boundaryDecision_keepsStore : s.KeepsStore s.boundaryDecision :=
  .ite (fun _ => .refl s) fun _ => .ite (fun _ => .refl s) fun _ => s.setPause_keepsStore _

theorem State.announce_keepsStore : s.KeepsStore s.announce := .of_frame s.announce_frame rfl

theorem State.evalHold_keepsStore : s.KeepsStore s.evalHold := by
  have change : ∀ v, s.KeepsStore (s.changeHold v) := fun v =>
    (s.modFmm_keepsStore (fun f => { f with hold := v }) rfl rfl fun w => w).trans (State.announce_keepsStore _)
  unfold State.evalHold
  split
  · exact .refl s
  · exact .ite (fun _ => change true) fun _ => .iteRefl (change false)

theorem State.setRelayed_keepsStore (d : Drop) (n : Option Half) : s.KeepsStore (s.setRelayed d n) :=
  s.modShots_keepsStore _ rfl

/-- A fragment that ends leaves its context out of IN and flags its part (05 R100, R102). -/
theorem State.endFragment_keepsStore (d : Drop) : s.KeepsStore (s.endFragment d) := by
  unfold State.endFragment
  split
  · exact .refl s
  · exact (s.flagPart_keepsStore _ d _).trans (State.modRx_keepsStore _ d _ fun _ m => nomatch m)
  · exact s.modRx_keepsStore d _ fun _ m => nomatch m

theorem State.lengthError_keepsStore (d : Drop) (n : Half) : s.KeepsStore (s.lengthError d n) :=
  (s.flagPart_keepsStore n d _).trans (State.modRx_keepsStore _ d _ fun _ m => m)

theorem State.breakResult_keepsStore (d : Drop) (n : Option Half) (r : Reflection) : s.KeepsStore (s.breakResult d n r) := by
  unfold State.breakResult
  split
  · exact (s.modPart_keepsStore _ d (fun p => { p with brk := some (r.kind, r.distance) }) fun _ => rfl).trans
      (State.modShots_keepsStore _ _ rfl)
  · exact s.modShots_keepsStore _ rfl

theorem State.makeRecord_keepsStore (c : Capture) (r : Reflection) : s.KeepsStore (s.makeRecord c r) := by
  have sites : s.KeepsStore _ :=
    .of_frame ((s.modSites_frame c.drop fun _ =>
      ((s.sites.get c.drop).makeRecord (decide (c.type = .flash)) c.crosstalk c.trigger r).1).mono
        (m := [.sites, .cli]) (es := [c.drop]) (by decide) (fun _ h => h) |>.step (State.reportSites_frame _ c.drop
        ((s.sites.get c.drop).makeRecord (decide (c.type = .flash)) c.crosstalk c.trigger r).2) (by decide) (by simp)) rfl
  exact .ite (fun _ => sites.trans (State.breakResult_keepsStore _ _ _ _)) fun _ => sites

theorem State.shotDone_keepsStore (c : Capture) : s.KeepsStore (s.shotDone c) := by
  have ended : ∀ (u : State) o r, u.KeepsStore (u.endCapture c o r) := fun u o r => .of_frame (u.endCapture_frame c o r) rfl
  have count : ∀ f, s.KeepsStore (s.modLocator f) := fun f => .of_frame (s.modLocator_frame f) rfl
  refine .ite (fun _ => ended s _ _) fun _ => .ite (fun _ => ?_) fun _ => count _
  unfold State.finishCapture
  simp only
  split
  · exact (count _).trans (ended _ _ _)
  · exact ((count _).trans (State.makeRecord_keepsStore _ _ _)).trans (ended _ _ _)

theorem State.enterReady_keepsStore (d : Drop) : s.KeepsStore (s.enterReady d) :=
  ((State.KeepsStore.of_frame (s.modDrop_frame d _) rfl).trans (State.setRelayed_keepsStore _ d _)).trans
    (.of_frame (State.reportState_frame _ d _ _) rfl)

theorem State.beatSeen_keepsStore (d : Drop) : s.KeepsStore (s.beatSeen d) :=
  .iteRefl (.ite (fun _ => s.enterReady_keepsStore d) fun _ => .iteRefl
    ((State.KeepsStore.of_frame (s.modDrop_frame d _) rfl).trans (State.enterReady_keepsStore _ d)))

end

/-! ## The part of a shot and a drop, in its place -/

section
variable {s t : State} {p : Part} {d : Drop} {n : Half}

/-- A change of the element with a key, in a list whose keys differ, changes its place alone. -/
theorem List.map_if_middle {α β : Type} [DecidableEq β] (g : α → β) (f : α → α) {pre post : List α} {a : α}
    (h : ((pre ++ a :: post).map g).Nodup) :
    (pre ++ a :: post).map (fun x => if g x = g a then f x else x) = pre ++ f a :: post := by
  rw [List.map_append, List.map_cons, List.nodup_middle, List.nodup_cons, ← List.map_append] at h
  have other : ∀ l : List α, (∀ x ∈ l, x ∈ pre ++ post) → l.map (fun x => if g x = g a then f x else x) = l := by
    intro l hl
    conv_rhs => rw [← List.map_id l]
    refine List.map_congr_left fun x hx => if_neg fun k => h.1 ?_
    rw [← k]; exact List.mem_map_of_mem (hl x hx)
  rw [List.map_append, List.map_cons, if_pos rfl, other pre fun x hx => List.mem_append_left _ hx,
    other post fun x hx => List.mem_append_right _ hx]

/-- Where the shot table is sound the part of a shot and a drop has one place in it, and a change of the part changes that
place alone. -/
structure State.PlaceOf (s : State) (n : Half) (d : Drop) (p : Part) (pre post : List Entry) (e : Entry)
    (before after : List Part) : Prop where
  table : s.shots.table = pre ++ e :: post
  trigger : e.trigger = n
  parts : e.parts = before ++ p :: after
  drop : p.drop = d
  changed : ∀ f : Part → Part,
    (s.modPart n d f).shots.table = pre ++ { e with parts := before ++ f p :: after } :: post

theorem State.ShotLaw.placeOf (h : s.ShotLaw) (hp : s.part n d = some p) :
    ∃ pre post e before after, s.PlaceOf n d p pre post e before after := by
  obtain ⟨e, he, hq⟩ := Option.bind_eq_some_iff.mp hp
  have trigger : e.trigger = n := by simpa using List.find?_some he
  have drop : p.drop = d := by simpa using List.find?_some hq
  have mem := List.mem_of_find?_eq_some he
  obtain ⟨pre, post, table⟩ := List.append_of_mem mem
  obtain ⟨before, after, parts⟩ := List.append_of_mem (List.mem_of_find?_eq_some hq)
  have numbers := h.numbers
  rw [table] at numbers
  have drops := h.drops e mem
  rw [parts] at drops
  refine ⟨pre, post, e, before, after, table, trigger, parts, drop, fun f => ?_⟩
  have changed : e.modPart d f = { e with parts := before ++ f p :: after } := by
    show { e with parts := e.parts.map _ } = _
    rw [parts, ← drop, List.map_if_middle Part.drop f drops]
  rw [← changed]
  show (s.shots.table.map _) = _
  rw [table, ← trigger]
  exact List.map_if_middle Entry.trigger (·.modPart d f) numbers

/-- A part replaced is a part changed. -/
theorem State.modPart_const (h : s.ShotLaw) (hp : s.part n d = some p) (f : Part → Part) :
    s.modPart n d (fun _ => f p) = s.modPart n d f := by
  obtain ⟨pre, post, e, before, after, place⟩ := h.placeOf hp
  have tables := (place.changed fun _ => f p).trans (place.changed f).symm
  exact congrArg (fun x => { s with shots := { s.shots with table := x } }) tables

/-! ## The closing of parts -/

/-- The law of the shot table, but that the last open part of one shot may have closed just now (06 R122). -/
structure State.ShotLawBut (s : State) (n : Half) : Prop where
  size : s.shots.table.length ≤ Config.shotTableSize
  numbers : (s.shots.table.map Entry.trigger).Nodup
  drops : ∀ e ∈ s.shots.table, (e.parts.map Part.drop).Nodup
  opened : ∀ e ∈ s.shots.table, e.hasOpenPart = true → e.state = .open
  shut : ∀ e ∈ s.shots.table, e.trigger ≠ n → e.state = .open → e.hasOpenPart = true
  aged : ∀ e ∈ s.shots.table, e.age.isRunning = true ↔ e.state = .open

theorem State.ShotLawBut.congr (h : s.ShotLawBut n) (k : t.shots = s.shots) : t.ShotLawBut n := by
  obtain ⟨h1, h2, h3, h4, h5, h6⟩ := h
  rw [← k] at h1 h2 h3 h4 h5 h6
  exact ⟨h1, h2, h3, h4, h5, h6⟩

/-- A part that closes leaves the law of the shot table but for its own entry. -/
theorem State.ShotLaw.closing (h : s.ShotLaw) (hp : s.part n d = some p) (f : Part → Part) (hd : (f p).drop = p.drop)
    (hf : (f p).status.isOpen = false) : (s.modPart n d f).ShotLawBut n := by
  obtain ⟨pre, post, e, before, after, place⟩ := h.placeOf hp
  have table := place.changed f
  have old : ∀ x, x ∈ pre ++ post → x ∈ s.shots.table := fun x hx => by
    rw [place.table]
    rcases List.mem_append.mp hx with hx | hx
    · exact List.mem_append_left _ hx
    · exact List.mem_append_right _ (List.mem_cons_of_mem _ hx)
  have he : e ∈ s.shots.table := by rw [place.table]; simp
  have all : ∀ {P : Entry → Prop}, P { e with parts := before ++ f p :: after } → (∀ x ∈ pre ++ post, P x) →
      ∀ x ∈ (s.modPart n d f).shots.table, P x := by
    intro P k l x hx
    rw [table] at hx
    rcases List.mem_append.mp hx with hx | hx
    · exact l x (List.mem_append_left _ hx)
    · rcases List.mem_cons.mp hx with rfl | hx
      · exact k
      · exact l x (List.mem_append_right _ hx)
  refine ⟨?_, ?_, all ?_ fun x hx => h.drops x (old x hx), all (fun ho => ?_) fun x hx => (h.opened x (old x hx)).mpr,
    all (fun hn => absurd place.trigger hn) fun x hx _ => (h.opened x (old x hx)).mp,
    all (h.aged e he) fun x hx => h.aged x (old x hx)⟩
  · have := h.size
    rw [place.table] at this
    rw [table]; simpa using this
  · have := h.numbers
    rw [place.table] at this
    rw [table]; simpa using this
  · have := h.drops e he
    rw [place.parts] at this
    simpa [hd] using this
  · refine (h.opened e he).mpr ?_
    simp only [Entry.hasOpenPart, List.any_append, List.any_cons, hf, Bool.false_or] at ho
    rw [Entry.hasOpenPart, place.parts, List.any_append, List.any_cons]
    rcases Bool.or_eq_true_iff.mp ho with ho | ho <;> simp [ho]

/-- The end of an entry without an open part restores the law of the shot table (06 R122). -/
theorem State.ShotLawBut.closeEntry (h : s.ShotLawBut n) : (s.closeEntry n).ShotLaw := by
  unfold State.closeEntry
  split
  · rename_i hn
    have other : ∀ e ∈ s.shots.table, e.trigger ≠ n := fun e he => by simpa using List.find?_eq_none.mp hn e he
    exact ⟨h.size, h.numbers, h.drops, fun e he => ⟨h.shut e he (other e he), h.opened e he⟩, h.aged⟩
  · rename_i e hf
    have trigger : e.trigger = n := by simpa using List.find?_some hf
    have only : ∀ x ∈ s.shots.table, x.trigger = n → x = e := fun x hx hn => by
      have := List.find?_nodup h.numbers hx
      rw [hn] at this
      exact Option.some.inj (this.symm.trans hf)
    split
    · rename_i ho
      refine State.ShotLaw.keep ?_ (State.boundaryDecision_keepsStore _).table
      have all : ∀ {P : Entry → Prop}, P { e with state := .closed, age := .stopped } →
          (∀ x ∈ s.shots.table, x.trigger ≠ n → P x) →
          ∀ x ∈ (s.modEntry n fun e => { e with state := .closed, age := .stopped }).shots.table, P x := by
        intro P k l x hx
        rw [State.modEntry_table] at hx
        obtain ⟨y, hy, rfl⟩ := List.mem_map.mp hx
        by_cases hn : y.trigger = n
        · rw [if_pos hn, only y hy hn]; exact k
        · rw [if_neg hn]; exact l y hy hn
      refine ⟨?_, ?_, all (h.drops e (List.mem_of_find?_eq_some hf)) fun x hx _ => h.drops x hx,
        all ?_ fun x hx hn => ⟨h.shut x hx hn, h.opened x hx⟩, all (iff_of_false nofun nofun) fun x hx _ => h.aged x hx⟩
      · rw [State.modEntry_table, List.length_map]; exact h.size
      · exact s.modEntry_map n (f := fun e => { e with state := .closed, age := .stopped }) Entry.trigger (fun _ => rfl) ▸
          h.numbers
      · exact iff_of_false nofun (Bool.eq_false_iff.mp ho.2)
    · rename_i ho
      refine ⟨h.size, h.numbers, h.drops, fun x hx => ⟨fun hs => ?_, h.opened x hx⟩, h.aged⟩
      by_cases hn : x.trigger = n
      · rw [only x hx hn] at hs ⊢
        exact Bool.of_not_eq_false fun k => ho ⟨hs, k⟩
      · exact h.shut x hx hn hs

theorem State.closeEntry_keepsStock (s : State) (n : Half) (h : s.ShotLawBut n) : s.KeepsStock (s.closeEntry n) := by
  unfold State.closeEntry
  split
  · exact .refl s
  · split
    · rename_i e hf ho
      refine State.KeepsStock.trans (t := s.modEntry n fun e => { e with state := .closed, age := .stopped })
        ⟨rfl, rfl, fun w => w, ?_, rfl, rfl, rfl⟩ (State.boundaryDecision_keepsStore _).stock
      rw [State.modEntry_table, List.map_map]
      refine List.map_congr_left fun x hx => ?_
      simp only [Function.comp]
      split
      · rename_i hn
        have found := List.find?_nodup h.numbers hx
        rw [hn] at found
        rw [Option.some.inj (found.symm.trans hf)]
        exact Prod.ext (by simp [Entry.stock, ho.1]) rfl
      · rfl
    · exact .refl s

theorem State.closePart_open (hp : s.part n d = some p) (ho : p.status.isOpen = true) (c : ClosedStatus) :
    s.closePart n d c =
      (((s.modPart n d fun _ => p.close (s.dropCfg d) c).modRx d (·.partClosed n)).offerPart d
        (p.close (s.dropCfg d) c)).closeEntry n := by
  unfold State.closePart
  rw [hp]
  exact if_pos ho

theorem State.closePart_shut (h : ∀ p, s.part n d = some p → p.status.isOpen = false) (c : ClosedStatus) :
    s.closePart n d c = s := by
  unfold State.closePart
  split
  · rfl
  · rename_i p hp
    exact if_neg (Bool.eq_false_iff.mp (h p hp))

/-- A part that closes takes its context out of IN, and no other part (05 R101). -/
theorem State.RxLaw.closePart (h : s.RxLaw) (n : Half) (d : Drop) (c : ClosedStatus) : (s.closePart n d c).RxLaw := by
  intro e m hm
  by_cases he : e = d
  · subst he
    obtain ⟨hs, hc⟩ := State.closePart_inside hm
    obtain ⟨p, hp, ho⟩ := h e m hs
    have hn : m ≠ n := fun k => by
      have := hc k
      rw [hp] at this
      exact absurd ho (Bool.eq_false_iff.mp this)
    exact ⟨p, by rw [State.closePart_part_eq, if_neg fun k => hn k.1, hp], ho⟩
  · rw [((s.closePart_frame n d c).drops e (by simpa using he)).rx] at hm
    obtain ⟨p, hp, ho⟩ := h e m hm
    exact ⟨p, by rw [State.closePart_part_eq, if_neg fun k => he k.2, hp], ho⟩

theorem State.StoreLaw.closePart (h : s.StoreLaw) (n : Half) (d : Drop) (c : ClosedStatus) :
    (s.closePart n d c).StoreLaw := by
  by_cases shut : ∀ p, s.part n d = some p → p.status.isOpen = false
  · rw [State.closePart_shut shut]; exact h
  have rx := h.rx.closePart n d c
  push Not at shut
  obtain ⟨p, hp, ho⟩ := shut
  rw [State.closePart_open hp (by simpa using ho)] at rx ⊢
  have closed := State.modPart_const h.shots hp (Part.close (s.dropCfg d) c)
  have stock : s.KeepsStock ((s.modPart n d fun _ => p.close (s.dropCfg d) c).modRx d (·.partClosed n)) := by
    rw [closed]
    exact (s.modPart_keepsStock n d (Part.close (s.dropCfg d) c) fun _ => rfl).trans
      (State.modRx_keepsStore _ d _ fun m hm => (Receiver.partClosed_inside hm).1).stock
  have offered := State.offerPart_frame ((s.modPart n d fun _ => p.close (s.dropCfg d) c).modRx d (·.partClosed n)) d
    (p.close (s.dropCfg d) c)
  have but := (h.shots.closing hp (fun _ => p.close (s.dropCfg d) c) rfl rfl).congr (offered.get .shots)
  have ended := (stock.trans (State.KeepsStore.of_frame offered rfl).stock).trans (State.closeEntry_keepsStock _ n but)
  exact ⟨h.memory.keep ended, but.closeEntry, rx, h.record.keep ended⟩

theorem State.StoreLaw.foldl {β : Type} {f : State → β → State}
    (hf : ∀ (s : State) (b : β), s.StoreLaw → (f s b).StoreLaw) :
    ∀ (bs : List β) (s : State), s.StoreLaw → (bs.foldl f s).StoreLaw
  | [], _, h => h
  | b :: bs, s, h => State.StoreLaw.foldl hf bs (f s b) (hf s b h)

theorem State.StoreLaw.closeOpenParts (h : s.StoreLaw) (d : Drop) (c : ClosedStatus) : (s.closeOpenParts d c).StoreLaw :=
  .foldl (fun _ n k => k.closePart n d c) _ s h

theorem State.StoreLaw.timeoutEntry (h : s.StoreLaw) (n : Half) : (s.timeoutEntry n).StoreLaw :=
  .foldl (fun _ d k => k.closePart n d .timeout) _ s h

end

end Sys2Proof.Machine

/-! PROOF. The frame memory, the shot table and the record in progress (O55): drops that leave READY, triggers that open
shots, resets and the end of loading. -/

namespace Sys2Proof.Machine

section
variable {s t u : State} {d : Drop}

theorem State.StoreLaw.ite {c : Prop} [Decidable c] (h : c → t.StoreLaw) (k : ¬c → u.StoreLaw) :
    (if c then t else u).StoreLaw := by
  split
  · exact h ‹_›
  · exact k ‹_›

/-- What touches none of the fields that the laws read keeps them. -/
theorem State.StoreLaw.of_frame {l : List Block} {ds : List Drop} (h : s.StoreLaw) (k : s.ChangesOnly t l ds)
    (hl : (storeBlocks.all fun b => !l.contains b) = true) : t.StoreLaw := h.keep (.of_frame k hl)

/-! ## Drops that lose their power or their lock -/

theorem State.StoreLaw.powerDown (h : s.StoreLaw) (d : Drop) (next : DropState) : (s.powerDown d next).StoreLaw := by
  have opened := ((h.of_frame (s.openSwitch_frame d next) rfl).of_frame (State.giveUpShare_frame _ d) rfl).of_frame
    (State.modLink_frame _ d LinkPort.powerOff) rfl
  have closed : State.StoreLaw (if (s.drops.get d).state = .ready then
      (((s.openSwitch d next).giveUpShare d).modLink d LinkPort.powerOff).closeOpenParts d .powerLost
      else ((s.openSwitch d next).giveUpShare d).modLink d LinkPort.powerOff) :=
    .ite (fun _ => opened.closeOpenParts d _) fun _ => opened
  have ended := closed.keep (State.endFragment_keepsStore _ d)
  have left : State.StoreLaw (if (s.drops.get d).state = .ready then State.lensLeaveReady _ d else _) :=
    .ite (fun _ => ended.of_frame (State.lensLeaveReady_frame _ d) rfl) fun _ => ended
  have unhomed := left.of_frame (State.clearHomed_frame _ d) rfl
  exact .ite (fun _ => unhomed.of_frame (State.darkenCapture_frame _) rfl) fun _ => unhomed

theorem State.StoreLaw.enterFault (h : s.StoreLaw) (d : Drop) (c : Cause) : (s.enterFault d c).StoreLaw :=
  ((h.powerDown d .fault).of_frame (State.modDrop_frame _ d _) rfl).of_frame (State.reportState_frame _ d _ _) rfl

theorem State.StoreLaw.trip (h : s.StoreLaw) (d : Drop) (c : TripCause) : (s.trip d c).StoreLaw := by
  have counted : ∀ f, (s.modDrop d f).StoreLaw := fun f => h.of_frame (s.modDrop_frame d f) rfl
  exact .ite (fun _ => (((counted _).powerDown d _).of_frame (State.modDrop_frame _ d _) rfl).of_frame
    (State.reportState_frame _ d _ _) rfl) fun _ => (counted _).enterFault d _

theorem State.StoreLaw.sampleCurrent (h : s.StoreLaw) (d : Drop) (n : Nat) : (s.sampleCurrent d n).StoreLaw := by
  have measured : ∀ f, (s.modDrop d f).StoreLaw := fun f => h.of_frame (s.modDrop_frame d f) rfl
  exact .ite (fun _ => (measured _).trip d _) fun _ => measured _

theorem State.StoreLaw.turnOff (h : s.StoreLaw) (d : Drop) : (s.turnOff d).StoreLaw := by
  by_cases hp : (s.drops.get d).state.powered = true
  · rw [State.turnOff_powered hp]
    exact (h.powerDown d .off).of_frame (State.modDrop_frame _ d _) rfl
  · have settled : ∀ u : State, u.StoreLaw → (u.settleOff d).StoreLaw := fun u k => k.of_frame (u.settleOff_frame d) rfl
    unfold State.turnOff
    cases hs : (s.drops.get d).state <;> rw [hs] at hp
    case off | tripped | napping => exact settled s h
    case claiming => exact settled _ (h.of_frame (s.leaveClaims_frame d) rfl)
    case fault => exact h
    all_goals exact absurd rfl hp

theorem State.StoreLaw.closeLost (h : s.StoreLaw) (d : Drop) (o : LossOrder) : (s.closeLost d o).StoreLaw := by
  cases o with
  | receiverFirst => exact (h.keep (s.endFragment_keepsStore d)).closeOpenParts d _
  | closingFirst => exact (h.closeOpenParts d _).keep (State.endFragment_keepsStore _ d)

theorem State.StoreLaw.loseLock (h : s.StoreLaw) (d : Drop) (o : LossOrder) : (s.loseLock d o).StoreLaw := by
  have unlocked := h.of_frame (s.modLink_frame d LinkPort.unlock) rfl
  exact .ite (fun _ => (((unlocked.of_frame (State.modDrop_frame _ d _) rfl).closeLost d o).of_frame
    (State.requestFlash_frame _ d) rfl).of_frame (State.lensLeaveReady_frame _ d) rfl) fun _ =>
      unlocked.keep (State.endFragment_keepsStore _ d)

/-! ## Shots that open -/

/-- A sound new entry, without words or pages, joins the shot table (06 R111). -/
structure State.Joins (s : State) (e : Entry) : Prop where
  loaded : s.cfg ≠ none
  room : s.shots.table.length < Config.shotTableSize
  new : s.findEntry e.trigger = none
  drops : (e.parts.map Part.drop).Nodup
  unsent : e.state ≠ .sending
  opened : e.state = .open ↔ e.hasOpenPart = true
  aged : e.age.isRunning = true ↔ e.state = .open
  empty : ∀ p ∈ e.parts, p.words = 0 ∧ p.chain = []

theorem State.StoreLaw.add {e : Entry} (h : s.StoreLaw) (k : s.Joins e) : (s.modShots (·.add e)).StoreLaw := by
  have table : (s.modShots (·.add e)).shots.table = s.shots.table ++ [e] := rfl
  have chained : (s.modShots (·.add e)).chained = s.chained := by
    unfold State.chained
    rw [table, List.flatMap_append, List.flatMap_singleton,
      List.flatMap_eq_nil_iff.mpr fun p hp => (k.empty p hp).2, List.append_nil]
  have all : ∀ {P : Entry → Prop}, (∀ x ∈ s.shots.table, P x) → P e → ∀ x ∈ (s.modShots (·.add e)).shots.table, P x := by
    intro P old new x hx
    rcases List.mem_append.mp hx with hx | hx
    · exact old x hx
    · rw [List.mem_singleton.mp hx]; exact new
  have numbers : ∀ x ∈ s.shots.table, x.trigger ≠ e.trigger := fun x hx => by
    simpa using List.find?_eq_none.mp k.new x hx
  have unsent : e.Unsent := ⟨k.unsent, fun p hp => by rw [(k.empty p hp).1, (k.empty p hp).2]; rfl⟩
  refine ⟨h.memory.of_perm h.memory.wf h.memory.count (by rw [chained]; exact .refl _), ?_, ?_, ?_⟩
  · refine ⟨?_, ?_, all h.shots.drops k.drops, all h.shots.opened k.opened, all h.shots.aged k.aged⟩
    · rw [table, List.length_append]; exact k.room
    · rw [table, List.map_append, List.nodup_append]
      refine ⟨h.shots.numbers, by simp, fun a ha b hb => ?_⟩
      obtain ⟨x, hx, rfl⟩ := List.mem_map.mp ha
      rw [List.map_singleton, List.mem_singleton] at hb
      rw [hb]; exact numbers x hx
  · refine h.rx.of_open (fun _ _ m => m) fun d n p _ hp ho => ⟨p, ?_, ho⟩
    obtain ⟨x, hx, hq⟩ := Option.bind_eq_some_iff.mp hp
    refine Option.bind_eq_some_iff.mpr ⟨x, ?_, hq⟩
    unfold State.findEntry at hx ⊢
    rw [table, List.find?_append, hx]; rfl
  · refine ⟨h.record.loading, fun hc => absurd hc k.loaded, h.record.frames, fun hr => all (h.record.between hr) unsent,
      fun i hi => ?_⟩
    obtain ⟨x, rest, ht, hs, hl, hrest, hp⟩ := h.record.within i hi
    refine ⟨x, rest ++ [e], by rw [table, ht]; rfl, hs, hl, fun y hy => ?_, hp⟩
    rcases List.mem_append.mp hy with hy | hy
    · exact hrest y hy
    · rw [List.mem_singleton.mp hy]; exact unsent

theorem State.relay_keepsStore (s : State) (n : Half) (d : Drop) : s.KeepsStore (s.relay n d) :=
  ((State.KeepsStore.of_frame (s.handMark_frame d _) rfl).trans (State.setRelayed_keepsStore _ d _)).trans
    (.of_frame (State.modDrop_frame _ d _) rfl)

theorem State.startPart_keepsStore (s : State) (n : Half) (p : Part) : s.KeepsStore (State.startPart n s p) :=
  .ite (fun _ => s.relay_keepsStore n p.drop) fun _ => .of_frame (s.offerPart_frame p.drop p) rfl

theorem State.openingPart_empty (s : State) (d : Drop) : (s.openingPart d).words = 0 ∧ (s.openingPart d).chain = [] := by
  unfold State.openingPart
  simp only
  split_ifs <;> exact ⟨rfl, rfl⟩

/-- Until loading ends no drop is enabled, and a trigger involves none (06 R107). -/
theorem State.involved_loaded {mask : Byte} (h : s.involved mask ≠ []) : s.cfg ≠ none := by
  intro hc
  refine h (List.filter_eq_nil_iff.mpr fun d _ => ?_)
  unfold State.dropCfg
  rw [hc]
  exact Bool.false_ne_true

theorem State.newEntry_joins {n : Half} {mask : Byte} (src : Station) (involved : s.involved mask ≠ [])
    (room : s.shots.table.length < Config.shotTableSize) (new : s.findEntry n = none) :
    s.Joins (s.newEntry n mask src ((s.involved mask).map s.openingPart)) where
  loaded := State.involved_loaded involved
  room := room
  new := new
  drops := by
    show ((((s.involved mask).map s.openingPart)).map Part.drop).Nodup
    rw [List.map_map, show Part.drop ∘ s.openingPart = id from funext s.openingPart_drop, List.map_id]
    exact (show Drop.all.Nodup by decide).filter _
  unsent := by
    unfold State.newEntry
    dsimp only
    split <;> exact nofun
  opened := by
    unfold State.newEntry Entry.hasOpenPart
    dsimp only
    split
    · rename_i ho; exact iff_of_true rfl ho
    · rename_i ho; exact iff_of_false nofun ho
  aged := by
    unfold State.newEntry
    dsimp only
    split
    · exact iff_of_true rfl rfl
    · exact iff_of_false nofun nofun
  empty p hp := by
    obtain ⟨d, -, rfl⟩ := List.mem_map.mp hp
    exact s.openingPart_empty d

theorem State.StoreLaw.handTrigger (h : s.StoreLaw) (n : Half) (mask : Byte) (src : Station) :
    (s.handTrigger n mask src).StoreLaw := by
  have skipped : ∀ b, (s.skipShot (s.involved mask) b).StoreLaw := fun b =>
    (h.keep (s.modShots_keepsStore _ rfl)).of_frame (State.wakeAll_frame _ _) rfl
  refine .ite (fun _ => h) fun involved => .ite (fun _ => skipped _) fun room => .ite (fun _ => skipped _) fun new => ?_
  have joins := State.newEntry_joins src involved (Nat.lt_of_not_le room) (by simpa using new)
  have opened := ((h.add joins).keep (.foldl (fun u p => u.startPart_keepsStore n p)
    ((s.involved mask).map s.openingPart) _)).of_frame (State.wakeAll_frame _ (s.involved mask)) rfl
  exact .ite (fun _ => opened.keep (State.boundaryDecision_keepsStore _)) fun _ => opened

theorem State.StoreLaw.takeTrigger (h : s.StoreLaw) (n : Half) (mask : Byte) (src : Station) :
    (s.takeTrigger n mask src).StoreLaw := by
  have numbered := h.of_frame (s.modTrig_frame (·.number n)) rfl
  exact State.StoreLaw.handTrigger (.ite (fun _ => numbered.of_frame (State.queueEvent_frame _ _) rfl) fun _ => numbered)
    n mask src

theorem State.StoreLaw.triggerEcho (h : s.StoreLaw) : s.triggerEcho.StoreLaw := by
  unfold State.triggerEcho
  split
  · exact State.StoreLaw.takeTrigger ((h.of_frame s.echoed_frame rfl).of_frame (State.modTrig_frame _ _) rfl) _ _ _
  · exact h

/-! ## Receipts, resets and loading -/

theorem State.StoreLaw.hear (h : s.StoreLaw) (src : Station) {f : State → State}
    (hf : ∀ u : State, u.StoreLaw → (f u).StoreLaw) : (s.hear src f).StoreLaw :=
  .ite (fun _ => h.of_frame s.ownNumber_frame rfl) fun _ => hf _ (h.of_frame s.countHeard_frame rfl)

theorem State.StoreLaw.takeRequest (h : s.StoreLaw) (k : RequestKind) (rank : Rank) (r : Request) {f : State → State}
    (hf : ∀ u : State, u.StoreLaw → (f u).StoreLaw) : (s.takeRequest k rank r f).StoreLaw := by
  refine h.hear r.src fun u hu => ?_
  exact .ite (fun _ => hu) fun _ => .ite (fun _ => hf u hu) fun _ => hu.of_frame (u.answer_frame _ _ _ _) rfl

theorem State.StoreLaw.takeDropRequest (h : s.StoreLaw) (k : RequestKind) (rank : Rank) (r : Request)
    {f : Drop → State → State} (hf : ∀ (d : Drop) (u : State), u.StoreLaw → (f d u).StoreLaw) :
    (s.takeDropRequest k rank r f).StoreLaw := by
  refine h.takeRequest k rank r fun u hu => ?_
  split
  · exact hf _ u hu
  · exact hu.of_frame (u.answer_frame _ _ _ _) rfl

theorem State.reset_storeLaw : State.reset.StoreLaw :=
  ⟨State.reset_memoryLaw, State.reset_shotLaw, State.reset_rxLaw, State.reset_recordLaw⟩

theorem State.resetAll_storeLaw (s : State) (pins : Pins) : (s.resetAll pins).StoreLaw :=
  State.reset_storeLaw.keep ⟨⟨rfl, rfl, fun w => w, rfl, rfl, rfl, rfl⟩, rfl, fun _ _ m => m⟩

theorem State.cellReset_storeLaw (s : State) (pins : Pins) : (s.cellReset pins).StoreLaw :=
  State.reset_storeLaw.keep ⟨⟨rfl, rfl, fun w => w, rfl, rfl, rfl, rfl⟩, rfl, fun _ _ m => m⟩

theorem imageConfiguration_frameSize (img : List Byte) (d : Drop) :
    1 ≤ ((imageConfiguration img).drops.get d).frameSize := by
  cases d <;> exact le_max_left _ _

/-- Until loading ends no shot is open and no record in progress, whatever the frame sizes that take effect (06 R107). -/
theorem State.StoreLaw.load (h : s.StoreLaw) (hl : s.loader = .loading) (read : EepromRead) : (s.load read).StoreLaw := by
  obtain ⟨table, record⟩ := h.record.unloaded (h.record.loading.mp hl)
  have loaded : ∀ (l : LoaderState) (c : Configuration) (n : Nat), l ≠ .loading → (∀ d, 1 ≤ (c.drops.get d).frameSize) →
      ({ s with loader := l, cfg := some c, clampedFields := n } : State).StoreLaw := fun l c n hn hf =>
    ⟨h.memory.of_perm h.memory.wf h.memory.count (.refl _), State.ShotLaw.congr (s := s) rfl h.shots, h.rx,
      ⟨iff_of_false hn nofun, nofun, hf, fun _ e he => absurd (table ▸ he) List.not_mem_nil,
        fun i hi => nomatch record.symm.trans hi⟩⟩
  unfold State.load
  split
  · exact loaded _ _ _ nofun (imageConfiguration_frameSize _)
  · exact loaded .defaulted defaultedConfiguration _ nofun fun d => by cases d <;> decide

theorem State.StoreLaw.loadEnd (h : s.StoreLaw) (hl : s.loader = .loading) (read : EepromRead) :
    (Drop.all.foldl State.autoPower (s.load read).announce).StoreLaw :=
  .foldl (fun u d k => k.of_frame (u.autoPower_frame d) rfl) _ _ ((h.load hl read).of_frame (State.announce_frame _) rfl)

end

end Sys2Proof.Machine

/-! PROOF. The frame memory, the shot table and the record in progress (O55): the words of fragments, bound to open parts
and stored in their pages (05 R95 to R98). -/

namespace Sys2Proof.Machine

section
variable {s t : State} {e : Entry} {p : Part} {d : Drop} {n : Half}

/-! ## Reading the laws -/

theorem State.ShotLaw.findEntry (h : s.ShotLaw) (he : e ∈ s.shots.table) : s.findEntry e.trigger = some e :=
  List.find?_nodup h.numbers he

theorem State.part_of_mem (numbers : (s.shots.table.map Entry.trigger).Nodup) (he : e ∈ s.shots.table) (d : Drop) :
    s.part e.trigger d = e.part d := by
  unfold State.part State.findEntry
  rw [List.find?_nodup numbers he]; rfl

theorem State.ShotLaw.part (h : s.ShotLaw) (he : e ∈ s.shots.table) (d : Drop) : s.part e.trigger d = e.part d :=
  State.part_of_mem h.numbers he d

theorem Entry.mem_of_part (h : e.part d = some p) : p ∈ e.parts ∧ p.drop = d :=
  ⟨List.mem_of_find?_eq_some h, by simpa using List.find?_some h⟩

theorem State.entry_of_part (h : s.part n d = some p) : ∃ e ∈ s.shots.table, e.trigger = n ∧ e.part d = some p := by
  obtain ⟨e, he, hp⟩ := Option.bind_eq_some_iff.mp h
  exact ⟨e, List.mem_of_find?_eq_some he, by simpa using List.find?_some he, hp⟩

/-- The entry of an open part is OPEN (06 R105). -/
theorem State.ShotLaw.open_of_part (h : s.ShotLaw) (he : e ∈ s.shots.table) (hp : e.part d = some p)
    (ho : p.status.isOpen = true) : e.state = .open :=
  (h.opened e he).mpr (List.any_eq_true.mpr ⟨p, (Entry.mem_of_part hp).1, ho⟩)

/-- The record of an entry that is OPEN has not begun. -/
theorem State.RecordLaw.unsent (h : s.RecordLaw) (he : e ∈ s.shots.table) (ho : e.state ≠ .sending) : e.Unsent := by
  cases hr : s.uplink.record with
  | none => exact h.between hr e he
  | some i =>
    obtain ⟨x, rest, ht, hs, -, hrest, -⟩ := h.within i hr
    rw [ht] at he
    rcases List.mem_cons.mp he with rfl | he
    · exact absurd hs ho
    · exact hrest e he

/-- An open part has the pages of its stored words (05 R86). -/
theorem State.StoreLaw.open_pages (h : s.StoreLaw) (hp : s.part n d = some p) (ho : p.status.isOpen = true) :
    p.chain.length = pagesFor p.words := by
  obtain ⟨e, he, -, hq⟩ := State.entry_of_part hp
  refine (h.record.unsent he ?_).2 p (Entry.mem_of_part hq).1
  rw [h.shots.open_of_part he hq ho]; exact nofun

theorem State.mem_chained {page : Nat} (he : e ∈ s.shots.table) (hp : p ∈ e.parts) (hc : page ∈ p.chain) :
    page ∈ s.chained :=
  List.mem_flatMap.mpr ⟨e, he, List.mem_flatMap.mpr ⟨p, hp, hc⟩⟩

theorem State.MemoryLaw.isPage_of_chain {page : Nat} (h : s.MemoryLaw) (hp : s.part n d = some p) (hc : page ∈ p.chain) :
    isPage page := by
  obtain ⟨e, he, -, hq⟩ := State.entry_of_part hp
  exact h.pages page (List.mem_append_right _ (State.mem_chained he (Entry.mem_of_part hq).1 hc))

/-- The pages in chains, with those of one part in their place. -/
theorem State.ShotLaw.chained_split (h : s.ShotLaw) (hp : s.part n d = some p) :
    ∃ A B, s.chained = A ++ (p.chain ++ B) ∧ ∀ f : Part → Part, (s.modPart n d f).chained = A ++ ((f p).chain ++ B) := by
  obtain ⟨pre, post, e, before, after, place⟩ := h.placeOf hp
  refine ⟨(pre.flatMap fun x => x.parts.flatMap Part.chain) ++ before.flatMap Part.chain,
    after.flatMap Part.chain ++ post.flatMap fun x => x.parts.flatMap Part.chain, ?_, fun f => ?_⟩
  · simp [State.chained, place.table, place.parts]
  · unfold State.chained
    rw [place.changed f]
    simp

/-! ## A part that changes its words and pages -/

theorem Entry.modPart_hasOpenPart (e : Entry) (d : Drop) {f : Part → Part}
    (ho : ∀ q, (f q).status.isOpen = q.status.isOpen) : (e.modPart d f).hasOpenPart = e.hasOpenPart := by
  have := congrArg (List.any · id) (e.modPart_map d (fun q => q.status.isOpen) ho)
  simp only [List.any_map, Function.comp_def, id] at this
  exact this

theorem State.ShotLaw.modPart (h : s.ShotLaw) (n : Half) (d : Drop) {f : Part → Part} (hd : ∀ q, (f q).drop = q.drop)
    (ho : ∀ q, (f q).status.isOpen = q.status.isOpen) : (s.modPart n d f).ShotLaw := by
  refine h.mapTable (s.modEntry_table n (·.modPart d f)) fun e => ?_
  split
  · exact ⟨rfl, e.modPart_map d Part.drop hd, rfl, rfl, e.modPart_hasOpenPart d ho⟩
  · exact ⟨rfl, rfl, rfl, rfl, rfl⟩

theorem State.RxLaw.modPart (h : s.RxLaw) (n : Half) (d : Drop) {f : Part → Part} (hd : ∀ q, (f q).drop = q.drop)
    (ho : ∀ q, (f q).status.isOpen = q.status.isOpen) : (s.modPart n d f).RxLaw := by
  refine h.of_open (fun _ _ m => m) fun e m p _ hp k => ?_
  rw [State.part_modPart s n m d e fun q hq => (hd q).trans hq]
  split
  · rename_i hm
    obtain ⟨-, rfl⟩ := hm
    exact ⟨f p, by rw [hp]; rfl, (ho p).trans k⟩
  · exact ⟨p, hp, k⟩

/-- The law of the record where the part of one shot, whose record has not begun, keeps the pages of its words. -/
theorem State.StoreLaw.record_modPart (h : s.StoreLaw) (hp : s.part n d = some p) (ho : p.status.isOpen = true)
    {f : Part → Part} (hf : (f p).chain.length = pagesFor (f p).words) : (s.modPart n d f).RecordLaw := by
  obtain ⟨e, he, hn, hq⟩ := State.entry_of_part hp
  have opened := h.shots.open_of_part he hq ho
  refine h.record.carry rfl rfl rfl ?_
  rw [show (s.modPart n d f).shots.table = _ from s.modEntry_table n _, List.forall₂_map_right_iff, List.forall₂_same]
  intro x hx
  by_cases hm : x.trigger = n
  · have same : x = e := by
      have := h.shots.findEntry hx
      rw [hm, ← hn, h.shots.findEntry he] at this
      exact (Option.some.inj this).symm
    subst same
    refine ⟨fun k => ?_, fun i hi => absurd (opened.symm.trans hi.sending) nofun⟩
    rw [if_pos hm]
    refine ⟨k.1, fun q hq' => ?_⟩
    obtain ⟨r, hr, rfl⟩ := List.mem_map.mp hq'
    split
    · rename_i hd
      have found := List.find?_nodup (h.shots.drops x hx) hr
      rw [hd] at found
      rw [Option.some.inj (found.symm.trans hq)]
      exact hf
    · exact k.2 r hr
  · rw [if_neg hm]
    exact ⟨fun k => k, fun i hi hl => ⟨hi.of_stock rfl rfl, hl⟩⟩

/-- A word stored, in a page that the part has or takes from the head of the free list (05 R86, R97). -/
structure State.Stores (s t : State) (n : Half) (d : Drop) (f : Part → Part) (taken : List Nat) : Prop where
  chain : ∀ q, (f q).chain = q.chain ++ taken
  words : ∀ q, (f q).words = q.words + 1
  drop : ∀ q, (f q).drop = q.drop
  opened : ∀ q, (f q).status.isOpen = q.status.isOpen
  free : s.fmm.freeList = taken ++ t.fmm.freeList
  count : t.fmm.freeCount = s.fmm.freeCount - taken.length
  mem : Memory.wf s.fmm.mem = true → Memory.wf t.fmm.mem = true
  shots : t.shots = (s.modPart n d f).shots
  rest : t.rx = s.rx ∧ t.loader = s.loader ∧ t.cfg = s.cfg ∧ t.uplink = s.uplink

theorem State.StoreLaw.store {f : Part → Part} {taken : List Nat} (h : s.StoreLaw) (hp : s.part n d = some p)
    (ho : p.status.isOpen = true) (hc : p.chain.length + taken.length = pagesFor (p.words + 1))
    (k : s.Stores t n d f taken) : t.StoreLaw := by
  obtain ⟨rx, loader, cfg, uplink⟩ := k.rest
  obtain ⟨A, B, old, new⟩ := h.shots.chained_split hp
  have chained : t.chained = A ++ (p.chain ++ taken ++ B) := by
    rw [← k.chain, ← new f]
    unfold State.chained
    rw [k.shots]
  refine ⟨h.memory.of_perm (k.mem h.memory.wf) ?_ ?_, (h.shots.modPart n d k.drop k.opened).congr k.shots.symm, ?_, ?_⟩
  · rw [k.count, h.memory.count, k.free, List.length_append, Nat.add_sub_cancel_left]
  · rw [chained, old, k.free]
    refine List.perm_iff_count.mpr fun a => ?_
    simp only [List.count_append]
    omega
  · refine (h.rx.modPart n d k.drop k.opened).of_open (fun e m hm => by rw [rx] at hm; exact hm) fun e m q _ hq hqo =>
      ⟨q, (State.part_congr k.shots m e).trans hq, hqo⟩
  · have stored := h.record_modPart hp ho (f := f) (by rw [k.chain, k.words, List.length_append]; exact hc)
    exact stored.congr (congrArg Shots.table k.shots) loader cfg (congrArg Uplink.record uplink)

/-! ## The payload words of a fragment -/

theorem State.modPart_modPart (s : State) (n : Half) (d : Drop) (f g : Part → Part) (hf : ∀ q, (f q).drop = q.drop) :
    (s.modPart n d f).modPart n d g = s.modPart n d (g ∘ f) := by
  have parts : ∀ e : Entry, (e.modPart d f).modPart d g = e.modPart d (g ∘ f) := by
    intro e
    unfold Entry.modPart
    rw [List.map_map]
    congr 1
    refine List.map_congr_left fun q _ => ?_
    by_cases hq : q.drop = d <;> simp [hq, hf]
  have tables : ((s.modPart n d f).modPart n d g).shots.table = (s.modPart n d (g ∘ f)).shots.table := by
    show List.map _ (List.map _ s.shots.table) = List.map _ s.shots.table
    rw [List.map_map]
    refine List.map_congr_left fun e _ => ?_
    by_cases he : e.trigger = n
    · simp only [Function.comp, he, if_true, parts]
      exact if_pos he
    · simp [he]
  exact congrArg (fun x => { s with shots := { s.shots with table := x } }) tables

/-- A page number that exists, with the place of a word in it. -/
theorem frameAddressExists_of {page : Nat} (h : isPage page) (words : Nat) :
    frameAddressExists page (words % Config.pageWords) = true :=
  decide_eq_true ⟨h, Nat.mod_lt _ (by decide)⟩

/-- A word that has a page is stored (05 R97). -/
theorem State.storeWord_of {page : Nat} (h : isPage page) (d : Drop) (n : Half) (words : Nat) (w : Word) :
    s.storeWord d n page words w = .next
      ((s.modFmm fun f => { f with mem := writeWord page (words % Config.pageWords) w f.mem }).modPart n d
        (Part.store (s.dropCfg d) w)) :=
  if_pos (frameAddressExists_of h words)

theorem Part.needsPage_iff (p : Part) : p.needsPage = true ↔ p.chain.length * 16384 ≤ p.words := decide_eq_true_iff

/-- A page that the hold flag's evaluation leaves taken (05 R86, R89). -/
theorem State.takePage_cons {page : Nat} {rest : List Nat} (h : s.fmm.freeList = page :: rest) :
    s.takePage = (some page, State.evalHold (s.modFmm fun f =>
      { f with freeList := rest, freeCount := f.freeCount - 1, lowWater := min f.lowWater (f.freeCount - 1) })) := by
  unfold State.takePage
  split
  · rename_i p r hp
    obtain ⟨rfl, rfl⟩ := List.cons.inj (hp.symm.trans h)
    rfl
  · rename_i hp; exact nomatch hp.symm.trans h

theorem State.takePage_nil (h : s.fmm.freeList = []) :
    s.takePage = (none, State.evalHold (s.modFmm fun f => { f with takeFailures := bump f.takeFailures })) := by
  unfold State.takePage
  split
  · rename_i hp; exact nomatch hp.symm.trans h
  · rfl

/-- A payload word for which no page is taken stays in the part's last page (05 R97). -/
theorem State.StoreLaw.storeInLast (h : s.StoreLaw) (hp : s.part n d = some p) (ho : p.status.isOpen = true)
    (hn : ¬p.needsPage = true) (w : Word) :
    ∃ t, s.storeWord d n (p.chain.getLastD Config.pageCount) p.words w = .next t ∧ t.StoreLaw := by
  have pages := h.open_pages hp ho
  have room : p.words < p.chain.length * 16384 := by rw [Part.needsPage_iff] at hn; omega
  have last : isPage (p.chain.getLastD Config.pageCount) := by
    refine h.memory.isPage_of_chain hp ?_
    cases hc : p.chain.getLast? with
    | none => rw [List.getLast?_eq_none_iff.mp hc] at room; simp at room
    | some a => rw [List.getLastD_eq_getLast?, hc]; exact List.mem_of_getLast? hc
  rw [State.storeWord_of last]
  refine ⟨_, rfl, h.store (f := Part.store (s.dropCfg d) w) (taken := []) hp ho ?_
    ⟨fun q => (List.append_nil _).symm, fun _ => rfl, fun _ => rfl, fun _ => rfl, rfl, rfl, writeWord_wf _ _ _ _, rfl,
      rfl, rfl, rfl, rfl⟩⟩
  unfold pagesFor at pages ⊢
  rw [List.length_nil]
  omega

/-- A payload word for which the part takes a page stands in that page (05 R86, R97). -/
theorem State.StoreLaw.storeInTaken (h : s.StoreLaw) (hp : s.part n d = some p) (ho : p.status.isOpen = true)
    (hn : p.needsPage = true) {page : Nat} {rest : List Nat} (hf : s.fmm.freeList = page :: rest) (w : Word) :
    ∃ t, (s.takePage.2.modPart n d fun q => { q with chain := q.chain ++ [page] }).storeWord d n page p.words w =
      .next t ∧ t.StoreLaw := by
  have pages := h.open_pages hp ho
  rw [Part.needsPage_iff] at hn
  have page_exists : isPage page := h.memory.pages page (by rw [hf]; simp)
  have frame := s.takePage_frame
  have held := State.evalHold_keepsStore (s.modFmm fun f =>
    { f with freeList := rest, freeCount := f.freeCount - 1, lowWater := min f.lowWater (f.freeCount - 1) })
  rw [State.takePage_cons hf] at frame ⊢
  dsimp only at frame ⊢
  generalize State.evalHold _ = u at frame held
  rw [State.storeWord_of page_exists]
  refine ⟨_, rfl, h.store (taken := [page]) hp ho (by unfold pagesFor at pages ⊢; rw [List.length_singleton]; omega)
    (f := Part.store (u.dropCfg d) w ∘ fun q => { q with chain := q.chain ++ [page] }) ?_⟩
  refine ⟨fun _ => rfl, fun _ => rfl, fun _ => rfl, fun _ => rfl, ?_, held.stock.count, fun m =>
    writeWord_wf _ _ _ _ (held.stock.mem m), ?_, frame.get .rx, frame.get .loader, frame.get .cfg, frame.get .uplink⟩
  · exact hf.trans (congrArg (page :: ·) held.stock.free.symm)
  · rw [← State.modPart_modPart s n d (fun q => { q with chain := q.chain ++ [page] }) (Part.store (u.dropCfg d) w)
      fun _ => rfl]
    show (((u.modPart n d _).modPart n d _).shots) = _
    unfold State.modPart State.modEntry
    simp only [State.modShots_shots]
    rw [frame.get .shots]
    rfl

theorem State.loseWord_keepsStore (s : State) (d : Drop) (n : Half) : s.KeepsStore (s.loseWord d n) :=
  (s.modPart_keepsStore n d (fun p => { p with flags := { p.flags with truncated := true }, lost := bumpLong p.lost })
    fun _ => rfl).trans (State.modRx_keepsStore _ d _ fun _ m => m)

theorem State.overlongWord_keepsStore (s : State) (d : Drop) (n : Half) (k : Nat) : s.KeepsStore (s.overlongWord d n k) :=
  (s.flagPart_keepsStore n d _).trans (State.modRx_keepsStore _ d _ fun _ m => m)

/-- A payload word of an open part is overlong, lost or stored (05 R97, R98). -/
theorem State.StoreLaw.payloadWord (h : s.StoreLaw) (hp : s.part n d = some p) (ho : p.status.isOpen = true) (k : Nat)
    (w : Word) : ∃ t, s.payloadWord d n p k w = .next t ∧ t.StoreLaw := by
  unfold State.payloadWord
  by_cases overlong : Config.fragmentWords < k
  · rw [if_pos overlong]; exact ⟨_, rfl, h.keep (s.overlongWord_keepsStore d n k)⟩
  rw [if_neg overlong]
  by_cases truncated : p.flags.truncated = true
  · rw [if_pos truncated]; exact ⟨_, rfl, h.keep (s.loseWord_keepsStore d n)⟩
  rw [if_neg truncated]
  by_cases full : p.needsPage = true
  · rw [if_pos full]
    cases hf : s.fmm.freeList with
    | nil =>
      rw [State.takePage_nil hf]
      have failed := (s.modFmm_keepsStore (fun f => { f with takeFailures := bump f.takeFailures }) rfl rfl fun w => w).trans
        (State.evalHold_keepsStore _)
      exact ⟨_, rfl, h.keep (failed.trans (State.loseWord_keepsStore _ d n))⟩
    | cons page rest =>
      have stored := h.storeInTaken hp ho full hf w
      rw [State.takePage_cons hf] at stored ⊢
      exact stored
  · rw [if_neg full]; exact h.storeInLast hp ho full w

theorem State.heardItem_keepsStore (s : State) (d : Drop) : s.KeepsStore (s.heardItem d) :=
  .of_frame (s.heardItem_frame d) rfl

/-- A data word at a context completes (05 R97, R102). -/
theorem State.StoreLaw.dataAt (h : s.StoreLaw) (d : Drop) (w : Word) : ∃ t, s.dataAt d w = .next t ∧ t.StoreLaw := by
  unfold State.dataAt
  split
  · exact ⟨_, rfl, h.keep (s.modRx_keepsStore d _ fun _ m => nomatch m)⟩
  · exact ⟨_, rfl, h⟩
  · rename_i n hm
    obtain ⟨p, hp, ho⟩ := h.rx d n hm
    have counted := h.keep (s.modRx_keepsStore d (fun r => { r with arrived := satAdd 16777215 (s.rx.get d).arrived 1 })
      fun _ m => m)
    have found : (s.modRx d fun r => { r with arrived := satAdd 16777215 (s.rx.get d).arrived 1 }).part n d = some p := hp
    dsimp only
    rw [found]
    exact counted.payloadWord found ho _ w

/-! ## The start and the end of a fragment -/

/-- A fragment is bound to an open part (05 R95, R96). -/
theorem State.ShotLaw.fragmentShot (h : s.ShotLaw) {tag : Byte} (hf : s.fragmentShot d tag = some n) :
    ∃ p, s.part n d = some p ∧ p.status.isOpen = true := by
  obtain ⟨e, he, rfl⟩ := Option.map_eq_some_iff.mp hf
  have answers := List.find?_some he
  rw [Entry.answers, Bool.and_eq_true, Option.any_eq_true] at answers
  obtain ⟨-, p, hp, ho⟩ := answers
  exact ⟨p, (h.part (List.mem_of_find?_eq_some he) d).trans hp, ho⟩

/-- A context enters IN with an open part (05 R93, R96). -/
theorem State.StoreLaw.enter (h : s.StoreLaw) (hp : s.part n d = some p) (ho : p.status.isOpen = true)
    {f : Receiver → Receiver} (hf : (f (s.rx.get d)).mode = .inside n) : (s.modRx d f).StoreLaw := by
  refine ⟨h.memory.of_perm h.memory.wf h.memory.count (.refl _), State.ShotLaw.congr (s := s) rfl h.shots,
    fun e m hm => ?_, h.record.congr rfl rfl rfl rfl⟩
  rw [State.modRx_rx, PerDrop.get_set] at hm
  by_cases he : e = d
  · rw [if_pos he, hf] at hm
    cases hm
    exact ⟨p, he ▸ hp, ho⟩
  · rw [if_neg he] at hm
    exact h.rx e m hm

theorem Part.bind_outline (index : Nat) (p : Part) : (p.bind index).outline = p.outline := by
  unfold Part.bind Part.outline
  cases p.status <;> rfl

theorem State.StoreLaw.startFragment (h : s.StoreLaw) (d : Drop) (w : Word) : (s.startFragment d w).StoreLaw := by
  have skips : ∀ f : Receiver → Receiver, (∀ r, ∃ o, (f r).mode = .skip o) → (s.modRx d f).StoreLaw := fun f hf =>
    h.keep (s.modRx_keepsStore d f fun m hm => by obtain ⟨o, ho⟩ := hf (s.rx.get d); exact nomatch ho.symm.trans hm)
  refine .ite (fun _ => skips _ fun _ => ⟨_, rfl⟩) fun _ => ?_
  split
  · rename_i n hf
    obtain ⟨p, hp, ho⟩ := h.shots.fragmentShot hf
    have bound := h.keep (s.modPart_keepsStore n d _ (Part.bind_outline (startIndex w)))
    have same := State.part_outline (s.modPart_keepsStore n d _ (Part.bind_outline (startIndex w))).table n d
    rw [hp, Option.map_some, Option.map_eq_some_iff] at same
    obtain ⟨q, hq, e⟩ := same
    unfold State.bindFragment
    refine bound.enter hq ((congrArg Prod.fst e).trans ho) ?_
    rfl
  · exact .ite (fun _ => skips _ fun _ => ⟨_, rfl⟩) fun _ => skips _ fun _ => ⟨_, rfl⟩

theorem State.StoreLaw.endWord (h : s.StoreLaw) (d : Drop) (n : Half) (w : Word) : (s.endWord d n w).StoreLaw := by
  have short := h.keep (s.lengthError_keepsStore d n)
  have idle : ∀ (u : State) (f : Receiver → Receiver), u.StoreLaw → (f (u.rx.get d)).mode = .idle → (u.modRx d f).StoreLaw :=
    fun u f k hf => k.keep (u.modRx_keepsStore d f fun m hm => nomatch hf.symm.trans hm)
  refine .ite (fun _ => idle _ _ short rfl) fun _ => ?_
  have ended : State.StoreLaw ((if endCount w ≠ (s.rx.get d).arrived then s.lengthError d n else s).modRx d Receiver.toIdle) :=
    idle _ _ (.ite (fun _ => short) fun _ => h) rfl
  exact .ite (fun _ => ended.closePart n d _) fun _ => ended

theorem State.StoreLaw.closeAt (h : s.StoreLaw) (d : Drop) (w : Word) : (s.closeAt d w).StoreLaw := by
  unfold State.closeAt
  split
  · exact h.keep (s.modRx_keepsStore d _ fun _ m => m)
  · exact h.keep (s.modRx_keepsStore d _ fun _ m => nomatch m)
  · exact h.endWord d _ w

end

end Sys2Proof.Machine

/-! PROOF. The frame memory, the shot table and the record in progress (O55): the words of a record, in their places
(07 R131), and the pages that are returned as they are sent (07 R130, R133, R134). -/

namespace Sys2Proof.Machine

section
variable {s t : State} {e : Entry} {p q : Part} {i place : Nat}

/-! ## The places of a record's words -/

theorem State.fixedWords_length (s : State) (e : Entry) : (s.fixedWords e).length = 2 + 7 * e.parts.length := by
  have seven : ∀ l : List Part, (l.flatMap fun p => descriptorWords (s.dropCfg p.drop).frameSize p).length = 7 * l.length := by
    intro l
    induction l with
    | nil => rfl
    | cons p l ih =>
      rw [List.flatMap_cons, List.length_append, ih, List.length_cons]
      show 7 + 7 * l.length = _
      omega
  rw [State.fixedWords, List.length_append, seven]; rfl

/-- The length of a part's data in its drop's record (07 R132). -/
def State.dataOf (s : State) (p : Part) : Nat := dataLength (s.dropCfg p.drop).frameSize p

theorem State.dataStart_eq (s : State) (e : Entry) (l : List Part) :
    s.dataStart e l = 2 + 7 * e.parts.length + (l.map s.dataOf).sum := rfl

theorem State.recordLength_eq (s : State) (e : Entry) : s.recordLength e = s.dataStart e e.parts := rfl

/-- A word inside a part's data has its place there (07 R131). -/
theorem State.dataPlace_append (before after : List Part) (h : place < s.dataOf p) :
    s.dataPlace (before ++ p :: after) ((before.map s.dataOf).sum + place) = some (p, place) := by
  induction before with
  | nil =>
    rw [List.nil_append, List.map_nil, List.sum_nil, Nat.zero_add]
    exact if_pos h
  | cons q l ih =>
    rw [List.cons_append, List.map_cons, List.sum_cons]
    refine (if_neg ?_).trans ?_
    · show ¬_ < s.dataOf q
      omega
    · rw [← ih]
      congr 1
      show _ - s.dataOf q = _
      omega

/-- A place found is a place inside a part's data. -/
theorem State.of_dataPlace : ∀ (l : List Part) (i : Nat), s.dataPlace l i = some (p, place) →
    ∃ before after, l = before ++ p :: after ∧ place < s.dataOf p ∧ i = (before.map s.dataOf).sum + place
  | [], _, h => nomatch h
  | q :: l, i, h => by
    by_cases hi : i < s.dataOf q
    · rw [show s.dataPlace (q :: l) i = some (q, i) from if_pos hi] at h
      cases h
      exact ⟨[], l, rfl, hi, by simp⟩
    · rw [show s.dataPlace (q :: l) i = s.dataPlace l (i - s.dataOf q) from if_neg hi] at h
      obtain ⟨before, after, rfl, hp, hs⟩ := State.of_dataPlace l _ h
      refine ⟨q :: before, after, rfl, hp, ?_⟩
      rw [List.map_cons, List.sum_cons]
      omega

theorem State.dataPlace_isSome : ∀ (l : List Part) (i : Nat), i < (l.map s.dataOf).sum →
    ∃ p place, s.dataPlace l i = some (p, place)
  | [], _, h => nomatch h
  | q :: l, i, h => by
    by_cases hi : i < s.dataOf q
    · exact ⟨q, i, if_pos hi⟩
    · rw [show s.dataPlace (q :: l) i = s.dataPlace l (i - s.dataOf q) from if_neg hi]
      rw [List.map_cons, List.sum_cons] at h
      exact State.dataPlace_isSome l _ (by omega)

/-- The places of a record's words are those of every state with its configuration. -/
theorem State.dataPlace_of (cfg : t.cfg = s.cfg) : ∀ (l : List Part) (i : Nat), t.dataPlace l i = s.dataPlace l i
  | [], _ => rfl
  | q :: l, i => by
    unfold State.dataPlace
    dsimp only
    rw [State.dropCfg_of cfg, State.dataPlace_of cfg l]

theorem State.recordWord_fixed {w : Word} (h : (s.fixedWords e)[i]? = some w) : s.recordWord e i = .fixed w := by
  unfold State.recordWord
  rw [h]

theorem State.recordWord_data (hi : (s.fixedWords e).length ≤ i)
    (hd : s.dataPlace e.parts (i - (s.fixedWords e).length) = some (p, place)) :
    s.recordWord e i = if place < p.words then .stored p place else .fill := by
  unfold State.recordWord
  rw [List.getElem?_eq_none hi, hd]

/-! ## The pages left as words are sent -/

/-- A word outside a part's data leaves the part the pages it had. -/
theorem State.pagesLeft_outside (q : Part) {start : Nat} (h : ¬(start ≤ i ∧ i < start + s.dataOf q)) :
    s.pagesLeft q (i + 1 - start) = s.pagesLeft q (i - start) := by
  by_cases hi : start ≤ i
  · have past : s.dataOf q ≤ i - start := by omega
    have all : min q.words (s.dropCfg q.drop).frameSize ≤ i - start := by
      unfold State.dataOf dataLength at past
      split at past <;> omega
    unfold State.pagesLeft
    rw [if_pos all, if_pos (by omega)]
  · rw [show i + 1 - start = 0 by omega, show i - start = 0 by omega]

/-- The record of an entry goes on by a word that no part with pages left holds. -/
theorem State.AtWord.next (h : s.AtWord i e)
    (inside : ∀ before q after, e.parts = before ++ q :: after → s.dataStart e before ≤ i →
      i < s.dataStart e before + s.dataOf q →
        s.pagesLeft q (i + 1 - s.dataStart e before) = s.pagesLeft q (i - s.dataStart e before)) :
    s.AtWord (i + 1) e := by
  refine ⟨h.sending, fun before q after hq => ?_⟩
  rw [h.pages before q after hq]
  by_cases k : s.dataStart e before ≤ i ∧ i < s.dataStart e before + s.dataOf q
  · exact (inside before q after hq k.1 k.2).symm
  · exact (s.pagesLeft_outside q k).symm

theorem State.AtWord.next_fixed (h : s.AtWord i e) (hi : i < (s.fixedWords e).length) : s.AtWord (i + 1) e := by
  refine h.next fun before q after _ hl _ => ?_
  rw [State.fixedWords_length] at hi
  rw [State.dataStart_eq] at hl
  omega

/-- A word inside the data of a part of an entry, and its place. -/
theorem State.place_unique (hi : (s.fixedWords e).length ≤ i)
    (hd : s.dataPlace e.parts (i - (s.fixedWords e).length) = some (p, place)) {before after : List Part}
    (hq : e.parts = before ++ q :: after) (hl : s.dataStart e before ≤ i) (hu : i < s.dataStart e before + s.dataOf q) :
    q = p ∧ i - s.dataStart e before = place := by
  have found := s.dataPlace_append (place := i - s.dataStart e before) before after (by omega : _ < s.dataOf q)
  rw [← hq] at found
  rw [State.fixedWords_length] at hi hd
  rw [State.dataStart_eq] at hl found ⊢
  rw [show (before.map s.dataOf).sum + (i - (2 + 7 * e.parts.length + (before.map s.dataOf).sum)) =
    i - (2 + 7 * e.parts.length) by omega, hd] at found
  cases found
  exact ⟨rfl, rfl⟩

theorem State.AtWord.next_fill (h : s.AtWord i e) (hi : (s.fixedWords e).length ≤ i)
    (hd : s.dataPlace e.parts (i - (s.fixedWords e).length) = some (p, place)) (hp : p.words ≤ place) :
    s.AtWord (i + 1) e := by
  refine h.next fun before q after hq hl hu => ?_
  obtain ⟨rfl, hs⟩ := s.place_unique hi hd hq hl hu
  unfold State.pagesLeft
  rw [if_pos (by omega), if_pos (by omega)]

/-- The due pages stand at the head of the part's chain. -/
theorem pagesDue_append (frameSize : Nat) (p : Part) (place : Nat) :
    pagesDue frameSize p place ++ p.chain.drop (pagesDue frameSize p place).length = p.chain := by
  unfold pagesDue
  split_ifs
  · simp
  · cases p.chain <;> rfl
  · rfl

/-- A part with its due pages returned has the pages left of the word behind (07 R133). -/
theorem State.pagesLeft_returned (hw : place < p.words) (hd : place < s.dataOf p)
    (hc : p.chain.length = s.pagesLeft p place) :
    (p.chain.drop (pagesDue (s.dropCfg p.drop).frameSize p place).length).length = s.pagesLeft p (place + 1) := by
  have frame : place < (s.dropCfg p.drop).frameSize := by
    unfold State.dataOf dataLength at hd
    split at hd <;> omega
  rw [List.length_drop]
  unfold State.pagesLeft pagesFor at hc ⊢
  rw [if_neg (by omega)] at hc
  unfold pagesDue emittedWords
  rw [show Config.pageWords = 16384 from rfl]
  by_cases last : place + 1 = min p.words (s.dropCfg p.drop).frameSize
  · rw [if_pos last, if_pos (by omega), Nat.sub_self]
  have more : ¬min p.words (s.dropCfg p.drop).frameSize ≤ place + 1 := by omega
  rw [if_neg last, if_neg more]
  by_cases full : (place + 1) % 16384 = 0
  · rw [if_pos full, List.length_take]; omega
  · rw [if_neg full, List.length_nil]; omega

/-- The pages of a part whose due ones have been returned. -/
def Part.dropPages (k : Nat) (p : Part) : Part := { p with chain := p.chain.drop k }

theorem State.AtWord.next_stored (h : s.AtWord i e) (drops : (e.parts.map Part.drop).Nodup)
    (hi : (s.fixedWords e).length ≤ i) (hd : s.dataPlace e.parts (i - (s.fixedWords e).length) = some (p, place))
    (hw : place < p.words) :
    s.AtWord (i + 1) (e.modPart p.drop (Part.dropPages (pagesDue (s.dropCfg p.drop).frameSize p place).length)) := by
  obtain ⟨b, a, parts, inside, at_place⟩ := s.of_dataPlace _ _ hd
  generalize hk : (pagesDue (s.dropCfg p.drop).frameSize p place).length = k
  have length : (e.modPart p.drop (Part.dropPages k)).parts.length = e.parts.length := List.length_map _
  refine ⟨h.sending, fun before q' after hq' => ?_⟩
  obtain ⟨before, rest, hq, rfl, hr⟩ := List.map_eq_append_iff.mp hq'
  obtain ⟨q, after, rfl, rfl, -⟩ := List.map_eq_cons_iff.mp hr
  have start : s.dataStart (e.modPart p.drop (Part.dropPages k))
      (before.map fun x => if x.drop = p.drop then x.dropPages k else x) =
      s.dataStart e before := by
    rw [State.dataStart_eq, State.dataStart_eq, length, List.map_map]
    congr 2
    refine List.map_congr_left fun x _ => ?_
    simp only [Function.comp]
    split <;> rfl
  rw [start]
  have pages := h.pages before q after hq
  by_cases hin : s.dataStart e before ≤ i ∧ i < s.dataStart e before + s.dataOf q
  · obtain ⟨rfl, hs⟩ := s.place_unique hi hd hq hin.1 hin.2
    rw [hs] at pages
    have returned := s.pagesLeft_returned hw inside pages
    rw [hk] at returned
    rw [if_pos rfl, show i + 1 - s.dataStart e before = place + 1 by omega]
    exact returned
  · have other : q.drop ≠ p.drop := by
      intro k
      have same : q = p := List.inj_on_of_nodup_map drops (by rw [hq]; simp) (by rw [parts]; simp) k
      subst same
      have nodup := drops.of_map
      rw [parts, List.nodup_middle, List.nodup_cons, List.mem_append, not_or] at nodup
      obtain ⟨rfl, -, -⟩ := (List.append_cons_inj_of_notMem nodup.1.1 nodup.1.2).mp (parts.symm.trans hq)
      rw [State.fixedWords_length] at hi at_place
      rw [State.dataStart_eq] at hin
      omega
    rw [if_neg other, pages]
    exact (s.pagesLeft_outside q hin).symm

end

end Sys2Proof.Machine

/-! PROOF. The frame memory, the shot table and the record in progress (O55), kept as a record begins, goes on and ends
(07 R130, R133, R134), and at every command. -/

namespace Sys2Proof.Machine

section
variable {s t u : State} {e : Entry} {rest : List Entry} {p : Part} {i place : Nat}

/-! ## A word has been sent -/

/-- A word of the oldest entry's record has been sent and the next is not yet looked for: the laws hold of the word
behind, which may be the end of the record. -/
structure State.WordTaken (s : State) (i : Nat) (e : Entry) (rest : List Entry) : Prop where
  memory : s.MemoryLaw
  shots : s.ShotLaw
  rx : s.RxLaw
  loading : s.loader = .loading ↔ s.cfg = none
  loaded : s.cfg ≠ none
  frames : ∀ d, 1 ≤ (s.dropCfg d).frameSize
  table : s.shots.table = e :: rest
  unsent : ∀ x ∈ rest, x.Unsent
  word : s.AtWord i e

/-- The record in progress is one of the oldest entry. -/
theorem State.StoreLaw.sending (h : s.StoreLaw) (hr : s.uplink.record = some i) :
    ∃ e rest, s.shots.table = e :: rest ∧ s.WordTaken i e rest ∧ i < s.recordLength e := by
  obtain ⟨e, rest, ht, hs, hi, hrest, hp⟩ := h.record.within i hr
  refine ⟨e, rest, ht, ⟨h.memory, h.shots, h.rx, h.record.loading, fun hc => ?_, h.record.frames, ht, hrest, hs, hp⟩, hi⟩
  exact nomatch hr.symm.trans (h.record.unloaded hc).2

theorem State.WordTaken.keep (h : s.WordTaken i e rest) (k : s.KeepsStore t) (table : t.shots.table = s.shots.table) :
    t.WordTaken i e rest where
  memory := h.memory.keep k.stock
  shots := h.shots.keep k.table
  rx := h.rx.keep k
  loading := by rw [k.stock.loader, k.stock.cfg]; exact h.loading
  loaded := by rw [k.stock.cfg]; exact h.loaded
  frames d := by rw [State.dropCfg_of k.stock.cfg]; exact h.frames d
  table := table.trans h.table
  unsent := h.unsent
  word := h.word.of_stock k.stock.cfg rfl

/-- The record goes on (07 R133). -/
theorem State.WordTaken.goesOn (h : s.WordTaken i e rest) (hi : i < s.recordLength e) :
    (s.modUplink fun u => { u with record := some i }).StoreLaw := by
  refine ⟨h.memory.of_perm h.memory.wf h.memory.count (.refl _), State.ShotLaw.congr (s := s) rfl h.shots, h.rx, h.loading,
    fun hc => absurd hc h.loaded, h.frames, nofun, fun j hj => ?_⟩
  cases hj
  exact ⟨e, rest, h.table, h.word.sending, hi, h.unsent, h.word.pages⟩

/-- A part has no pages left at the end of its record (07 R133). -/
theorem State.WordTaken.emptied (h : s.WordTaken i e rest) (hi : s.recordLength e ≤ i) (hp : p ∈ e.parts) : p.chain = [] := by
  obtain ⟨before, after, parts⟩ := List.append_of_mem hp
  have pages := h.word.pages before p after parts
  have past : s.dataStart e before + s.dataOf p ≤ i := by
    rw [State.recordLength_eq, State.dataStart_eq] at hi
    rw [State.dataStart_eq]
    rw [parts, List.map_append, List.map_cons, List.sum_append, List.sum_cons, ← parts] at hi
    omega
  have all : min p.words (s.dropCfg p.drop).frameSize ≤ i - s.dataStart e before := by
    unfold State.dataOf dataLength at past
    split at past <;> omega
  unfold State.pagesLeft at pages
  rw [if_pos all] at pages
  exact List.length_eq_zero_iff.mp pages

/-- A context in IN keeps its open part where of the entries the oldest alone, which has none, changes or leaves. -/
theorem State.RxLaw.of_rest (h : s.RxLaw) (ht : s.shots.table = e :: rest) (shut : e.hasOpenPart = false)
    (rx : t.rx = s.rx) (numbers : (t.shots.table.map Entry.trigger).Nodup) (kept : ∀ x ∈ rest, x ∈ t.shots.table) :
    t.RxLaw := by
  refine h.of_open (fun d n m => by rw [rx] at m; exact m) fun d n p _ hp ho => ⟨p, ?_, ho⟩
  obtain ⟨x, hx, hn, hq⟩ := State.entry_of_part hp
  rw [ht] at hx
  rcases List.mem_cons.mp hx with rfl | hx
  · exact absurd (List.any_eq_true.mpr ⟨p, (Entry.mem_of_part hq).1, ho⟩) (Bool.eq_false_iff.mp shut)
  · rw [← hn, State.part_of_mem numbers (kept x hx), hq]

/-- The sent entry leaves the table (07 R134). -/
theorem State.WordTaken.ends (h : s.WordTaken i e rest) (hi : s.recordLength e ≤ i) : s.endRecord.StoreLaw := by
  refine State.StoreLaw.keep ?_ (State.boundaryDecision_keepsStore _)
  generalize hu : (s.modShots fun b => { b with table := b.table.tail }).modUplink _ = u
  have table : u.shots.table = rest := by
    rw [← hu]
    show s.shots.table.tail = rest
    rw [h.table]; rfl
  have fmm : u.fmm = s.fmm := by rw [← hu]; rfl
  have rx : u.rx = s.rx := by rw [← hu]; rfl
  have loader : u.loader = s.loader := by rw [← hu]; rfl
  have cfg : u.cfg = s.cfg := by rw [← hu]; rfl
  have record : u.uplink.record = none := by rw [← hu]; rfl
  have mem : ∀ x ∈ rest, x ∈ s.shots.table := fun x hx => h.table ▸ List.mem_cons_of_mem _ hx
  have shut : e.hasOpenPart = false := by
    have := h.shots.opened e (h.table ▸ List.mem_cons_self)
    rw [h.word.sending] at this
    exact Bool.eq_false_iff.mpr fun k => nomatch this.mpr k
  have size := h.shots.size
  have numbers := h.shots.numbers
  rw [h.table] at size numbers
  have behind : (u.shots.table.map Entry.trigger).Nodup := by rw [table]; exact (List.nodup_cons.mp numbers).2
  refine ⟨?_, ⟨?_, behind, fun x hx => ?_, fun x hx => ?_, fun x hx => ?_⟩,
    h.rx.of_rest h.table shut rx behind fun x hx => table ▸ hx, ?_⟩
  · have chained : u.chained = s.chained := by
      unfold State.chained
      rw [table, h.table, List.flatMap_cons, List.flatMap_eq_nil_iff.mpr fun p hp => h.emptied hi hp]
      rfl
    exact h.memory.of_perm (fmm ▸ h.memory.wf) (fmm ▸ h.memory.count) (by rw [chained, fmm])
  · rw [table]; exact Nat.le_of_succ_le size
  · exact h.shots.drops x (mem x (table ▸ hx))
  · exact h.shots.opened x (mem x (table ▸ hx))
  · exact h.shots.aged x (mem x (table ▸ hx))
  · exact ⟨by rw [loader, cfg]; exact h.loading, fun hc => absurd (cfg ▸ hc) h.loaded,
      fun d => by rw [State.dropCfg_of cfg]; exact h.frames d, fun _ x hx => h.unsent x (table ▸ hx),
      fun j hj => nomatch record.symm.trans hj⟩

theorem State.WordTaken.afterWord (h : s.WordTaken (i + 1) e rest) {length : Nat} (hl : length = s.recordLength e) :
    (s.afterWord i length).StoreLaw := by
  subst hl
  exact .ite (fun hi => h.goesOn hi) fun hi => h.ends (Nat.le_of_not_lt hi)

/-! ## Sending a word -/

theorem State.returnPage_fmm (s : State) (page : Nat) :
    (s.returnPage page).fmm.freeList = s.fmm.freeList ++ [page] ∧ (s.returnPage page).fmm.freeCount = s.fmm.freeCount + 1 ∧
      (Memory.wf s.fmm.mem = true → Memory.wf (s.returnPage page).fmm.mem = true) := by
  have held := State.evalHold_keepsStore (s.modFmm fun f =>
    { f with freeList := f.freeList ++ [page], freeCount := f.freeCount + 1 })
  exact ⟨held.stock.free, held.stock.count, held.stock.mem⟩

theorem State.returnPages_fmm (s : State) (due : List Nat) :
    (s.returnPages due).fmm.freeList = s.fmm.freeList ++ due ∧
      (s.returnPages due).fmm.freeCount = s.fmm.freeCount + due.length ∧
      (Memory.wf s.fmm.mem = true → Memory.wf (s.returnPages due).fmm.mem = true) := by
  induction due generalizing s with
  | nil => exact ⟨(List.append_nil _).symm, rfl, fun w => w⟩
  | cons page due ih =>
    obtain ⟨free, count, mem⟩ := s.returnPage_fmm page
    obtain ⟨frees, counts, mems⟩ := ih (s.returnPage page)
    refine ⟨frees.trans ?_, counts.trans ?_, fun w => mems (mem w)⟩
    · rw [free, List.append_assoc]; rfl
    · rw [count, List.length_cons]; omega

/-- A change of a part of the oldest entry. -/
theorem State.ShotLaw.modPart_head (h : s.ShotLaw) (ht : s.shots.table = e :: rest) (d : Drop) (f : Part → Part) :
    (s.modPart e.trigger d f).shots.table = e.modPart d f :: rest := by
  have numbers := h.numbers
  rw [ht] at numbers
  show List.map _ s.shots.table = _
  rw [ht]
  exact List.map_if_middle (pre := []) Entry.trigger (·.modPart d f) numbers

/-- The pages due leave the part of the oldest entry. -/
theorem State.returnDue_eq (h : s.ShotLaw) (ht : s.shots.table = e :: rest) (d : Drop) (due : List Nat) :
    s.returnDue d due = (s.modPart e.trigger d (Part.dropPages due.length)).returnPages due := by
  have table := (h.modPart_head ht d (Part.dropPages due.length)).symm
  unfold State.returnDue
  refine congrArg (State.returnPages · due) (congrArg (fun x => { s with shots := { s.shots with table := x } }) ?_)
  refine Eq.trans ?_ table
  rw [ht]
  rfl

/-- A stored word has been sent, and its part's pages due have returned (07 R133). -/
theorem State.WordTaken.returnDue (h : s.WordTaken i e rest) (hi : (s.fixedWords e).length ≤ i)
    (hd : s.dataPlace e.parts (i - (s.fixedWords e).length) = some (p, place)) (hw : place < p.words) :
    ∃ x, (s.returnDue p.drop (pagesDue (s.dropCfg p.drop).frameSize p place)).WordTaken (i + 1) x rest ∧
      (s.returnDue p.drop (pagesDue (s.dropCfg p.drop).frameSize p place)).recordLength x = s.recordLength e := by
  have mem : e ∈ s.shots.table := h.table ▸ List.mem_cons_self
  obtain ⟨before, after, parts, -, -⟩ := s.of_dataPlace _ _ hd
  have found : s.part e.trigger p.drop = some p :=
    (h.shots.part mem _).trans (List.find?_nodup (h.shots.drops e mem) (by rw [parts]; simp))
  have word := h.word.next_stored (h.shots.drops e mem) hi hd hw
  have chain := pagesDue_append (s.dropCfg p.drop).frameSize p place
  rw [State.returnDue_eq h.shots h.table]
  generalize pagesDue (s.dropCfg p.drop).frameSize p place = due at word chain
  have opened := h.shots.modPart e.trigger p.drop (f := Part.dropPages due.length) (fun _ => rfl) fun _ => rfl
  have bound := h.rx.modPart e.trigger p.drop (f := Part.dropPages due.length) (fun _ => rfl) fun _ => rfl
  obtain ⟨A, B, old, new⟩ := h.shots.chained_split found
  have left := new (Part.dropPages due.length)
  have table := h.shots.modPart_head h.table p.drop (Part.dropPages due.length)
  obtain ⟨free, count, wf⟩ := (s.modPart e.trigger p.drop (Part.dropPages due.length)).returnPages_fmm due
  have frame := (s.modPart e.trigger p.drop (Part.dropPages due.length)).returnPages_frame due
  generalize (s.modPart e.trigger p.drop (Part.dropPages due.length)).returnPages due = u at free count wf frame
  have shots : u.shots = (s.modPart e.trigger p.drop (Part.dropPages due.length)).shots := frame.get .shots
  have cfg : u.cfg = s.cfg := frame.get .cfg
  have loader : u.loader = s.loader := frame.get .loader
  have rx : u.rx = s.rx := frame.get .rx
  refine ⟨_, ⟨?_, opened.congr shots.symm, ?_, by rw [loader, cfg]; exact h.loading, by rw [cfg]; exact h.loaded,
    fun d => by rw [State.dropCfg_of cfg]; exact h.frames d, by rw [shots, table], h.unsent, word.of_stock cfg rfl⟩, ?_⟩
  · have chained : u.chained = A ++ (p.chain.drop due.length ++ B) := by
      refine Eq.trans ?_ left
      unfold State.chained
      rw [shots]
    refine h.memory.of_perm (wf h.memory.wf) ?_ ?_
    · rw [count, free, List.length_append]
      exact congrArg (· + due.length) h.memory.count
    · rw [free, chained, old]
      generalize p.chain.drop due.length = kept at chain
      rw [← chain]
      refine List.perm_iff_count.mpr fun a => ?_
      simp only [List.count_append, State.modPart, State.modEntry, State.modShots_fmm]
      omega
  · exact bound.of_open (fun d n m => by rw [rx] at m; exact m) fun d n q _ hq ho =>
      ⟨q, (State.part_congr shots n d).trans hq, ho⟩
  · have data : u.dataOf = s.dataOf := funext fun q => by unfold State.dataOf; rw [State.dropCfg_of cfg]
    rw [State.recordLength_eq, State.recordLength_eq, State.dataStart_eq, State.dataStart_eq, data,
      e.modPart_map p.drop (f := Part.dropPages due.length) s.dataOf fun _ => rfl]
    exact congrArg (fun k => 2 + 7 * k + _) (List.length_map _)

theorem State.sent_keepsStore (s : State) (w : Word) : s.KeepsStore (s.sent w) := s.modUplink_keepsStore _ rfl

/-- The head of the chain of a part with a stored word still to be sent is a page. -/
theorem State.WordTaken.head_page (h : s.WordTaken i e rest) (hi : (s.fixedWords e).length ≤ i)
    (hd : s.dataPlace e.parts (i - (s.fixedWords e).length) = some (p, place)) (hw : place < p.words) :
    isPage (p.chain.headD Config.pageCount) := by
  obtain ⟨before, after, parts, inside, at_place⟩ := s.of_dataPlace _ _ hd
  have pages := h.word.pages before p after parts
  rw [State.fixedWords_length] at hi at_place
  have start := s.dataStart_eq e before
  rw [show i - s.dataStart e before = place by omega] at pages
  have frame : place < (s.dropCfg p.drop).frameSize := by
    unfold State.dataOf dataLength at inside
    split at inside <;> omega
  unfold State.pagesLeft pagesFor at pages
  rw [if_neg (by omega)] at pages
  have mem : p.chain.headD Config.pageCount ∈ p.chain := by
    cases hc : p.chain with
    | nil => rw [hc, List.length_nil] at pages; omega
    | cons a l => exact List.mem_cons_self
  refine h.memory.pages _ (List.mem_append_right _ (State.mem_chained (e := e) (h.table ▸ List.mem_cons_self) ?_ mem))
  rw [parts]; simp

/-- The word that the link layer takes is sent, whichever word of the record it is (07 R132). -/
theorem State.WordTaken.sendWord (h : s.WordTaken i e rest) (hi : i < s.recordLength e) (fill : Word) :
    ∃ t x, s.sendWord fill (s.recordWord e i) = .next t ∧ t.WordTaken (i + 1) x rest ∧
      s.recordLength e = t.recordLength x := by
  have sent : ∀ w, (s.sent w).WordTaken i e rest := fun w => h.keep (s.sent_keepsStore w) rfl
  by_cases fixed : i < (s.fixedWords e).length
  · rw [State.recordWord_fixed (List.getElem?_eq_getElem fixed)]
    exact ⟨_, e, rfl, { sent _ with word := (sent _).word.next_fixed fixed }, rfl⟩
  have hl := Nat.le_of_not_lt fixed
  have data : i - (s.fixedWords e).length < (e.parts.map s.dataOf).sum := by
    rw [State.fixedWords_length] at hl ⊢
    rw [State.recordLength_eq, State.dataStart_eq] at hi
    omega
  obtain ⟨p, place, hd⟩ := State.dataPlace_isSome _ _ data
  rw [State.recordWord_data hl hd]
  by_cases hw : place < p.words
  · rw [if_pos hw]
    unfold State.sendWord
    dsimp only
    rw [if_pos (frameAddressExists_of (h.head_page hl hd hw) place)]
    generalize readWord s.fmm.mem (p.chain.headD Config.pageCount) (place % Config.pageWords) = w
    have fixedWords : (s.sent w).fixedWords e = s.fixedWords e := rfl
    have dataPlace := State.dataPlace_of (s := s) (t := s.sent w) rfl e.parts (i - (s.fixedWords e).length)
    obtain ⟨x, taken, length⟩ := (sent w).returnDue (fixedWords ▸ hl) (fixedWords ▸ dataPlace.trans hd) hw
    exact ⟨_, x, rfl, taken, length.symm⟩
  · rw [if_neg hw]
    have filled := (sent fill).keep (State.modUplink_keepsStore _ (fun u => { u with fillWords := bumpLong u.fillWords }) rfl) rfl
    exact ⟨_, e, rfl, { filled with
      word := (h.word.next_fill hl hd (Nat.le_of_not_lt hw)).of_stock rfl rfl }, rfl⟩

theorem State.StoreLaw.uplinkWordSent (h : s.StoreLaw) : ∃ t, execUplinkWordSent s = .next t ∧ t.StoreLaw := by
  unfold execUplinkWordSent
  split
  · rename_i c e rest i hc ht hr
    split
    · obtain ⟨x, l, hx, taken, hi⟩ := h.sending hr
      obtain ⟨rfl, rfl⟩ := List.cons.inj (ht.symm.trans hx)
      obtain ⟨t, x, sent, taken, length⟩ := taken.sendWord hi c.station.fillWord
      rw [sent]
      exact ⟨_, rfl, taken.afterWord length⟩
    · exact ⟨s, rfl, h⟩
  · exact ⟨s, rfl, h⟩

/-! ## A record begins -/

/-- The boundary decision gives NONE where the oldest entry is not OPEN (07 R129). -/
theorem State.not_open_of_pauseNow (ht : s.shots.table = e :: rest) (hp : s.pauseNow = .none) : e.state ≠ .open := by
  intro ho
  unfold State.pauseNow at hp
  rw [ht] at hp
  split at hp
  · cases hp
  · dsimp only at hp
    rw [if_pos ho] at hp
    split_ifs at hp

/-- The parts of a sending entry are those it had, but for FRAME_CUT (07 R130). -/
theorem State.sendingEntry_parts (s : State) (e : Entry) : ∃ f : Part → Part, (∀ p, (f p).outline = p.outline) ∧
    (s.sendingEntry e).parts = e.parts.map f := by
  refine ⟨fun p => if s.isCut p then { p with flags := { p.flags with frameCut := true } } else p, fun p => ?_, rfl⟩
  dsimp only
  split <;> rfl

theorem State.StoreLaw.beginRecord (h : s.StoreLaw) (hc : s.cfg ≠ none) (hr : s.uplink.record = none)
    (ht : s.shots.table = e :: rest) (ho : e.state ≠ .open) (ring : Nat) : (s.beginRecord ring e rest).StoreLaw := by
  obtain ⟨f, hf, parts⟩ := s.sendingEntry_parts e
  have stock : ∀ q, (f q).stock = q.stock := fun q => congrArg Prod.snd (hf q)
  have mem : e ∈ s.shots.table := ht ▸ List.mem_cons_self
  have old : ∀ x ∈ rest, x ∈ s.shots.table := fun x hx => ht ▸ List.mem_cons_of_mem _ hx
  have table : (s.beginRecord ring e rest).shots.table = s.sendingEntry e :: rest := rfl
  have all : ∀ {P : Entry → Prop}, P (s.sendingEntry e) → (∀ x ∈ s.shots.table, P x) →
      ∀ x ∈ (s.beginRecord ring e rest).shots.table, P x := by
    intro P new l x hx
    rw [table] at hx
    rcases List.mem_cons.mp hx with rfl | hx
    · exact new
    · exact l x (old x hx)
  have shut : (s.sendingEntry e).hasOpenPart = e.hasOpenPart := by
    unfold Entry.hasOpenPart
    rw [parts, List.any_map]
    exact congrArg (e.parts.any ·) (funext fun q => congrArg Prod.fst (hf q))
  have unsent := h.record.between hr
  have numbers : ((s.beginRecord ring e rest).shots.table.map Entry.trigger).Nodup := by
    have := h.shots.numbers
    rw [ht] at this
    exact this
  have closed : e.hasOpenPart = false := Bool.eq_false_iff.mpr fun k => ho ((h.shots.opened e mem).mpr k)
  refine ⟨?_, ⟨?_, numbers, all ?_ h.shots.drops, all ?_ h.shots.opened, all ?_ h.shots.aged⟩,
    h.rx.of_rest ht closed rfl numbers fun x hx => List.mem_cons_of_mem _ hx, h.record.loading,
    fun k => absurd k hc, h.record.frames, nofun, fun i hi => ?_⟩
  · refine h.memory.of_perm h.memory.wf h.memory.count ?_
    have chained : (s.beginRecord ring e rest).chained = s.chained := by
      unfold State.chained
      rw [table, ht, List.flatMap_cons, List.flatMap_cons, parts, List.flatMap_map]
      simp only [Part.stock_chain (stock _)]
    rw [chained]; exact .refl _
  · have := h.shots.size
    rw [ht] at this
    exact this
  · rw [parts, List.map_map, show Part.drop ∘ f = Part.drop from funext fun q => Part.stock_drop (stock q)]
    exact h.shots.drops e mem
  · rw [shut, closed]
    exact iff_of_false nofun nofun
  · exact iff_of_false (fun k => ho ((h.shots.aged e mem).mp k)) nofun
  · cases hi
    refine ⟨s.sendingEntry e, rest, rfl, rfl, ?_, fun x hx => unsent x (old x hx), fun before q after hq => ?_⟩
    · rw [State.dataStart_eq]; omega
    · have hm : q ∈ e.parts.map f := parts ▸ hq ▸ (by simp)
      obtain ⟨r, hr', rfl⟩ := List.mem_map.mp hm
      have frame := h.record.frames (f r).drop
      have pages := (unsent e mem).2 r hr'
      rw [← Part.stock_chain (stock r), ← Part.stock_words (stock r)] at pages
      rw [Nat.zero_sub, pages]
      unfold State.pagesLeft pagesFor
      rw [show (s.beginRecord ring e rest).dropCfg (f r).drop = s.dropCfg (f r).drop from rfl]
      split <;> omega

end

end Sys2Proof.Machine

/-! PROOF. The frame memory, the shot table and the record in progress at every command (O55). -/

namespace Sys2Proof.Machine

section
variable {s t : State}

/-- A command of the Fragment Receiver and one of the Uplink Sender can fault, and no other. -/
theorem exec_completes {c : Instr} (hd : ∀ d w, c ≠ .dataWord d w) (hu : c ≠ .uplinkWordSent) :
    ∃ t, exec c s = .next t := by
  cases c with
  | dataWord d w => exact absurd rfl (hd d w)
  | uplinkWordSent => exact absurd rfl hu
  | _ => exact ⟨_, rfl⟩

theorem State.StoreLaw.dataWord (h : s.StoreLaw) (d : Drop) (w : Word) :
    ∃ t, exec (.dataWord d w) s = .next t ∧ t.StoreLaw := by
  show ∃ t, execDataWord d w s = .next t ∧ t.StoreLaw
  unfold execDataWord
  split
  · exact (h.keep (s.heardItem_keepsStore d)).dataAt d w
  · exact ⟨s, rfl, h⟩

/-- A command that touches none of the fields that the laws read keeps them. -/
theorem State.StoreLaw.untouched (h : s.StoreLaw) {c : Instr} (he : Machine.exec c s = .next t)
    (hl : (storeBlocks.all fun b => !(touchedBy c).contains b) = true) : t.StoreLaw := h.of_frame (exec_frame c he) hl

/-- Every command but the two that can fault keeps the laws. -/
theorem State.StoreLaw.exec (h : s.StoreLaw) {c : Instr} (hd : ∀ d w, c ≠ .dataWord d w) (hu : c ≠ .uplinkWordSent)
    (he : Machine.exec c s = .next t) : t.StoreLaw := by
  have item : ∀ d, (s.heardItem d).StoreLaw := fun d => h.keep (s.heardItem_keepsStore d)
  have uplink : ∀ f, (f s.uplink).record = s.uplink.record → (s.modUplink f).StoreLaw := fun f k =>
    h.keep (s.modUplink_keepsStore f k)
  cases c with
  | dataWord d w => exact absurd rfl (hd d w)
  | uplinkWordSent => exact absurd rfl hu
  | powerOnReset pins => cases he; exact s.resetAll_storeLaw pins
  | cellReset src target pins =>
    cases he
    refine h.hear src fun u hu => ?_
    exact .ite (fun _ => .ite (fun _ => u.cellReset_storeLaw pins) fun _ =>
      hu.keep ⟨⟨rfl, rfl, fun w => w, rfl, rfl, rfl, rfl⟩, rfl, fun _ _ m => m⟩) fun _ => hu
  | loadEnd read => cases he; exact .ite (fun hl => h.loadEnd hl read) fun _ => h
  | triggerNote note =>
    cases he
    split
    · exact h.hear _ fun u hu => hu.takeTrigger _ _ _
    · exact h.triggerEcho
  | powerOff r =>
    cases he
    refine h.takeDropRequest _ _ r fun d u hu => ?_
    exact ((hu.of_frame (u.modDrop_frame d _) rfl).turnOff d).of_frame (State.answer_frame _ _ _ _ _) rfl
  | rampWindowExpiry d => cases he; exact .ite (fun _ => h.trip d _) fun _ => h
  | currentAboveSteady d n => cases he; exact h.sampleCurrent d n
  | currentBelowSteady d n => cases he; exact h.sampleCurrent d n
  | steadyTripExpiry d => cases he; exact .ite (fun _ => h.trip d _) fun _ => h
  | hardTrip d => cases he; exact .ite (fun _ => h.trip d _) fun _ => h
  | napTimerExpiry d =>
    cases he
    exact .ite (fun _ => (h.powerDown d _).of_frame (State.reportState_frame _ d _ _) rfl) fun _ => h
  | warmTimerExpiry d => cases he; exact .ite (fun _ => h.enterFault d _) fun _ => h
  | relockWindowExpiry d => cases he; exact .ite (fun _ => h.enterFault d _) fun _ => h
  | lockLoss d o => cases he; exact .ite (fun _ => h.loseLock d o) fun _ => h
  | lockTimeout d o => cases he; exact .ite (fun _ => h.loseLock d o) fun _ => h
  | beat d =>
    cases he
    exact .ite (fun _ => (((item d).of_frame (State.modLink_frame _ d _) rfl).keep (State.endFragment_keepsStore _ d)).keep
      (State.beatSeen_keepsStore _ d)) fun _ => h
  | openWord d w =>
    cases he
    exact .ite (fun _ => ((item d).keep (State.endFragment_keepsStore _ d)).startFragment d w) fun _ => h
  | closeWord d w => cases he; exact .ite (fun _ => (item d).closeAt d w) fun _ => h
  | shotTimeout n =>
    cases he
    split
    · exact .ite (fun _ => h.timeoutEntry n) fun _ => h
    · exact h
  | slotMark m =>
    cases he
    refine .ite (fun _ => h) fun _ => .ite (fun _ => ?_) fun _ => ?_
    · exact .ite (fun _ => (uplink _ rfl).keep (State.setPause_keepsStore _ _)) fun _ => h
    · split
      · exact .ite (fun _ => uplink _ rfl) fun _ => (uplink _ rfl).keep (State.boundaryDecision_keepsStore _)
      · exact h
  | recordStart =>
    cases he
    split
    · rename_i c e rest hc ht
      exact .ite (fun k => h.beginRecord (by rw [hc]; exact nofun) k.1 ht (State.not_open_of_pauseNow ht k.2.2) _) fun _ => h
    · exact h
  | linkDown => cases he; exact .ite (fun _ => uplink _ rfl) fun _ => h
  | linkUp =>
    cases he
    have up := uplink (fun u => { u with linkUp := true }) rfl
    exact .ite (fun _ => h) fun _ => .ite (fun _ => up.keep (State.modUplink_keepsStore _ _ rfl)) fun _ =>
      up.keep (State.boundaryDecision_keepsStore _)
  | restartSend => cases he; exact .ite (fun _ => uplink _ rfl) fun _ => h
  | shotComplete samples =>
    cases he
    split
    · exact .ite (fun _ => h.keep (s.shotDone_keepsStore _)) fun _ => h
    · exact h
  | _ => exact h.untouched he rfl

/-- No command touches the queue of commands. -/
theorem pending_not_touched (c : Instr) : Block.pending ∉ touchedBy c := by
  have none : (touchedBy c).contains .pending = false := by cases c <;> rfl
  simpa using none

theorem State.StoreLaw.step (h : s.StoreLaw) (c : Instr) : ∃ t, Machine.exec c s = .next t ∧ t.StoreLaw := by
  by_cases hd : ∃ d w, c = .dataWord d w
  · obtain ⟨d, w, rfl⟩ := hd
    exact h.dataWord d w
  by_cases hu : c = .uplinkWordSent
  · subst hu
    exact h.uplinkWordSent
  have other : ∀ d w, c ≠ .dataWord d w := fun d w k => hd ⟨d, w, k⟩
  obtain ⟨t, he⟩ := exec_completes (s := s) other hu
  exact ⟨t, he, h.exec other hu he⟩

end

/-- Settles O55: the laws taken together, by the lemma of each command that touches a field they read; the queue of
commands by the frame of every command. -/
theorem everyCommandKeepsTheFrameMemory : Obligations.EveryCommandKeepsTheFrameMemory := by
  intro c s memory shots rx record
  obtain ⟨t, he, law⟩ := State.StoreLaw.step ⟨memory, shots, rx, record⟩ c
  exact ⟨t, he, law.memory, law.shots, law.rx, law.record, (exec_frame c he).fields .pending (pending_not_touched c)⟩

end Sys2Proof.Machine

/-! PROOF. The hold flag (O31), and the start of a fragment (O27): the marker, the shot that a tag names, and the binding
of its part. -/

namespace Sys2Proof.Machine

section
variable {s : State} {d : Drop}

/-! ## The hold flag (05 R89, R90) -/

theorem State.changeHold_eq (h : s.stray = false) (v : Bool) :
    s.changeHold v = { s with fmm := { s.fmm with hold := v }, cli := s.announcedCli } :=
  State.announce_eq (s := s.modFmm fun f => { f with hold := v }) h

theorem State.changeHold_stray (h : s.stray = true) (v : Bool) :
    s.changeHold v = { s with fmm := { s.fmm with hold := v } } :=
  State.announce_stray (s := s.modFmm fun f => { f with hold := v }) h

theorem State.evalHold_set {c : Configuration} (hc : s.cfg = some c)
    (h : s.fmm.hold = false ∧ s.fmm.freeCount < c.station.holdThreshold) : s.evalHold = s.changeHold true := by
  unfold State.evalHold
  rw [hc]
  exact if_pos (by simp [h])

theorem State.evalHold_clear {c : Configuration} (hc : s.cfg = some c)
    (h : s.fmm.hold = true ∧ c.station.releaseThreshold ≤ s.fmm.freeCount) : s.evalHold = s.changeHold false := by
  unfold State.evalHold
  rw [hc]
  exact (if_neg (by simp [h])).trans (if_pos (by simp [h]))

theorem State.evalHold_kept {c : Configuration} (hc : s.cfg = some c)
    (hs : ¬(s.fmm.hold = false ∧ s.fmm.freeCount < c.station.holdThreshold))
    (hr : ¬(s.fmm.hold = true ∧ c.station.releaseThreshold ≤ s.fmm.freeCount)) : s.evalHold = s := by
  unfold State.evalHold
  rw [hc]
  exact (if_neg (by simpa using hs)).trans (if_neg (by simpa using hr))

theorem State.evalHold_unloaded (hc : s.cfg = none) : s.evalHold = s := by
  unfold State.evalHold
  rw [hc]

/-- The evaluation of the hold flag neither reads nor changes the receive contexts. -/
theorem State.evalHold_setRx (s : State) (x : PerDrop Receiver) :
    State.evalHold { s with rx := x } = { s.evalHold with rx := x } := by
  have change : ∀ v, State.changeHold { s with rx := x } v = { s.changeHold v with rx := x } := by
    intro v
    rcases Bool.eq_false_or_eq_true s.stray with hs | hs
    · rw [State.changeHold_stray hs, State.changeHold_stray (s := { s with rx := x }) hs]
    · rw [State.changeHold_eq hs, State.changeHold_eq (s := { s with rx := x }) hs]; rfl
  rcases Option.eq_none_or_eq_some s.cfg with hc | ⟨c, hc⟩
  · rw [State.evalHold_unloaded hc, State.evalHold_unloaded (s := { s with rx := x }) hc]
  · by_cases set : s.fmm.hold = false ∧ s.fmm.freeCount < c.station.holdThreshold
    · rw [State.evalHold_set hc set, State.evalHold_set (s := { s with rx := x }) hc set, change]
    by_cases clear : s.fmm.hold = true ∧ c.station.releaseThreshold ≤ s.fmm.freeCount
    · rw [State.evalHold_clear hc clear, State.evalHold_clear (s := { s with rx := x }) hc clear, change]
    · rw [State.evalHold_kept hc set clear, State.evalHold_kept (s := { s with rx := x }) hc set clear]

end

/-- Settles O31, by the three ways an evaluation of the flag can go. -/
theorem holdFlagFollowsTheFreeCount : Obligations.HoldFlagFollowsTheFreeCount := by
  intro s c hc hs
  dsimp only
  by_cases set : s.fmm.hold = false ∧ s.fmm.freeCount < c.station.holdThreshold
  · rw [State.evalHold_set hc set, State.changeHold_eq hs, if_pos set, set.1, if_neg nofun]
    rfl
  rw [if_neg set]
  by_cases clear : s.fmm.hold = true ∧ c.station.releaseThreshold ≤ s.fmm.freeCount
  · rw [State.evalHold_clear hc clear, State.changeHold_eq hs, if_pos clear, clear.1, if_neg nofun]
    rfl
  · rw [State.evalHold_kept hc set clear, if_neg clear, if_pos rfl]

/-! ## Markers and shots (05 R94, R95) -/

/-- A marker matches where it agrees with the pattern at every bit of the mask (05 R94). -/
theorem markerMatches_iff (pattern mask marker : Byte) : markerMatches pattern mask marker = true ↔
    ∀ i, i < 8 → mask.getLsbD i = true → marker.getLsbD i = pattern.getLsbD i := by
  unfold markerMatches
  rw [beq_iff_eq]
  constructor
  · intro h i _ hm
    have bit := congrArg (fun b : Byte => b.getLsbD i) h
    simpa [hm] using bit
  · intro h
    refine BitVec.eq_of_getLsbD_eq fun i hi => ?_
    have bit := h i hi
    cases hm : mask.getLsbD i with
    | false => simp [hm]
    | true => simp [bit hm]

section
variable {s : State} {d : Drop} {tag : Byte} {e : Entry} {p : Part} {w : Word}

theorem Entry.answers_iff (test : PartStatus → Bool) :
    e.answers d tag test = true ↔ triggerTag e.trigger = tag ∧ ∃ q, e.part d = some q ∧ test q.status = true := by
  rw [Entry.answers, Bool.and_eq_true, decide_eq_true_iff, Option.any_eq_true]

/-- The shot opened first of those that a tag can name (05 R95). -/
theorem State.fragmentShot_some {pre post : List Entry} (ht : s.shots.table = pre ++ e :: post) (hn : triggerTag e.trigger = tag)
    (hp : e.part d = some p) (ho : p.status.isOpen = true)
    (older : ∀ x ∈ pre, triggerTag x.trigger = tag → ∀ q, x.part d = some q → q.status.isOpen = false) :
    s.fragmentShot d tag = some e.trigger := by
  have found : (s.shots.table.find? fun x => x.answers d tag PartStatus.isOpen) = some e := by
    refine List.find?_eq_some_iff_append.mpr ⟨(Entry.answers_iff _).mpr ⟨hn, p, hp, ho⟩, pre, post, ht, fun x hx => ?_⟩
    rw [Bool.not_eq_true', ← Bool.not_eq_true, Entry.answers_iff]
    rintro ⟨hm, q, hq, k⟩
    exact absurd k (Bool.eq_false_iff.mp (older x hx hm q hq))
  unfold State.fragmentShot
  rw [found]; rfl

theorem State.fragmentShot_none
    (shut : ∀ x ∈ s.shots.table, triggerTag x.trigger = tag → ∀ q, x.part d = some q → q.status.isOpen = false) :
    s.fragmentShot d tag = none := by
  refine Option.map_eq_none_iff.mpr (List.find?_eq_none.mpr fun x hx => ?_)
  rw [Entry.answers_iff]
  rintro ⟨hm, q, hq, k⟩
  exact absurd k (Bool.eq_false_iff.mp (shut x hx hm q hq))

theorem State.lateFor_iff :
    s.lateFor d tag = true ↔
      ∃ x ∈ s.shots.table, triggerTag x.trigger = tag ∧ ∃ q, x.part d = some q ∧ q.status.isOpen = false := by
  simp only [State.lateFor, List.any_eq_true, Entry.answers_iff, Bool.not_eq_true']

/-! ## What a start word does (05 R95, R96) -/

theorem State.startFragment_badMarker
    (h : ¬markerMatches (s.dropCfg d).startPattern (s.dropCfg d).startMask (wordMarker w) = true) :
    s.startFragment d w = s.modRx d fun r => { r with mode := .skip false, badMarkers := bump r.badMarkers } :=
  if_pos (by simpa using h)

theorem State.startFragment_bound {n : Half}
    (h : markerMatches (s.dropCfg d).startPattern (s.dropCfg d).startMask (wordMarker w) = true)
    (hn : s.fragmentShot d (startTag w) = some n) : s.startFragment d w = s.bindFragment d n w := by
  refine (if_neg (by simpa using h)).trans ?_
  rw [hn]

theorem State.startFragment_late
    (h : markerMatches (s.dropCfg d).startPattern (s.dropCfg d).startMask (wordMarker w) = true)
    (hn : s.fragmentShot d (startTag w) = none) (hl : s.lateFor d (startTag w) = true) :
    s.startFragment d w = s.modRx d fun r => { r with mode := .skip false, late := bump r.late } := by
  refine (if_neg (by simpa using h)).trans ?_
  rw [hn]
  exact if_pos hl

theorem State.startFragment_stray
    (h : markerMatches (s.dropCfg d).startPattern (s.dropCfg d).startMask (wordMarker w) = true)
    (hn : s.fragmentShot d (startTag w) = none) (hl : ¬s.lateFor d (startTag w) = true) :
    s.startFragment d w = s.modRx d fun r => { r with mode := .skip false, stray := bump r.stray } := by
  refine (if_neg (by simpa using h)).trans ?_
  rw [hn]
  exact if_neg hl

/-- The part to which a fragment is bound (05 R96). -/
def Part.bound (index : Nat) (p q : Part) : Part :=
  { q with
    status := .receiving
    nextIndex := some (if index = 32767 then 0 else index + 1)
    flags := { q.flags with sequence := q.flags.sequence || decide (p.nextIndex ≠ some index) } }

theorem startIndex_lt (w : Word) : startIndex w < 32768 := (w.extractLsb' 1 15).isLt

theorem Part.bind_eq (ho : p.status.isOpen = true) {index : Nat} (hi : index < 32768) : p.bind index = p.bound index p := by
  have status : (if p.status = .pending then PartStatus.receiving else p.status) = .receiving := by
    cases hs : p.status with
    | pending => rfl
    | receiving => rfl
    | closed c => rw [hs] at ho; exact nomatch ho
  have next : (index + 1) % 32768 = if index = 32767 then 0 else index + 1 := by split <;> omega
  unfold Part.bind Part.bound
  rw [status, next]

/-- A fragment bound to an open part of a sound shot table (05 R96). -/
theorem State.bindFragment_eq (h : s.ShotLaw) {n : Half} (hp : s.part n d = some p) (ho : p.status.isOpen = true) (w : Word) :
    s.bindFragment d n w =
      { s.modPart n d (p.bound (startIndex w)) with
        rx :=
          s.rx.set d
            { s.rx.get d with
              mode := .inside n
              last := startLast w
              arrived := 0
              bound := bumpLong (s.rx.get d).bound
              sequenceErrors :=
                if p.nextIndex = some (startIndex w) then (s.rx.get d).sequenceErrors
                else bump (s.rx.get d).sequenceErrors } } := by
  have parts : s.modPart n d (Part.bind (startIndex w)) = s.modPart n d (p.bound (startIndex w)) := by
    rw [← State.modPart_const h hp (Part.bind (startIndex w)), ← State.modPart_const h hp (p.bound (startIndex w)),
      Part.bind_eq ho (startIndex_lt w)]
  unfold State.bindFragment
  rw [parts, hp]
  dsimp only [Option.any_some]
  by_cases hi : p.nextIndex = some (startIndex w)
  · simp [hi, State.modRx, State.modPart, State.modEntry, State.modShots]
  · simp [hi, State.modRx, State.modPart, State.modEntry, State.modShots]

theorem exec_openWord (h : s.Locked d) :
    exec (.openWord d w) s = .next (((s.heardItem d).FragmentEnded d).startFragment d w) := by
  rw [← State.FragmentEnded_eq]
  exact congrArg Host.Outcome.next (if_pos h)

end

/-- Settles O27: the fragment in progress has ended, and the start word is taken by its marker and its tag. -/
theorem openWordsBindFragments : Obligations.OpenWordsBindFragments := by
  intro d w s hl base c r tag index hasTag matched skips
  have run : exec (.openWord d w) s = .next (base.startFragment d w) := exec_openWord hl
  have ended : base = (s.heardItem d).endFragment d := (State.FragmentEnded_eq (s.heardItem d) d).symm
  have cfg : base.dropCfg d = c := by
    rw [ended]
    exact (State.dropCfg_of (((s.heardItem d).endFragment_frame d).get .cfg) d).trans rfl
  have marker : markerMatches (base.dropCfg d).startPattern (base.dropCfg d).startMask (wordMarker w) = true ↔ matched := by
    rw [cfg]; exact markerMatches_iff _ _ _
  have skipped : ∀ k : Receiver, base.startFragment d w = base.modRx d (fun _ => { k with mode := .skip false }) → skips k :=
    fun k hk => run.trans (congrArg Host.Outcome.next hk)
  refine ⟨fun hm => ?_, fun hm pre e post p ht hn hp ho older law => ?_,
    fun hm shut => ⟨fun ⟨x, hx, hn, hq⟩ => ?_, fun no => ?_⟩⟩
  · exact skipped _ (State.startFragment_badMarker fun k => hm (marker.mp k))
  · have sound : base.ShotLaw := by
      rw [ended]
      exact State.endFragment_shotLaw (State.ShotLaw.congr (s := s) (t := s.heardItem d) rfl law) d
    have mem : e ∈ base.shots.table := by rw [ht]; simp
    have found := State.fragmentShot_some ht hn hp ho older
    rw [run, State.startFragment_bound (marker.mpr hm) found, State.bindFragment_eq sound ((sound.part mem d).trans hp) ho]
    rfl
  · obtain ⟨q, hq⟩ := Option.isSome_iff_exists.mp hq
    exact skipped _ (State.startFragment_late (marker.mpr hm) (State.fragmentShot_none shut)
      (State.lateFor_iff.mpr ⟨x, hx, hn, q, hq, shut x hx hn q hq⟩))
  · refine skipped _ (State.startFragment_stray (marker.mpr hm) (State.fragmentShot_none shut) fun k => ?_)
    obtain ⟨x, hx, hn, q, hq, -⟩ := State.lateFor_iff.mp k
    exact nomatch hq.symm.trans (no x hx hn)

end Sys2Proof.Machine

/-! PROOF. The payload words of a fragment: those that are discarded or lost (O29), and those that are stored, with what the
Focus Scorer adds (O28). -/

namespace Sys2Proof.Machine

section
variable {s t : State} {d : Drop} {n : Half} {p : Part} {w : Word} {k : Nat}

/-! ## Which of them a word is (05 R97, R98) -/

theorem State.payloadWord_overlong (h : Config.fragmentWords < k) :
    s.payloadWord d n p k w = .next (s.overlongWord d n k) := if_pos h

theorem State.payloadWord_truncated (h : ¬Config.fragmentWords < k) (ht : p.flags.truncated = true) :
    s.payloadWord d n p k w = .next (s.loseWord d n) := (if_neg h).trans (if_pos ht)

theorem State.payloadWord_noPage (h : ¬Config.fragmentWords < k) (ht : ¬p.flags.truncated = true) (hp : p.needsPage = true)
    (hf : s.fmm.freeList = []) :
    s.payloadWord d n p k w =
      .next ((State.evalHold (s.modFmm fun f => { f with takeFailures := bump f.takeFailures })).loseWord d n) := by
  refine ((if_neg h).trans (if_neg ht)).trans ((if_pos hp).trans ?_)
  rw [State.takePage_nil hf]

theorem State.payloadWord_taken (h : ¬Config.fragmentWords < k) (ht : ¬p.flags.truncated = true) (hp : p.needsPage = true)
    {page : Nat} {rest : List Nat} (hf : s.fmm.freeList = page :: rest) :
    s.payloadWord d n p k w =
      (s.takePage.2.modPart n d fun q => { q with chain := q.chain ++ [page] }).storeWord d n page p.words w := by
  refine ((if_neg h).trans (if_neg ht)).trans ((if_pos hp).trans ?_)
  rw [State.takePage_cons hf]

theorem State.payloadWord_inLast (h : ¬Config.fragmentWords < k) (ht : ¬p.flags.truncated = true) (hp : ¬p.needsPage = true) :
    s.payloadWord d n p k w = s.storeWord d n (p.chain.getLastD Config.pageCount) p.words w :=
  ((if_neg h).trans (if_neg ht)).trans (if_neg hp)

/-! ## A word at a context (05 R92, R97, R102) -/

theorem exec_dataWord (h : s.Locked d) : exec (.dataWord d w) s = (s.heardItem d).dataAt d w := if_pos h

theorem State.dataAt_idle (h : (s.rx.get d).mode = .idle) :
    s.dataAt d w = .next (s.modRx d fun r => { r with mode := .skip false, badMarkers := bump r.badMarkers }) := by
  unfold State.dataAt
  rw [h]

theorem State.dataAt_skip {owed : Bool} (h : (s.rx.get d).mode = .skip owed) : s.dataAt d w = .next s := by
  unfold State.dataAt
  rw [h]

theorem State.dataAt_inside (h : (s.rx.get d).mode = .inside n) (hp : s.part n d = some p) :
    s.dataAt d w = (s.modRx d fun r => { r with arrived := satAdd 16777215 (s.rx.get d).arrived 1 }).payloadWord d n p
      (satAdd 16777215 (s.rx.get d).arrived 1) w := by
  unfold State.dataAt
  rw [h]
  dsimp only
  rw [show (s.modRx d fun r => { r with arrived := satAdd 16777215 (s.rx.get d).arrived 1 }).part n d = some p from hp]

/-- A word of the fragment beyond the 4096th, by the words that arrived before it (05 R97). -/
theorem fragmentWords_lt_arrived (arrived : Nat) : Config.fragmentWords < satAdd 16777215 arrived 1 ↔ 4096 ≤ arrived := by
  unfold satAdd Config.fragmentWords
  omega

theorem arrived_eq_firstOverlong (arrived : Nat) :
    satAdd 16777215 arrived 1 = Config.fragmentWords + 1 ↔ arrived = 4096 := by
  unfold satAdd Config.fragmentWords
  omega

/-! ## A word that is not stored, at a context that has counted it (05 R97, R98) -/

theorem State.modRx_set (s : State) (x : PerDrop Receiver) (d : Drop) (r : Receiver) (f : Receiver → Receiver) :
    State.modRx { s with rx := x.set d r } d f = { s with rx := x.set d (f r) } := by
  unfold State.modRx
  simp only [PerDrop.get_set_same, PerDrop.set_set]

theorem State.loseWord_set (s : State) (x : PerDrop Receiver) (d : Drop) (r : Receiver) (n : Half) :
    State.loseWord { s with rx := x.set d r } d n =
      { s.modPart n d (fun p =>
          { p with flags := { p.flags with truncated := true }, lost := satAdd 4294967295 p.lost 1 }) with
        rx := x.set d { r with lostWords := satAdd 4294967295 r.lostWords 1 } } :=
  State.modRx_set (s.modPart n d _) x d r _

theorem State.overlongWord_set (s : State) (x : PerDrop Receiver) (d : Drop) (r : Receiver) (n : Half) (arrived : Nat) :
    State.overlongWord { s with rx := x.set d r } d n (satAdd 16777215 arrived 1) =
      { s.modPart n d (fun p => { p with flags := { p.flags with overlong := true } }) with
        rx := x.set d { r with overlong := if arrived = 4096 then bump r.overlong else r.overlong } } := by
  refine (State.modRx_set (s.modPart n d _) x d r _).trans ?_
  simp only [arrived_eq_firstOverlong]

end

/-- Settles O29: a word at a context out of IN, and the three ways a word in IN is not stored. -/
theorem otherDataWordsAreDiscardedOrLost : Obligations.OtherDataWordsAreDiscardedOrLost := by
  intro d w s hl r base lost
  have run : exec (.dataWord d w) s = base.dataAt d w := exec_dataWord hl
  refine ⟨fun hm => run.trans (State.dataAt_idle hm), fun o hm => run.trans (State.dataAt_skip hm), fun n p hm hp => ?_⟩
  have inside := run.trans (State.dataAt_inside (s := base) (w := w) hm hp)
  have within (h : r.arrived < 4096) : ¬Config.fragmentWords < satAdd 16777215 r.arrived 1 := fun past =>
    absurd ((fragmentWords_lt_arrived _).mp past) (Nat.not_le.mpr h)
  refine ⟨fun ha => ?_, fun ha ht => ?_, fun ha ht hc hf => ?_⟩
  · rw [inside, State.payloadWord_overlong ((fragmentWords_lt_arrived _).mpr ha)]
    exact congrArg Host.Outcome.next (State.overlongWord_set base s.rx d _ n r.arrived)
  · rw [inside, State.payloadWord_truncated (within ha) ht]
    exact congrArg Host.Outcome.next (State.loseWord_set base s.rx d _ n)
  · have full := (Part.needsPage_iff p).mpr hc
    have lose := inside.trans (State.payloadWord_noPage (within ha) (Bool.eq_false_iff.mp ht) full hf)
    have evaluated := State.evalHold_setRx (base.modFmm fun f => { f with takeFailures := bump f.takeFailures })
    refine lose.trans (congrArg Host.Outcome.next (.trans ?_ (State.loseWord_set _ s.rx d _ n)))
    exact congrArg (State.loseWord · d n) (evaluated _)

end Sys2Proof.Machine

/-! PROOF. The stored payload words (O28): what the Focus Scorer adds for a word, and the page and place where it stands. -/

namespace Sys2Proof.Machine

section
variable {c : DropCfg} {pos : Nat} {w : Word}

/-! ## The Focus Scorer (09 R164) -/

/-- A pixel of the region of interest. -/
def inRegion (c : DropCfg) (i : Nat) : Bool :=
  decide (c.firstRow ≤ i / c.frameWidth ∧ i / c.frameWidth ≤ c.lastRow ∧ c.firstColumn ≤ i % c.frameWidth ∧
    i % c.frameWidth ≤ min c.lastColumn (c.frameWidth - 1))

/-- A pixel whose left neighbour may be in the region too. -/
def pastFirstColumn (c : DropCfg) (i : Nat) : Bool := decide (c.firstColumn < i % c.frameWidth)

/-- The pixel before pixel `j` of a word. -/
def leftPixel (w : Word) (carry : Option Nat) (j : Nat) : Option Nat := if j = 0 then carry else some (pixelOf w (j - 1))

/-- The squared difference of pixel `j` of a word and the pixel before it, where there is one. -/
def pairOf (w : Word) (carry : Option Nat) (j : Nat) : Option Nat :=
  (leftPixel w carry j).map fun left => ((pixelOf w j - left) + (left - pixelOf w j)) ^ 2

/-- The pixels of a list that are counted. -/
def countedOf (c : DropCfg) (pos : Nat) (l : List Nat) : List Nat := l.filter fun j => inRegion c (4 * pos + j)

/-- The squared differences of a list of pixels. -/
def pairsOf (c : DropCfg) (pos : Nat) (w : Word) (carry : Option Nat) (l : List Nat) : List Nat :=
  ((countedOf c pos l).filter fun j => pastFirstColumn c (4 * pos + j)).filterMap (pairOf w carry)

/-- A sum record with a list of a word's pixels added, its carry pixel not yet replaced. -/
def sumsOver (c : DropCfg) (pos : Nat) (w : Word) (x : SumRecord) (l : List Nat) : SumRecord :=
  { g := x.g + (pairsOf c pos w x.carry l).sum
    n := x.n + (pairsOf c pos w x.carry l).length
    s := x.s + ((countedOf c pos l).map (pixelOf w)).sum
    m := x.m + (countedOf c pos l).length
    carry := x.carry }

theorem squaredDifference_eq (a b : Nat) : squaredDifference a b = ((a - b) + (b - a)) ^ 2 :=
  congrArg (· ^ 2) (show max a b - min a b = (a - b) + (b - a) by omega)

theorem countedOf_append (l k : List Nat) : countedOf c pos (l ++ k) = countedOf c pos l ++ countedOf c pos k :=
  List.filter_append ..

theorem pairsOf_append (carry : Option Nat) (l k : List Nat) :
    pairsOf c pos w carry (l ++ k) = pairsOf c pos w carry l ++ pairsOf c pos w carry k := by
  unfold pairsOf
  rw [countedOf_append, List.filter_append, List.filterMap_append]

/-- A pixel out of the region adds nothing. -/
theorem addPixel_outside {i : Nat} (h : ¬inRegion c i = true) (value : Nat) (left : Option Nat) (r : SumRecord) :
    addPixel c i value left r = r := if_neg fun k => h (decide_eq_true k)

/-- A pixel of the region is counted, and its pair where it is past the first column and has a left neighbour. -/
theorem addPixel_inside {i : Nat} (h : inRegion c i = true) (value : Nat) (left : Option Nat) (r : SumRecord) :
    addPixel c i value left r =
      match (if pastFirstColumn c i then left else none) with
      | some l => { r with s := r.s + value, m := r.m + 1, g := r.g + squaredDifference value l, n := r.n + 1 }
      | none => { r with s := r.s + value, m := r.m + 1 } := by
  refine (if_pos (of_decide_eq_true h)).trans ?_
  unfold pastFirstColumn
  cases left with
  | none => simp
  | some l => by_cases past : c.firstColumn < i % c.frameWidth <;> simp [past]

/-- One pixel more. -/
theorem addPixel_sumsOver (x : SumRecord) (l : List Nat) (j : Nat) :
    addPixel c (4 * pos + j) (pixelOf w j) (leftPixel w x.carry j) (sumsOver c pos w x l) = sumsOver c pos w x (l ++ [j]) := by
  unfold sumsOver
  rw [countedOf_append, pairsOf_append]
  by_cases region : inRegion c (4 * pos + j) = true
  · rw [addPixel_inside region]
    have counted : countedOf c pos [j] = [j] := by simp [countedOf, region]
    by_cases past : pastFirstColumn c (4 * pos + j) = true
    · cases left : leftPixel w x.carry j with
      | none =>
        have pairs : pairsOf c pos w x.carry [j] = [] := by simp [pairsOf, counted, past, pairOf, left]
        simp [counted, pairs, Nat.add_assoc]
      | some v =>
        have pairs : pairsOf c pos w x.carry [j] = [squaredDifference (pixelOf w j) v] := by
          simp [pairsOf, counted, past, pairOf, left, squaredDifference_eq]
        simp [counted, pairs, past, Nat.add_assoc]
    · have pairs : pairsOf c pos w x.carry [j] = [] := by simp [pairsOf, counted, past]
      simp [counted, pairs, past, Nat.add_assoc]
  · have counted : countedOf c pos [j] = [] := by simp [countedOf, region]
    have pairs : pairsOf c pos w x.carry [j] = [] := by simp [pairsOf, counted]
    rw [addPixel_outside region, counted, pairs]
    simp

/-- A word adds its four pixels, and the last becomes the carry pixel (09 R164). -/
theorem addWord_eq (c : DropCfg) (pos : Nat) (w : Word) (x : SumRecord) :
    addWord c pos w x = { sumsOver c pos w x [0, 1, 2, 3] with carry := some (pixelOf w 3) } := by
  have first : addPixel c (4 * pos) (pixelOf w 0) x.carry x = sumsOver c pos w x [0] := addPixel_sumsOver x [] 0
  have second : addPixel c (4 * pos + 1) (pixelOf w 1) (some (pixelOf w 0)) (sumsOver c pos w x [0]) =
      sumsOver c pos w x [0, 1] := addPixel_sumsOver x [0] 1
  have third : addPixel c (4 * pos + 2) (pixelOf w 2) (some (pixelOf w 1)) (sumsOver c pos w x [0, 1]) =
      sumsOver c pos w x [0, 1, 2] := addPixel_sumsOver x [0, 1] 2
  have fourth : addPixel c (4 * pos + 3) (pixelOf w 3) (some (pixelOf w 2)) (sumsOver c pos w x [0, 1, 2]) =
      sumsOver c pos w x [0, 1, 2, 3] := addPixel_sumsOver x [0, 1, 2] 3
  unfold addWord
  dsimp only
  rw [first, second, third, fourth]

end

section
variable {s : State} {d : Drop} {n : Half} {p : Part} {page : Nat} {w : Word}

/-! ## The place of a stored word (05 R85, R86, R97) -/

theorem State.changeHold_mem (v : Bool) : (s.changeHold v).fmm.mem = s.fmm.mem :=
  have announced := ((s.modFmm fun f => { f with hold := v }).announce_frame).get .fmm
  (congrArg FrameMemory.mem announced).trans rfl

theorem State.evalHold_mem : s.evalHold.fmm.mem = s.fmm.mem := by
  unfold State.evalHold
  split
  · rfl
  · split
    · exact State.changeHold_mem true
    · split
      · exact State.changeHold_mem false
      · rfl

theorem State.takePage_mem : s.takePage.2.fmm.mem = s.fmm.mem := by
  unfold State.takePage
  split <;> exact State.evalHold_mem

/-- A word written at its place, in the page that its part has last. -/
theorem State.storeWord_inLast (h : s.ShotLaw) (hp : s.part n d = some p) (hpage : isPage page) (words : Nat) (w : Word) :
    s.storeWord d n page words w = .next
      { s.modPart n d (fun _ => p.store (s.dropCfg d) w) with
        fmm := { s.fmm with mem := writeWord page (words % 16384) w s.fmm.mem } } := by
  rw [State.storeWord_of hpage, State.modPart_const h hp]
  rfl

/-- A word written at its place, in a page that its part takes. -/
theorem State.storeWord_taken (h : s.ShotLaw) (hp : s.part n d = some p) (hpage : isPage page) (words : Nat) (w : Word) :
    (s.modPart n d fun q => { q with chain := q.chain ++ [page] }).storeWord d n page words w = .next
      { s.modPart n d (fun _ => { p with chain := p.chain ++ [page] }.store (s.dropCfg d) w) with
        fmm := { s.fmm with mem := writeWord page (words % 16384) w s.fmm.mem } } := by
  have parts := State.modPart_modPart s n d (fun q => { q with chain := q.chain ++ [page] })
    (Part.store (s.dropCfg d) w) fun _ => rfl
  rw [State.storeWord_of hpage, State.modPart_const h hp
    (fun q => Part.store (s.dropCfg d) w { q with chain := q.chain ++ [page] })]
  exact congrArg (fun t : State => Host.Outcome.next
    { t with fmm := { s.fmm with mem := writeWord page (words % 16384) w s.fmm.mem } }) parts

end

/-- Settles O28: the word stands at the next place of its part, in its last page or in the page that it takes. -/
theorem dataWordsAreStored : Obligations.DataWordsAreStored := by
  intro d w s n p page hl memory shots hm hp ha ht full hhead hlast arrived taken g pixel row column counted pairs scored stored
  have sums : scored = addWord g p.words w := funext fun x => (addWord_eq g p.words w x).symm
  have run : exec (.dataWord d w) s = arrived.payloadWord d n p ((s.rx.get d).arrived + 1) w := by
    have counter : satAdd 16777215 (s.rx.get d).arrived 1 = (s.rx.get d).arrived + 1 := by unfold satAdd; omega
    have inside := State.dataAt_inside (s := s.heardItem d) (w := w) hm hp
    rw [show ((s.heardItem d).rx.get d).arrived = (s.rx.get d).arrived from rfl, counter] at inside
    exact (exec_dataWord hl).trans inside
  have fits : ¬Config.fragmentWords < (s.rx.get d).arrived + 1 := by unfold Config.fragmentWords; omega
  have untruncated : ¬p.flags.truncated = true := Bool.eq_false_iff.mp ht
  have law : arrived.ShotLaw := State.ShotLaw.congr (s := s) rfl shots
  refine ⟨writeWord page (p.words % 16384) w s.fmm.mem, ?_, readWord_writeWord _ _ _ _ memory.wf, fun a h => ?_⟩
  · by_cases hfull : full
    · have free : arrived.fmm.freeList = page :: arrived.fmm.freeList.tail := (List.cons_head?_tail (hhead hfull)).symm
      have place : isPage page := memory.pages page (List.mem_append_left _ (List.mem_of_mem_head? (hhead hfull)))
      have takes : taken = arrived.takePage.2 := (if_pos hfull).trans (congrArg Prod.snd (State.takePage_cons free)).symm
      have stores : stored = { p with chain := p.chain ++ [page] }.store g w := by
        rw [Part.store, ← sums, ← if_pos (t := p.chain ++ [page]) (e := p.chain) hfull]
      have frame := arrived.takePage_frame
      have law := State.ShotLaw.congr (frame.get .shots).symm law
      have part := (State.part_congr (frame.get .shots) n d).trans hp
      have word := State.storeWord_taken law part place p.words w
      rw [State.dropCfg_of (frame.get .cfg), State.takePage_mem] at word
      rw [run, State.payloadWord_taken fits untruncated ((Part.needsPage_iff p).mpr hfull) free, takes, stores]
      exact word
    · have last := hlast hfull
      have place : isPage page := memory.isPage_of_chain hp (List.mem_of_getLast? last)
      have takes : taken = arrived := if_neg hfull
      have stores : stored = p.store g w := by
        rw [Part.store, ← sums, ← if_neg (t := p.chain ++ [page]) (e := p.chain) hfull]
      rw [run, State.payloadWord_inLast fits untruncated fun k => hfull ((Part.needsPage_iff p).mp k), takes, stores,
        List.getLastD_eq_getLast?, last]
      exact State.storeWord_inLast law hp place p.words w
  · exact readByte_writeWord_other _ _ _ _ h

end Sys2Proof.Machine

/-! PROOF. The end of a fragment (O30): the end marker, the count of its words, and the part that its last fragment
completes. -/

namespace Sys2Proof.Machine

section
variable {s : State} {d : Drop} {n : Half} {e : Entry} {p : Part} {w : Word}

/-! ## What an end word does (05 R99, R102) -/

theorem exec_closeWord (h : s.Locked d) : exec (.closeWord d w) s = .next ((s.heardItem d).closeAt d w) :=
  congrArg Host.Outcome.next (if_pos h)

theorem State.closeAt_idle (h : (s.rx.get d).mode = .idle) :
    s.closeAt d w = s.modRx d fun r => { r with badMarkers := bump r.badMarkers } := by
  unfold State.closeAt
  rw [h]

theorem State.closeAt_skip {owed : Bool} (h : (s.rx.get d).mode = .skip owed) :
    s.closeAt d w = s.modRx d fun r => { r.toIdle with late := if owed then bump r.late else r.late } := by
  unfold State.closeAt
  rw [h]

theorem State.closeAt_inside (h : (s.rx.get d).mode = .inside n) : s.closeAt d w = s.endWord d n w := by
  unfold State.closeAt
  rw [h]

theorem State.endWord_badMarker
    (h : ¬markerMatches (s.dropCfg d).endPattern (s.dropCfg d).endMask (wordMarker w) = true) :
    s.endWord d n w =
      { s.modPart n d (fun p => { p with flags := { p.flags with lengthError := true } }) with
        rx :=
          s.rx.set d
            { s.rx.get d with
              mode := .idle
              lengthErrors := bump (s.rx.get d).lengthErrors
              badMarkers := bump (s.rx.get d).badMarkers } } :=
  (if_pos (by simpa using h)).trans (State.modRx_set (s.modPart n d _) s.rx d _ _)

/-- A fragment that has ended, by the words that arrived of it (05 R99). -/
def State.fragmentEnd (s : State) (d : Drop) (n : Half) (w : Word) : State :=
  { (if (w.extractLsb' 0 24).toNat ≠ (s.rx.get d).arrived then
      s.modPart n d fun p => { p with flags := { p.flags with lengthError := true } } else s) with
    rx :=
      s.rx.set d
        { s.rx.get d with
          mode := .idle
          lengthErrors :=
            if (w.extractLsb' 0 24).toNat ≠ (s.rx.get d).arrived then bump (s.rx.get d).lengthErrors
            else (s.rx.get d).lengthErrors } }

theorem State.endWord_matched (h : markerMatches (s.dropCfg d).endPattern (s.dropCfg d).endMask (wordMarker w) = true) :
    s.endWord d n w =
      if (s.rx.get d).last then (s.fragmentEnd d n w).closePart n d .complete else s.fragmentEnd d n w := by
  have ended : State.modRx (if endCount w ≠ (s.rx.get d).arrived then s.lengthError d n else s) d Receiver.toIdle =
      s.fragmentEnd d n w := by
    unfold State.fragmentEnd endCount
    split
    · exact State.modRx_set (s.modPart n d _) s.rx d _ _
    · rfl
  rw [← ended]
  exact if_neg (by simpa using h)

/-! ## The entry of a part that has closed (06 R121, R122) -/

theorem partScore_complete (c : DropCfg) (p : Part) :
    partScore c .complete p =
      match p.sums with
      | none => none
      | some x =>
        if c.scoring = true ∧ p.flags.truncated = false ∧ 1 ≤ x.n then
          some (min 16777215 (x.g / x.n * (65536 / max 1 (x.s / x.m)) / 256))
        else none := by
  unfold partScore scoreOf
  cases p.sums with
  | none => rfl
  | some x => simp

theorem State.findEntry_congr {t : State} (h : t.shots = s.shots) : t.findEntry n = s.findEntry n := by
  unfold State.findEntry
  rw [h]

theorem State.findEntry_modEntry (f : Entry → Entry) (hf : ∀ x, (f x).trigger = x.trigger) :
    (s.modEntry n f).findEntry n = (s.findEntry n).map f := by
  have keys : ((fun x : Entry => decide (x.trigger = n)) ∘ fun x : Entry => if x.trigger = n then f x else x) =
      fun x => decide (x.trigger = n) := by
    funext x
    by_cases hx : x.trigger = n <;> simp [hx, hf]
  unfold State.findEntry
  rw [State.modEntry_table, List.find?_map, keys]
  cases hx : s.shots.table.find? fun x => decide (x.trigger = n) with
  | none => rfl
  | some x => exact congrArg some (if_pos (by simpa using List.find?_some hx))

/-- Where the part of a drop is closed, an entry has no open part left if no other part of it is open. -/
theorem Entry.hasOpenPart_replaced (hp : p.status.isOpen = false) :
    (e.modPart d fun _ => p).hasOpenPart = false ↔ ∀ y ∈ e.parts, y.drop ≠ d → y.status.isOpen = false := by
  rw [Entry.hasOpenPart, List.any_eq_false]
  constructor
  · intro h y hy hd
    have := h y (List.mem_map.mpr ⟨y, hy, if_neg hd⟩)
    simpa using this
  · rintro h _ hx
    obtain ⟨y, hy, rfl⟩ := List.mem_map.mp hx
    split
    · simp [hp]
    · rename_i hd
      simp [h y hy hd]

theorem State.closeEntry_found (h : s.findEntry n = some e) :
    s.closeEntry n =
      if e.state = .open ∧ e.hasOpenPart = false then
        (s.modEntry n fun x => { x with state := .closed, age := .stopped }).boundaryDecision
      else s := by
  unfold State.closeEntry
  rw [h]

/-- The part as its last fragment leaves it, complete. -/
def Part.completed (c : DropCfg) (short : Bool) (p : Part) : Part :=
  { p with flags := { p.flags with lengthError := p.flags.lengthError || short } }.close c .complete

/-- A part put in the place of that of an ended fragment: the flag that the end set is not looked at again. -/
theorem State.fragmentEnd_modPart (s : State) (d : Drop) (n : Half) (w : Word) (q : Part) :
    ((s.fragmentEnd d n w).modPart n d fun _ => q).shots = (s.modPart n d fun _ => q).shots := by
  have flagged := congrArg State.shots (State.modPart_modPart s n d
    (fun p => { p with flags := { p.flags with lengthError := true } }) (fun _ => q) fun _ => rfl)
  unfold State.fragmentEnd
  split
  · exact flagged
  · rfl

/-- The part to which an ended fragment belonged. -/
theorem State.fragmentEnd_part (s : State) (d : Drop) (n : Half) (w : Word) :
    (s.fragmentEnd d n w).part n d = (s.part n d).map fun p =>
      { p with
        flags :=
          { p.flags with
            lengthError := p.flags.lengthError || decide ((w.extractLsb' 0 24).toNat ≠ (s.rx.get d).arrived) } } := by
  by_cases short : (w.extractLsb' 0 24).toNat ≠ (s.rx.get d).arrived
  · have flagged := State.part_modPart s n n d d (f := fun p => { p with flags := { p.flags with lengthError := true } })
      fun _ k => k
    rw [if_pos ⟨rfl, rfl⟩] at flagged
    simp only [decide_eq_true short, Bool.or_true]
    refine .trans ?_ flagged
    unfold State.fragmentEnd
    rw [if_pos short]
    rfl
  · simp only [decide_eq_false short, Bool.or_false]
    refine .trans ?_ (Option.map_id' (x := s.part n d)).symm
    unfold State.fragmentEnd
    rw [if_neg short]
    rfl

theorem State.fragmentEnd_shut (h : ∀ p, s.part n d = some p → p.status.isOpen = false) (w : Word) :
    ∀ p, (s.fragmentEnd d n w).part n d = some p → p.status.isOpen = false := by
  intro p hp
  rw [State.fragmentEnd_part] at hp
  obtain ⟨q, hq, rfl⟩ := Option.map_eq_some_iff.mp hp
  exact h q hq

/-- The last fragment of an open part completes it: the part is offered to a sweep, and its entry ends where no other part of
it is open (05 R99; 06 R121, R122). -/
theorem State.fragmentEnd_closePart (h : s.ShotLaw) (he : e ∈ s.shots.table) (hn : e.trigger = n) (hp : e.part d = some p)
    (ho : p.status.isOpen = true) (w : Word) :
    let q := p.completed (s.dropCfg d) (decide ((w.extractLsb' 0 24).toNat ≠ (s.rx.get d).arrived))
    let offered := State.offerPart ((s.fragmentEnd d n w).modPart n d fun _ => q) d q
    (s.fragmentEnd d n w).closePart n d .complete =
      if ∀ y ∈ e.parts, y.drop ≠ d → y.status.isOpen = false then
        (offered.modEntry n fun x => { x with state := .closed, age := .stopped }).boundaryDecision
      else offered := by
  intro q offered
  subst hn
  have part := State.fragmentEnd_part s d e.trigger w
  rw [h.part he, hp] at part
  have idle : ((s.fragmentEnd d e.trigger w).modPart e.trigger d fun _ => q).modRx d (·.partClosed e.trigger) =
      (s.fragmentEnd d e.trigger w).modPart e.trigger d fun _ => q :=
    State.modRx_set ((s.fragmentEnd d e.trigger w).modPart e.trigger d fun _ => q) s.rx d _ _
  have cfg : (s.fragmentEnd d e.trigger w).dropCfg d = s.dropCfg d :=
    State.dropCfg_of (by unfold State.fragmentEnd; split <;> rfl) d
  have found : offered.findEntry e.trigger = some (e.modPart d fun _ => q) := by
    have entry := State.findEntry_modEntry (s := s) (n := e.trigger) (·.modPart d fun _ => q) fun _ => rfl
    rw [h.findEntry he] at entry
    have shots : offered.shots = (s.modPart e.trigger d fun _ => q).shots :=
      ((State.offerPart_frame _ d q).get .shots).trans (s.fragmentEnd_modPart d e.trigger w q)
    exact (State.findEntry_congr shots).trans entry
  rw [State.closePart_open part ho, cfg]
  show State.closeEntry (State.offerPart (State.modRx (State.modPart _ e.trigger d fun _ => q) d _) d q) e.trigger = _
  rw [idle, State.closeEntry_found found]
  have ends : (e.modPart d fun _ => q).state = .open ∧ (e.modPart d fun _ => q).hasOpenPart = false ↔
      ∀ y ∈ e.parts, y.drop ≠ d → y.status.isOpen = false :=
    (and_iff_right (h.open_of_part he hp ho)).trans (Entry.hasOpenPart_replaced rfl)
  simp only [ends]

end

/-- Settles O30: the end marker, then the count, and where the fragment was the last of an open part its completion. -/
theorem closeWordsEndFragments : Obligations.CloseWordsEndFragments := by
  intro d w s hl r c base matched flagged
  have run : exec (.closeWord d w) s = .next (base.closeAt d w) := exec_closeWord hl
  have marker : markerMatches (base.dropCfg d).endPattern (base.dropCfg d).endMask (wordMarker w) = true ↔ matched :=
    markerMatches_iff _ _ _
  refine ⟨fun hm => ?_, fun owed hm => ?_, fun n hm => ⟨fun hw => ?_, fun hw => ?_⟩⟩
  · exact run.trans (congrArg Host.Outcome.next (State.closeAt_idle hm))
  · exact run.trans (congrArg Host.Outcome.next (State.closeAt_skip hm))
  · refine (run.trans (congrArg Host.Outcome.next (State.closeAt_inside hm))).trans ?_
    exact congrArg Host.Outcome.next (State.endWord_badMarker fun k => hw (marker.mp k))
  · intro differs ended
    have done : exec (.closeWord d w) s = .next (if r.last then ended.closePart n d .complete else ended) := by
      refine (run.trans (congrArg Host.Outcome.next (State.closeAt_inside hm))).trans ?_
      exact congrArg Host.Outcome.next (State.endWord_matched (marker.mpr hw))
    refine ⟨fun hlast => ?_, fun shut => ?_, fun hlast e p law he hn hp ho => ?_⟩
    · rw [done, hlast]; rfl
    · have shutPart : ended.closePart n d .complete = ended :=
        State.closePart_shut (State.fragmentEnd_shut (s := base) shut w) _
      rw [done, shutPart, ite_self]
    · intro score q changed stored offered
      have complete := State.fragmentEnd_closePart (s := base) (State.ShotLaw.congr (s := s) rfl law) he hn hp ho w
      have closed : p.completed (base.dropCfg d) (decide differs) = q := by
        unfold Part.completed Part.close
        rw [partScore_complete]
        rfl
      rw [closed] at complete
      rw [done, hlast, if_pos rfl]
      exact congrArg Host.Outcome.next complete

end Sys2Proof.Machine

/-! PROOF. The words of a record as they are sent (O35): the fields of its header and descriptors, the pages that its stored
words leave, and what follows the last word. -/

namespace Sys2Proof.Machine

/-! ## The fields of the header and the descriptors (12 section 12.6) -/

/-- A field put below a value. -/
theorem fieldOf_append (a b x y : Nat) : fieldOf a x ++ fieldOf b y = fieldOf (a + b) (x * 2 ^ b + y % 2 ^ b) := by
  refine BitVec.eq_of_toNat_eq ?_
  have size : 0 < 2 ^ b := Nat.two_pow_pos b
  have low : y % 2 ^ b < 2 ^ b := Nat.mod_lt _ size
  unfold fieldOf
  rw [BitVec.toNat_append, BitVec.toNat_ofNat, BitVec.toNat_ofNat, BitVec.toNat_ofNat, ← Nat.shiftLeft_add_eq_or_of_lt low,
    Nat.shiftLeft_eq, Nat.pow_add, Nat.mul_comm (2 ^ a), Nat.mod_mul, Nat.add_comm (x * 2 ^ b), Nat.add_mul_mod_self_right,
    Nat.add_mul_div_right _ _ size, Nat.div_eq_of_lt low, Nat.zero_add, Nat.mod_mod, Nat.add_comm, Nat.mul_comm]

theorem eq_fieldOf {a : Nat} (x : BitVec a) : x = fieldOf a x.toNat := by simp [fieldOf]

theorem ofBool_eq_fieldOf (b : Bool) : BitVec.ofBool b = fieldOf 1 b.toNat := by cases b <;> rfl

theorem flagAt_eq (b : Bool) (k : Nat) : flagAt b k = b.toNat * 2 ^ k := by cases b <;> simp [flagAt]

theorem ClosedStatus.code_eq (c : ClosedStatus) :
    [ClosedStatus.complete, .timeout, .linkLost, .powerLost, .asleep, .notReady, .locating].idxOf c = c.code := by
  cases c <;> rfl

theorem DropState.code_eq (c : DropState) :
    [DropState.off, .claiming, .ramping, .warming, .ready, .hushed, .lost, .tripped, .napping, .fault].idxOf c = c.code := by
  cases c <;> rfl

theorem ReflectionKind.code_eq (c : ReflectionKind) :
    [ReflectionKind.open, .short, .stepUp, .stepDown, .near, .none].idxOf c = c.code := by
  cases c <;> rfl

theorem PartStatus.code_lt (c : PartStatus) : c.code < 16 := by
  cases c with
  | pending => decide
  | receiving => decide
  | closed c => cases c <;> decide

theorem DropState.code_lt (c : DropState) : c.code < 16 := by cases c <;> decide

theorem ReflectionKind.code_lt (c : ReflectionKind) : c.code < 8 := by cases c <;> decide

theorem headerWords_eq (e : Entry) : headerWords e = e.headerFields := by
  have first : e.trigger ++ e.mask ++ fieldOf 4 e.origin.val ++ fieldOf 4 e.parts.length =
      wordOf (e.trigger.toNat * 65536 + e.mask.toNat * 256 + e.origin.val * 16 + e.parts.length % 16) := by
    have mask := e.mask.isLt
    have origin := e.origin.isLt
    have key : e.trigger ++ e.mask = fieldOf 24 (e.trigger.toNat * 2 ^ 8 + e.mask.toNat % 2 ^ 8) :=
      (congrArg₂ (· ++ ·) (eq_fieldOf e.trigger) (eq_fieldOf e.mask)).trans (fieldOf_append 16 8 _ _)
    rewrite [key, fieldOf_append 24 4, fieldOf_append 28 4]
    refine congrArg (BitVec.ofNat 32) ?_
    omega
  have second : fieldOf 16 e.skipped ++ fieldOf 16 0 = wordOf (e.skipped * 65536) :=
    (fieldOf_append 16 16 e.skipped 0).trans (congrArg (BitVec.ofNat 32) (by omega))
  unfold headerWords Entry.headerFields
  rw [first, second]

/-- The first descriptor word, its three coded fields by their codes. -/
theorem Part.firstFields_eq (p : Part) :
    p.firstFields =
      fieldOf 2 p.drop.toNat ++ fieldOf 4 p.status.code ++ fieldOf 4 ((p.recorded.map DropState.code).getD 15) ++
        BitVec.ofBool p.flags.moving ++ BitVec.ofBool p.flags.overlong ++ BitVec.ofBool p.flags.sequence ++
        BitVec.ofBool p.flags.lengthError ++ BitVec.ofBool p.flags.truncated ++ BitVec.ofBool p.score.isSome ++
        BitVec.ofBool p.focus.isSome ++ BitVec.ofBool p.iris.isSome ++ BitVec.ofBool p.brk.isSome ++
        fieldOf 3 ((p.brk.map fun b => b.1.code).getD 0) ++ BitVec.ofBool p.flags.frameCut ++ fieldOf 9 0 := by
  unfold Part.firstFields
  dsimp only
  congr 14
  · cases p.status with
    | closed c => exact congrArg (fieldOf 4) c.code_eq
    | pending => rfl
    | receiving => rfl
  · cases p.recorded with
    | some st => exact st.code_eq
    | none => rfl
  · cases p.brk with
    | some b => exact b.1.code_eq
    | none => rfl

theorem descriptorWord0_eq (p : Part) : descriptorWord0 p = p.firstFields := by
  have status := p.status.code_lt
  have recorded : (p.recorded.map DropState.code).getD 15 < 16 := by
    cases p.recorded with
    | some st => exact st.code_lt
    | none => decide
  have kind : (p.brk.map fun b => b.1.code).getD 0 < 8 := by
    cases p.brk with
    | some b => exact b.1.code_lt
    | none => decide
  have flag : ∀ b : Bool, b.toNat % 2 ^ 1 = b.toNat := fun b => Nat.mod_eq_of_lt b.toNat_lt
  rw [Part.firstFields_eq]
  unfold descriptorWord0 wordOf
  simp only [ofBool_eq_fieldOf, fieldOf_append]
  refine congrArg (BitVec.ofNat 32) ?_
  simp only [flagAt_eq, flag]
  revert recorded kind
  cases p.recorded <;> cases p.brk <;> simp only [Option.map, Option.getD] <;> omega

theorem descriptorWords_eq (frameSize : Nat) (p : Part) : descriptorWords frameSize p = p.descriptorFields frameSize := by
  have pair : ∀ x y : Nat, wordOf (x * 65536 + y % 65536) = fieldOf 16 x ++ fieldOf 16 y := fun x y =>
    (fieldOf_append 16 16 x y).symm
  have score : ∀ x : Nat, wordOf (x % 2 ^ 24) = fieldOf 8 0 ++ fieldOf 24 x := fun x => by
    rw [fieldOf_append, Nat.zero_mul, Nat.zero_add]; rfl
  have zero : ∀ x : Option Nat, orZero x = x.getD 0 := fun x => by cases x <;> rfl
  unfold descriptorWords Part.descriptorFields
  rw [descriptorWord0_eq, pair, score, zero, zero, zero, zero]
  rfl

/-- The words of a record before its part data, with the fields of section 12.6. -/
theorem State.fixedWords_eq (s : State) (e : Entry) : s.fixedWords e = s.recordFields e := by
  unfold State.fixedWords State.recordFields
  simp only [headerWords_eq, descriptorWords_eq]

section
variable {s : State} {e : Entry} {rest : List Entry} {p : Part} {i place page : Nat}

/-! ## What a word sent does (07 R132 to R134) -/

theorem exec_uplinkWordSent {c : Configuration} (hc : s.cfg = some c) (ht : s.shots.table = e :: rest)
    (hr : s.uplink.record = some i) (hl : s.uplink.linkUp = true) :
    exec .uplinkWordSent s =
      andThen (s.sendWord c.station.fillWord (s.recordWord e i)) fun t => t.afterWord i (s.recordLength e) := by
  show execUplinkWordSent s = _
  unfold execUplinkWordSent
  rw [hc, ht, hr]
  exact if_pos hl

theorem State.sendWord_stored (fill : Word) (hp : p.chain.head? = some page) (hpage : isPage page) (place : Nat) :
    s.sendWord fill (.stored p place) =
      .next ((s.sent (readWord s.fmm.mem page (place % 16384))).returnDue p.drop
        (pagesDue (s.dropCfg p.drop).frameSize p place)) := by
  have head : p.chain.headD Config.pageCount = page := by rw [List.headD_eq_head?_getD, hp]; rfl
  unfold State.sendWord
  dsimp only
  rw [head]
  exact if_pos (frameAddressExists_of hpage place)

/-- The pages due leave the part's chain in the oldest entry, and return one after another (05 R87, 07 R133). -/
theorem State.returnDue_head (ht : s.shots.table = e :: rest) (d : Drop) (due : List Nat) :
    s.returnDue d due =
      due.foldl State.returnPage
        { s with
          shots :=
            { s.shots with
              table :=
                { e with
                  parts := e.parts.map fun q => if q.drop = d then { q with chain := q.chain.drop due.length } else q } ::
                  rest } } := by
  unfold State.returnDue
  refine congrArg (State.returnPages · due) (congrArg (fun x => { s with shots := { s.shots with table := x } }) ?_)
  rw [ht]

/-- The pages whose last emitted word a stored word is (07 R133). -/
theorem pagesDue_head (frameSize : Nat) (hp : p.chain.head? = some page) (place : Nat) :
    pagesDue frameSize p place =
      if place + 1 = min p.words frameSize then p.chain else if (place + 1) % 16384 = 0 then [page] else [] := by
  obtain ⟨rest, chain⟩ := List.head?_eq_some_iff.mp hp
  have one : p.chain.take 1 = [page] := by rw [chain]; rfl
  unfold pagesDue
  rw [one]
  rfl

end

/-- Settles O35: the word is that of its place in the record, and a stored word returns the pages due. -/
theorem recordWordsAreSentInOrder : Obligations.RecordWordsAreSentInOrder := by
  intro s c e rest i hc ht hr hl fixed returned after
  have run := exec_uplinkWordSent hc ht hr hl
  have words : s.fixedWords e = fixed := s.fixedWords_eq e
  refine ⟨fun w hw => ?_, fun p place hi hd => ⟨fun hp => ?_, fun hp page hc hpage => ?_⟩⟩
  · rw [run, State.recordWord_fixed (words ▸ hw)]
    rfl
  · rw [run, State.recordWord_data (words ▸ hi) (words ▸ hd), if_neg (Nat.not_lt.mpr hp)]
    rfl
  · intro F due
    rw [run, State.recordWord_data (words ▸ hi) (words ▸ hd), if_pos hp, State.sendWord_stored _ hc hpage,
      pagesDue_head _ hc, State.returnDue_head (s := s.sent _) ht]
    rfl

end Sys2Proof.Machine

/-! PROOF. Open parts on READY drops (O57): changes of the shot table that open no part (06 R115). -/

namespace Sys2Proof.Machine

/-! ## Tables in which no part opens -/

/-- From `s` to `t` the shot table stays sound, and no drop comes to have an open part. -/
structure State.OpensNone (s t : State) : Prop where
  shots : s.ShotLaw → t.ShotLaw
  opened : s.ShotLaw → ∀ d, t.dropHasOpenPart d = true → s.dropHasOpenPart d = true

section
variable {s t u : State} {d : Drop} {n : Half} {e : Entry} {rest : List Entry}

theorem State.OpensNone.refl (s : State) : s.OpensNone s := ⟨fun h => h, fun _ _ h => h⟩

theorem State.OpensNone.trans (h : s.OpensNone t) (k : t.OpensNone u) : s.OpensNone u :=
  ⟨fun law => k.shots (h.shots law), fun law d ho => h.opened law d (k.opened (h.shots law) d ho)⟩

theorem State.OpensNone.ite {c : Prop} [Decidable c] (h : c → s.OpensNone t) (k : ¬c → s.OpensNone u) :
    s.OpensNone (if c then t else u) := by
  split
  · exact h ‹_›
  · exact k ‹_›

theorem State.OpensNone.foldl {β : Type} {f : State → β → State} (h : ∀ (s : State) (b : β), s.OpensNone (f s b)) :
    ∀ (bs : List β) (s : State), s.OpensNone (bs.foldl f s)
  | [], s => .refl s
  | b :: bs, s => (h s b).trans (State.OpensNone.foldl h bs (f s b))

/-- The law of the shot table may be used to show that it is kept. -/
theorem State.OpensNone.of_law (h : s.ShotLaw → s.OpensNone t) : s.OpensNone t :=
  ⟨fun law => (h law).shots law, fun law => (h law).opened law⟩

/-- Whether a drop has an open part is read from the shot table alone. -/
theorem State.dropHasOpenPart_congr (h : t.shots = s.shots) (d : Drop) : t.dropHasOpenPart d = s.dropHasOpenPart d := by
  unfold State.dropHasOpenPart
  rw [h]

theorem State.OpensNone.of_shots (h : t.shots = s.shots) : s.OpensNone t :=
  ⟨fun law => law.congr h.symm, fun _ d ho => (State.dropHasOpenPart_congr h d).symm.trans ho⟩

theorem State.OpensNone.of_frame {l : List Block} {ds : List Drop} (h : s.ChangesOnly t l ds)
    (hl : Block.shots ∉ l := by decide) : s.OpensNone t := .of_shots (h.get .shots hl)

/-- Whether an entry has an open part of a drop is read from the outlines of its parts. -/
theorem Entry.openFor_outline (e : Entry) (d : Drop) :
    e.openFor d = (e.parts.map Part.outline).any fun z => decide (z.2.1 = d) && z.1 := by
  rw [List.any_map]; rfl

theorem Entry.hasOpenPart_outline (e : Entry) : e.hasOpenPart = (e.parts.map Part.outline).any Prod.fst := by
  rw [List.any_map]; rfl

theorem State.dropHasOpenPart_outline (s : State) (d : Drop) :
    s.dropHasOpenPart d =
      (s.shots.table.map Entry.outline).any fun x => x.2.2.2.any fun z => decide (z.2.1 = d) && z.1 := by
  rw [State.dropHasOpenPart_eq, List.any_map]
  exact congrArg (s.shots.table.any ·) (funext fun e => e.openFor_outline d)

/-- What keeps the outline of the shot table opens no part. -/
theorem State.OpensNone.of_store (h : s.KeepsStore t) : s.OpensNone t where
  shots law := law.keep h.table
  opened _ d ho := by
    rw [State.dropHasOpenPart_outline, h.table, ← State.dropHasOpenPart_outline] at ho
    exact ho

/-- Where the shot table is sound a drop has an open part if one is found by the number of its shot. -/
theorem State.ShotLaw.hasOpenPart_iff (h : s.ShotLaw) (d : Drop) :
    s.dropHasOpenPart d = true ↔ ∃ n p, s.part n d = some p ∧ p.status.isOpen = true := by
  simp only [State.dropHasOpenPart, List.any_eq_true, Bool.and_eq_true, decide_eq_true_eq]
  constructor
  · rintro ⟨e, he, p, hp, rfl, ho⟩
    exact ⟨e.trigger, p, (h.part he _).trans (List.find?_nodup (h.drops e he) hp), ho⟩
  · rintro ⟨n, p, hp, ho⟩
    obtain ⟨e, he, -, hq⟩ := State.entry_of_part hp
    obtain ⟨mem, drop⟩ := Entry.mem_of_part hq
    exact ⟨e, he, p, mem, drop, ho⟩

/-! ## Parts that close -/

theorem State.ShotLaw.closePart (h : s.ShotLaw) (n : Half) (d : Drop) (c : ClosedStatus) : (s.closePart n d c).ShotLaw := by
  by_cases shut : ∀ p, s.part n d = some p → p.status.isOpen = false
  · rw [State.closePart_shut shut]; exact h
  push Not at shut
  obtain ⟨p, hp, ho⟩ := shut
  rw [State.closePart_open hp (by simpa using ho)]
  refine State.ShotLawBut.closeEntry ((h.closing hp (fun _ => p.close (s.dropCfg d) c) rfl rfl).congr ?_)
  exact (State.offerPart_frame _ d _).get .shots

theorem State.closePart_opensNone (s : State) (n : Half) (d : Drop) (c : ClosedStatus) : s.OpensNone (s.closePart n d c) where
  shots law := law.closePart n d c
  opened law e ho := by
    obtain ⟨m, p, hp, ho⟩ := ((law.closePart n d c).hasOpenPart_iff e).mp ho
    rw [State.closePart_part_eq] at hp
    split at hp
    · obtain ⟨q, -, rfl⟩ := Option.map_eq_some_iff.mp hp
      rw [Part.closeIfOpen_closed] at ho; cases ho
    · exact (law.hasOpenPart_iff e).mpr ⟨m, p, hp, ho⟩

theorem State.closeOpenParts_opensNone (s : State) (d : Drop) (c : ClosedStatus) : s.OpensNone (s.closeOpenParts d c) :=
  .foldl (fun u n => u.closePart_opensNone n d c) _ s

theorem State.timeoutEntry_opensNone (s : State) (n : Half) : s.OpensNone (s.timeoutEntry n) :=
  .foldl (fun u d => u.closePart_opensNone n d .timeout) _ s

theorem State.endFragment_opensNone (s : State) (d : Drop) : s.OpensNone (s.endFragment d) := .of_store (s.endFragment_keepsStore d)

theorem State.closeLost_opensNone (s : State) (d : Drop) (o : LossOrder) : s.OpensNone (s.closeLost d o) := by
  cases o with
  | receiverFirst => exact (s.endFragment_opensNone d).trans (State.closeOpenParts_opensNone _ d _)
  | closingFirst => exact (s.closeOpenParts_opensNone d _).trans (State.endFragment_opensNone _ d)

theorem State.powerDown_opensNone (s : State) (d : Drop) (next : DropState) : s.OpensNone (s.powerDown d next) := by
  have opened : s.OpensNone (((s.openSwitch d next).giveUpShare d).modLink d LinkPort.powerOff) :=
    .of_shots ((State.giveUpShare_frame _ d).get .shots)
  have closed : s.OpensNone (if (s.drops.get d).state = .ready then
      (((s.openSwitch d next).giveUpShare d).modLink d LinkPort.powerOff).closeOpenParts d .powerLost
      else ((s.openSwitch d next).giveUpShare d).modLink d LinkPort.powerOff) :=
    .ite (fun _ => opened.trans (State.closeOpenParts_opensNone _ d _)) fun _ => opened
  have ended := closed.trans (State.endFragment_opensNone _ d)
  have left : s.OpensNone (if (s.drops.get d).state = .ready then State.lensLeaveReady _ d else _) :=
    .ite (fun _ => ended.trans (.of_frame (State.lensLeaveReady_frame _ d))) fun _ => ended
  have unhomed := left.trans (.of_frame (State.clearHomed_frame _ d))
  exact .ite (fun _ => unhomed.trans (.of_frame (State.darkenCapture_frame _))) fun _ => unhomed

/-! ## The words of fragments -/

/-- A change of a part that leaves it open or closed, as it was. -/
theorem State.modPart_opensNone (s : State) (n : Half) (d : Drop) {f : Part → Part} (hd : ∀ q, (f q).drop = q.drop)
    (ho : ∀ q, (f q).status.isOpen = q.status.isOpen) : s.OpensNone (s.modPart n d f) where
  shots law := law.modPart n d hd ho
  opened law e hm := by
    obtain ⟨m, p, hp, hm⟩ := ((law.modPart n d hd ho).hasOpenPart_iff e).mp hm
    rw [State.part_modPart s n m d e fun q hq => (hd q).trans hq] at hp
    refine (law.hasOpenPart_iff e).mpr ?_
    split at hp
    · rename_i hk
      obtain ⟨q, hq, rfl⟩ := Option.map_eq_some_iff.mp hp
      exact ⟨m, q, hk.2 ▸ hq, (ho q).symm.trans hm⟩
    · exact ⟨m, p, hp, hm⟩

theorem State.startFragment_opensNone (s : State) (d : Drop) (w : Word) : s.OpensNone (s.startFragment d w) := by
  have skips : ∀ f, s.OpensNone (s.modRx d f) := fun f => .of_frame (s.modRx_frame d f)
  refine .ite (fun _ => skips _) fun _ => ?_
  split
  · rename_i m _
    unfold State.bindFragment
    exact (State.OpensNone.of_store (s.modPart_keepsStore m d _ (Part.bind_outline (startIndex w)))).trans
      (.of_frame (State.modRx_frame _ d _))
  · exact .ite (fun _ => skips _) fun _ => skips _

theorem State.storeWord_opensNone {page words : Nat} {w : Word} (h : s.storeWord d n page words w = .next t) :
    s.OpensNone t := by
  unfold State.storeWord at h
  dsimp only at h
  split at h
  · cases h
    exact (State.OpensNone.of_frame (s.modFmm_frame _)).trans
      (State.modPart_opensNone _ n d (f := Part.store (s.dropCfg d) w) (fun _ => rfl) fun _ => rfl)
  · cases h

theorem State.payloadWord_opensNone {p : Part} {k : Nat} {w : Word} (h : s.payloadWord d n p k w = .next t) :
    s.OpensNone t := by
  have taken : s.OpensNone s.takePage.2 := .of_frame s.takePage_frame
  unfold State.payloadWord at h
  split_ifs at h
  · cases h; exact .of_store (s.overlongWord_keepsStore d n k)
  · cases h; exact .of_store (s.loseWord_keepsStore d n)
  · split at h
    · rename_i page u hu
      rw [hu] at taken
      have longer := u.modPart_opensNone n d (f := fun q => { q with chain := q.chain ++ [page] }) (fun _ => rfl) fun _ => rfl
      exact (taken.trans longer).trans (State.storeWord_opensNone h)
    · rename_i u hu
      rw [hu] at taken
      cases h
      exact taken.trans (.of_store (State.loseWord_keepsStore _ d n))
  · exact State.storeWord_opensNone h

theorem State.dataAt_opensNone {w : Word} (h : s.dataAt d w = .next t) : s.OpensNone t := by
  have counted : ∀ f, s.OpensNone (s.modRx d f) := fun f => .of_frame (s.modRx_frame d f)
  unfold State.dataAt at h
  split at h
  · cases h; exact counted _
  · cases h; exact .refl _
  · dsimp only at h
    split at h
    · exact (counted _).trans (State.payloadWord_opensNone h)
    · cases h; exact counted _

theorem State.closeAt_opensNone (s : State) (d : Drop) (w : Word) : s.OpensNone (s.closeAt d w) := by
  have context : ∀ (u : State) f, u.OpensNone (u.modRx d f) := fun u f => .of_frame (u.modRx_frame d f)
  unfold State.closeAt
  split
  · exact context s _
  · exact context s _
  · rename_i m _
    have short : s.OpensNone (s.lengthError d m) := .of_store (s.lengthError_keepsStore d m)
    refine .ite (fun _ => short.trans (context _ _)) fun _ => ?_
    have ended : s.OpensNone ((if endCount w ≠ (s.rx.get d).arrived then s.lengthError d m else s).modRx d Receiver.toIdle) :=
      (State.OpensNone.ite (fun _ => short) fun _ => .refl s).trans (context _ _)
    exact .ite (fun _ => ended.trans (State.closePart_opensNone _ m d _)) fun _ => ended

/-! ## Records -/

/-- The oldest entry leaves the table (07 R134). -/
theorem State.dropOldest_opensNone (s : State) : s.OpensNone (s.modShots fun b => { b with table := b.table.tail }) where
  shots law := by
    have old : ∀ x ∈ s.shots.table.tail, x ∈ s.shots.table := fun x hx => List.mem_of_mem_tail hx
    refine ⟨?_, ?_, fun x hx => law.drops x (old x hx), fun x hx => law.opened x (old x hx),
      fun x hx => law.aged x (old x hx)⟩
    · exact (List.length_tail ▸ Nat.sub_le _ _ : s.shots.table.tail.length ≤ s.shots.table.length).trans law.size
    · exact law.numbers.sublist ((List.tail_sublist _).map _)
  opened _ d ho := by
    obtain ⟨x, hx, hp⟩ := List.any_eq_true.mp ho
    exact List.any_eq_true.mpr ⟨x, List.mem_of_mem_tail hx, hp⟩

theorem State.afterWord_opensNone (s : State) (i length : Nat) : s.OpensNone (s.afterWord i length) :=
  .ite (fun _ => .of_frame (s.modUplink_frame _)) fun _ =>
    (s.dropOldest_opensNone.trans (.of_frame (State.modUplink_frame _ _))).trans (.of_frame (State.boundaryDecision_frame _))

theorem State.sendWord_opensNone {fill : Word} {r : RecordWord} (ht : s.shots.table = e :: rest)
    (h : s.sendWord fill r = .next t) : s.OpensNone t := by
  unfold State.sendWord at h
  split at h
  · cases h; exact .of_frame (s.modUplink_frame _)
  · cases h; exact .of_frame ((s.modUplink_frame _).trans (State.modUplink_frame _ _))
  · rename_i p place
    dsimp only at h
    split_ifs at h
    cases h
    generalize readWord s.fmm.mem (p.chain.headD Config.pageCount) (place % Config.pageWords) = w
    generalize pagesDue (s.dropCfg p.drop).frameSize p place = due
    refine (State.OpensNone.of_store (s.sent_keepsStore w)).trans (.of_law fun law => ?_)
    rw [State.returnDue_eq law ht]
    exact (State.modPart_opensNone _ _ _ (f := Part.dropPages due.length) (fun _ => rfl) fun _ => rfl).trans
      (.of_frame (State.returnPages_frame _ _))

/-- A record begins with an entry that is not OPEN (07 R130). -/
theorem State.beginRecord_opensNone (ht : s.shots.table = e :: rest) (ho : e.state ≠ .open) (ring : Nat) :
    s.OpensNone (s.beginRecord ring e rest) := by
  obtain ⟨f, hf, parts⟩ := s.sendingEntry_parts e
  have outlines : (s.sendingEntry e).parts.map Part.outline = e.parts.map Part.outline := by
    rw [parts, List.map_map, show Part.outline ∘ f = Part.outline from funext hf]
  refine ⟨fun law => ?_, fun _ d hd => ?_⟩
  · obtain ⟨size, numbers, drops, opened, aged⟩ := law
    rw [ht] at size numbers drops opened aged
    have shut : (s.sendingEntry e).hasOpenPart = false := by
      rw [Entry.hasOpenPart_outline, outlines, ← Entry.hasOpenPart_outline]
      exact Bool.eq_false_iff.mpr fun k => ho ((opened e List.mem_cons_self).mpr k)
    refine ⟨size, numbers, ?_, ?_, ?_⟩ <;> refine List.forall_mem_cons.mpr ⟨?_, fun x hx => ?_⟩
    · have := congrArg (List.map fun z : Bool × Drop × Nat × List Nat => z.2.1) outlines
      simp only [List.map_map] at this
      exact (show (s.sendingEntry e).parts.map Part.drop = e.parts.map Part.drop from this) ▸ drops e List.mem_cons_self
    · exact drops x (List.mem_cons_of_mem _ hx)
    · exact iff_of_false nofun (Bool.eq_false_iff.mp shut)
    · exact opened x (List.mem_cons_of_mem _ hx)
    · exact iff_of_false (fun k => ho ((aged e List.mem_cons_self).mp k)) nofun
    · exact aged x (List.mem_cons_of_mem _ hx)
  · have tables : (s.beginRecord ring e rest).dropHasOpenPart d = s.dropHasOpenPart d := by
      have head : (s.sendingEntry e).openFor d = e.openFor d := by
        rw [Entry.openFor_outline, outlines, ← Entry.openFor_outline]
      rw [State.dropHasOpenPart_eq, State.dropHasOpenPart_eq, ht]
      show ((s.sendingEntry e).openFor d || _) = (e.openFor d || _)
      rw [head]
    exact tables.symm.trans hd

end

end Sys2Proof.Machine

/-! PROOF. Open parts on READY drops (O57): what a change must keep of the law, and the drops that leave READY, enter it or
stand out of it (06 R115, 10 R179). -/

namespace Sys2Proof.Machine

/-! ## What keeps the law -/

/-- From `s` to `t` no part opens, a drop that keeps an open part stays READY, and neither locate_hold nor the active
request changes. -/
structure State.KeepsParts (s t : State) : Prop where
  table : s.OpensNone t
  ready : s.ShotLaw → ∀ d, t.dropHasOpenPart d = true → (s.drops.get d).state = .ready → (t.drops.get d).state = .ready
  hold : ∀ d, (t.drops.get d).locateHold = (s.drops.get d).locateHold
  active : t.locator.active = s.locator.active

section
variable {s t u : State} {d : Drop}

theorem State.KeepsParts.refl (s : State) : s.KeepsParts s := ⟨.refl s, fun _ _ _ h => h, fun _ => rfl, rfl⟩

theorem State.KeepsParts.trans (h : s.KeepsParts t) (k : t.KeepsParts u) : s.KeepsParts u where
  table := h.table.trans k.table
  ready law d ho hr :=
    k.ready (h.table.shots law) d ho (h.ready law d (k.table.opened (h.table.shots law) d ho) hr)
  hold d := (k.hold d).trans (h.hold d)
  active := k.active.trans h.active

theorem State.KeepsParts.ite {c : Prop} [Decidable c] (h : c → s.KeepsParts t) (k : ¬c → s.KeepsParts u) :
    s.KeepsParts (if c then t else u) := by
  split
  · exact h ‹_›
  · exact k ‹_›

theorem State.KeepsParts.iteRefl {c : Prop} [Decidable c] (h : s.KeepsParts t) : s.KeepsParts (if c then t else s) :=
  .ite (fun _ => h) fun _ => .refl s

theorem State.KeepsParts.foldl {β : Type} {f : State → β → State} (h : ∀ (s : State) (b : β), s.KeepsParts (f s b)) :
    ∀ (bs : List β) (s : State), s.KeepsParts (bs.foldl f s)
  | [], s => .refl s
  | b :: bs, s => (h s b).trans (State.KeepsParts.foldl h bs (f s b))

/-- A change of the shot table that opens no part, beside the drop records and the Line Locator. -/
theorem State.KeepsParts.of_table {l : List Block} {ds : List Drop} (table : s.OpensNone t) (h : s.ChangesOnly t l ds)
    (hl : Block.drops ∉ l ∧ Block.locator ∉ l := by decide) : s.KeepsParts t := by
  have drops : t.drops = s.drops := h.get .drops hl.1
  have locator : t.locator = s.locator := h.get .locator hl.2
  exact ⟨table, fun _ d _ hr => by rw [drops]; exact hr, fun d => by rw [drops], by rw [locator]⟩

/-- What touches no shot, no drop record and no part of the Line Locator. -/
theorem State.KeepsParts.of_frame {l : List Block} {ds : List Drop} (h : s.ChangesOnly t l ds)
    (hl : Block.shots ∉ l ∧ Block.drops ∉ l ∧ Block.locator ∉ l := by decide) : s.KeepsParts t :=
  .of_table (.of_frame h hl.1) h hl.2

/-- One drop changes its record: with its hold, and still READY where it was and has an open part. -/
theorem State.KeepsParts.of_drop {l : List Block} (table : s.OpensNone t) (frame : s.ChangesOnly t l [d])
    (ready : s.ShotLaw → t.dropHasOpenPart d = true → (s.drops.get d).state = .ready → (t.drops.get d).state = .ready)
    (hold : (t.drops.get d).locateHold = (s.drops.get d).locateHold) (active : t.locator.active = s.locator.active) :
    s.KeepsParts t where
  table := table
  ready law e ho hr := by
    by_cases he : e = d
    · subst he; exact ready law ho hr
    · rw [(frame.drops e (by simpa using he)).drop]; exact hr
  hold e := by
    by_cases he : e = d
    · subst he; exact hold
    · rw [(frame.drops e (by simpa using he)).drop]
  active := active

theorem State.PartLaw.keep (h : s.PartLaw) (k : s.KeepsParts t) : t.PartLaw where
  shots := k.table.shots h.shots
  hold d := by rw [k.hold, k.active]; exact h.hold d
  ready d ho := k.ready h.shots d ho (h.ready d (k.table.opened h.shots d ho))
  queued a ha := h.queued a (k.active ▸ ha)
  quiet a ha ht hp := Bool.eq_false_iff.mpr fun ho =>
    Bool.eq_false_iff.mp (h.quiet a (k.active ▸ ha) ht hp) (k.table.opened h.shots _ ho)

/-! ## Drop records -/

theorem State.modDrop_keepsParts (s : State) (d : Drop) (f : DropRec → DropRec)
    (hs : (s.drops.get d).state = .ready → (f (s.drops.get d)).state = .ready)
    (hh : (f (s.drops.get d)).locateHold = (s.drops.get d).locateHold) : s.KeepsParts (s.modDrop d f) :=
  .of_drop (.of_frame (s.modDrop_frame d f)) (s.modDrop_frame d f) (by simpa using fun _ _ => hs) (by simpa using hh) rfl

theorem State.modLocator_keepsParts (s : State) (f : Locator → Locator) (h : (f s.locator).active = s.locator.active) :
    s.KeepsParts (s.modLocator f) :=
  ⟨.of_frame (s.modLocator_frame f), fun _ _ _ hr => hr, fun _ => rfl, h⟩

/-- A drop that is not READY enters CLAIMING (01 R5). -/
theorem State.enterClaiming_keepsParts (h : (s.drops.get d).state ≠ .ready) : s.KeepsParts (s.enterClaiming d) := by
  have claims := s.enterClaiming_claims d
  exact .of_drop (.of_frame claims.frame) claims.frame (fun _ _ hr => absurd hr h) (by rw [claims.record])
    (by rw [claims.frame.get .locator])

theorem State.wakeDrop_keepsParts (s : State) (d : Drop) : s.KeepsParts (s.wakeDrop d) :=
  .ite (fun h => State.enterClaiming_keepsParts (by rw [h]; decide)) fun _ => .refl s

theorem State.wakeAll_keepsParts (s : State) (ds : List Drop) : s.KeepsParts (s.wakeAll ds) := .foldl State.wakeDrop_keepsParts ds s

theorem State.turnOn_keepsParts (h : (s.drops.get d).state ≠ .ready) : s.KeepsParts (s.turnOn d) :=
  (s.modDrop_keepsParts d (fun r => { r with onIntent := true }) (fun hr => hr) rfl).trans
    (State.enterClaiming_keepsParts (by simpa using h))

theorem State.enterWarming_keepsParts (h : (s.drops.get d).state ≠ .ready) : s.KeepsParts (s.enterWarming d) :=
  (s.modDrop_keepsParts d _ (fun hr => absurd hr h) rfl).trans (.of_frame (State.modLink_frame _ d _))

theorem State.enterReady_keepsParts (s : State) (d : Drop) : s.KeepsParts (s.enterReady d) := by
  have relayed : ∀ u : State, u.KeepsParts (u.setRelayed d none) := fun u =>
    .of_table (.of_store (u.setRelayed_keepsStore d none)) (u.setRelayed_frame d none)
  exact ((s.modDrop_keepsParts d _ (fun _ => rfl) rfl).trans (relayed _)).trans (.of_frame (State.reportState_frame _ d _ _))

/-- A drop that loses its power has no open part left, where it was READY (01 R4, 06 R120). -/
theorem State.powerDown_keepsParts (s : State) (d : Drop) {next : DropState} (hn : next.powered = false) :
    s.KeepsParts (s.powerDown d next) := by
  obtain ⟨down, record⟩ := s.powerDown_spec d hn
  refine .of_drop (s.powerDown_opensNone d next) down.frame (fun law ho hr => ?_) (by rw [record]; rfl) ?_
  · rw [down.parts law hr] at ho; cases ho
  · by_cases hushed : (s.drops.get d).state = .hushed
    · rw [down.capture hushed]
    · rw [down.locator hushed]

theorem State.enterFault_keepsParts (s : State) (d : Drop) (c : Cause) : s.KeepsParts (s.enterFault d c) :=
  ((s.powerDown_keepsParts d rfl).trans (State.modDrop_keepsParts _ d (fun r => { r with cause := some c }) (fun hr => hr) rfl)).trans
    (.of_frame (State.reportState_frame _ d _ _))

theorem State.trip_keepsParts (s : State) (d : Drop) (c : TripCause) : s.KeepsParts (s.trip d c) := by
  have counted := s.modDrop_keepsParts d (fun r => { r with
      tripCount := bump r.tripCount, lastTripCause := some c
      tripSeries := min 3 ((s.drops.get d).tripSeries + 1) }) (fun hr => hr) rfl
  refine .ite (fun _ => ?_) fun _ => counted.trans (State.enterFault_keepsParts _ d _)
  exact ((counted.trans (State.powerDown_keepsParts _ d rfl)).trans
    (State.modDrop_keepsParts _ d (fun r => { r with cause := some c.toCause, backoffTimer := _ }) (fun hr => hr) rfl)).trans
    (.of_frame (State.reportState_frame _ d _ _))

theorem State.sampleCurrent_keepsParts (s : State) (d : Drop) (n : Nat) : s.KeepsParts (s.sampleCurrent d n) := by
  have measured : ∀ x l m, s.KeepsParts (s.modDrop d (·.measure x l m)) := fun x l m =>
    s.modDrop_keepsParts d (·.measure x l m) (fun hr => hr) rfl
  exact .ite (fun _ => (measured _ _ _).trans (State.trip_keepsParts _ d _)) fun _ => measured _ _ _

/-- An unpowered drop enters OFF (01 R26). -/
theorem State.settleOff_keepsParts (h : (s.drops.get d).state.powered = false) : s.KeepsParts (s.settleOff d) :=
  (s.modDrop_keepsParts d _ (fun hr => by rw [hr] at h; cases h) rfl).trans (.of_frame (State.clearHomed_frame _ d))

theorem State.turnOff_keepsParts (s : State) (d : Drop) : s.KeepsParts (s.turnOff d) := by
  have left := State.KeepsParts.of_frame (s.leaveClaims_frame d)
  by_cases hp : (s.drops.get d).state.powered = true
  · rw [State.turnOff_powered hp]
    exact (s.powerDown_keepsParts d rfl).trans (State.modDrop_keepsParts _ d (fun r => { r with cause := none }) (fun hr => hr) rfl)
  · rw [Bool.not_eq_true] at hp
    unfold State.turnOff
    cases hs : (s.drops.get d).state
    case off | tripped | napping => exact State.settleOff_keepsParts hp
    case claiming => exact left.trans (State.settleOff_keepsParts (by rw [(s.leaveClaims_frame d).get .drops]; exact hp))
    case fault => exact .refl s
    all_goals rw [hs] at hp; cases hp

/-- A granted claim takes a CLAIMING drop to RAMPING (03 R61). -/
theorem State.applyVerdict_keepsParts (s : State) (d : Drop) (amount total : Nat) :
    s.KeepsParts (s.applyVerdict d amount total) := by
  have budget : ∀ (u : State) f, u.KeepsParts (u.modBudget f) := fun u f => .of_frame (u.modBudget_frame f)
  refine .ite (fun _ => .ite (fun hg => ?_) fun _ => ?_) fun _ => ?_
  · have ramps : ∀ u : State, u.drops = s.drops → u.KeepsParts (u.enterRamping d) := fun u hu =>
      u.modDrop_keepsParts d _ (fun hr => by rw [hu, hg.1] at hr; cases hr) rfl
    exact ((budget s _).trans (.of_frame (State.leaveClaims_frame _ d))).trans
      (ramps _ ((State.leaveClaims_frame _ d).get .drops))
  · exact (State.KeepsParts.of_frame (s.queueRelease_frame d)).trans (budget _ _)
  · exact .ite (fun _ => (budget _ _).trans (.of_frame (State.waitRetry_frame _ d))) fun _ => budget _ _

/-! ## The port of a drop -/

theorem State.endFragment_keepsParts (s : State) (d : Drop) : s.KeepsParts (s.endFragment d) :=
  .of_table (s.endFragment_opensNone d) (s.endFragment_frame d)

/-- A READY drop that loses lock has no open part left (01 R17, 06 R119). -/
theorem State.readyLost_keepsParts (s : State) (d : Drop) (o : LossOrder) : s.KeepsParts (s.readyLost d o) := by
  obtain ⟨-, -, record, shut, -, -, -, locator⟩ := s.readyLost_spec d o
  have table : s.OpensNone (s.readyLost d o) :=
    (((State.OpensNone.of_frame (s.modDrop_frame d _)).trans (State.closeLost_opensNone _ d o)).trans
      (.of_frame (State.requestFlash_frame _ d))).trans (.of_frame (State.lensLeaveReady_frame _ d))
  refine .of_drop table (s.readyLost_frame d o) (fun law ho _ => ?_) (by rw [record]; rfl) ?_
  · rw [shut law] at ho; cases ho
  · rw [locator]
    unfold State.requestFlash
    rw [State.modLocator_locator]
    split <;> rfl

theorem State.loseLock_keepsParts (s : State) (d : Drop) (o : LossOrder) : s.KeepsParts (s.loseLock d o) := by
  have unlocked := State.KeepsParts.of_frame (s.modLink_frame d LinkPort.unlock)
  exact .ite (fun _ => unlocked.trans (State.readyLost_keepsParts _ d o)) fun _ =>
    unlocked.trans (State.endFragment_keepsParts _ d)

theorem State.beatSeen_keepsParts (s : State) (d : Drop) : s.KeepsParts (s.beatSeen d) :=
  .iteRefl (.ite (fun _ => s.enterReady_keepsParts d) fun _ => .iteRefl
    ((s.modDrop_keepsParts d (fun r => { r with dropoutCount := bump r.dropoutCount }) (fun hr => hr) rfl).trans
      (State.enterReady_keepsParts _ d)))

end

end Sys2Proof.Machine

/-! PROOF. Open parts on READY drops (O57): the active request, which holds its drop, and the triggers that open parts on
drops that no request holds (06 R112; 10 R179, R182, R184). -/

namespace Sys2Proof.Machine

section
variable {s t : State} {d : Drop} {a b : ActiveRequest}

/-! ## The active request -/

/-- What the law asks of the active request: its LOCATE_START is queued in its bundle phase alone, and once it is quiesced its
drop has no open part (10 R179, R181). -/
structure ActiveRequest.SoundIn (a : ActiveRequest) (s : State) : Prop where
  queued : a.bundleState = .queued → a.phase = .bundle
  quiet : a.type = .quiet → (a.phase = .bundle ∨ a.phase = .launch) → s.dropHasOpenPart a.drop = false

theorem State.PartLaw.soundIn (h : s.PartLaw) (ha : s.locator.active = some a) : a.SoundIn s := ⟨h.queued a ha, h.quiet a ha⟩

/-- A request in no bundle phase whose LOCATE_START is not queued is sound whatever parts its drop has. -/
theorem ActiveRequest.SoundIn.of_phase (hq : a.bundleState ≠ .queued) (hp : a.phase ≠ .bundle) (hl : a.phase ≠ .launch) :
    a.SoundIn s := ⟨fun k => absurd k hq, fun _ k => absurd k (not_or.mpr ⟨hp, hl⟩)⟩

theorem ActiveRequest.SoundIn.not_queued (h : a.SoundIn s) (hp : a.phase ≠ .bundle) : a.bundleState ≠ .queued :=
  fun k => hp (h.queued k)

/-- The active request changes, and stays on its drop. -/
theorem State.PartLaw.becomes (h : s.PartLaw) (ha : s.locator.active = some a) (shots : t.shots = s.shots)
    (drops : t.drops = s.drops) (hb : t.locator.active = some b) (hd : b.drop = a.drop) (sound : b.SoundIn s) : t.PartLaw where
  shots := h.shots.congr shots.symm
  hold d := by
    rw [drops, h.hold d, ha, hb]
    simp [hd]
  ready d ho := by
    rw [State.dropHasOpenPart_congr shots] at ho
    rw [drops]; exact h.ready d ho
  queued x hx := by
    rw [hb] at hx; cases hx
    exact sound.queued
  quiet x hx := by
    rw [hb] at hx; cases hx
    rw [State.dropHasOpenPart_congr shots]
    exact sound.quiet

theorem State.modActive_active (ha : s.locator.active = some a) (f : ActiveRequest → ActiveRequest) :
    (s.modActive f).locator.active = some (f a) := congrArg (Option.map f) ha

theorem State.PartLaw.modActive (h : s.PartLaw) (ha : s.locator.active = some a) (f : ActiveRequest → ActiveRequest)
    (hd : (f a).drop = a.drop) (sound : (f a).SoundIn s) : (s.modActive f).PartLaw :=
  h.becomes ha rfl rfl (State.modActive_active ha f) hd sound

/-- The active request ends, and its drop is held no more (10 R184). -/
theorem State.PartLaw.endRequest (h : s.PartLaw) (ha : s.locator.active = some a) : (s.endRequest a).PartLaw := by
  have noted := h.keep (.of_frame (s.queueLocateEnd_frame a))
  have still : (s.queueLocateEnd a).locator.active = some a := by rw [(s.queueLocateEnd_frame a).get .locator, ha]
  generalize hu : s.queueLocateEnd a = u at noted still
  unfold State.endRequest
  dsimp only
  rw [hu]
  refine State.PartLaw.keep (s := ((u.modDrop a.drop fun r => { r with locateHold := false }).modLocator
    fun l => { l with active := none })) ⟨State.ShotLaw.congr (s := u) rfl noted.shots, fun e => ?_, fun e ho => ?_, nofun, nofun⟩
    (.of_frame (State.lookClaims_frame _))
  · rw [State.modLocator_drops, State.modDrop_drops, PerDrop.get_set]
    by_cases he : e = a.drop
    · simp [he]
    · have held := noted.hold e
      rw [still] at held
      simpa [he, Ne.symm he] using held
  · have old : (u.drops.get e).state = .ready := noted.ready e ho
    rw [State.modLocator_drops, State.modDrop_drops, PerDrop.get_set]
    split
    · rename_i he; exact he ▸ old
    · exact old

theorem State.PartLaw.finishRequest (h : s.PartLaw) (ha : s.locator.active = some a) (o : LocateOutcome) :
    (s.finishRequest a o).PartLaw := (h.endRequest ha).keep (.of_frame (State.reportLocate_frame _ _ _ _ _ _))

/-! ## The bundle phase (10 R180, R181) -/

theorem State.PartLaw.defer (h : s.PartLaw) (ha : s.locator.active = some a) : (s.defer a).PartLaw := by
  have sound := h.soundIn ha
  unfold State.defer
  split
  · exact State.PartLaw.finishRequest (h.keep (s.modLocator_keepsParts
      (fun l => { l with bundleFailures := bump l.bundleFailures }) rfl)) ha _
  · exact (h.modActive ha (fun a => { a with deferrals := a.deferrals + 1 }) rfl ⟨sound.queued, sound.quiet⟩).keep
      (State.modLocator_keepsParts _ _ rfl)

theorem State.PartLaw.lookBundle (h : s.PartLaw) (ha : s.locator.active = some a) (hp : a.phase = .bundle) :
    (s.lookBundle a).PartLaw := by
  have noted := State.queueNote_frame s (.locateStart (s.bundle a.drop) a.drop)
  have still := (congrArg Locator.active (noted.get .locator)).trans ha
  have law := h.keep (.of_frame noted)
  unfold State.lookBundle
  dsimp only
  split_ifs
  · exact law.modActive still _ rfl ⟨fun _ => hp, (law.soundIn still).quiet⟩
  · exact h
  · exact h.defer ha

/-- The request leaves its quiesce phase with a capture type (10 R179). -/
theorem State.PartLaw.enterBundle (h : s.PartLaw) (ha : s.locator.active = some a) (hq : a.bundleState ≠ .queued)
    {type : CaptureType} (quiet : type = .quiet → s.dropHasOpenPart a.drop = false) : (s.enterBundle a type).PartLaw := by
  unfold State.enterBundle
  split
  · exact h.modActive ha _ rfl ⟨fun k => absurd k hq, fun ht _ => quiet ht⟩
  · have law := h.modActive ha (fun a => { a with type := type, phase := .bundle }) rfl ⟨fun _ => rfl, fun ht _ => quiet ht⟩
    exact law.lookBundle (State.modActive_active ha _) rfl

theorem State.PartLaw.holderGone (h : s.PartLaw) (b : Nat) : (s.holderGone b).PartLaw := by
  unfold State.holderGone
  split
  · exact h
  · rename_i ha
    split_ifs with hp
    · exact h.lookBundle ha hp.1
    · exact h

theorem State.setHolder_keepsParts (s : State) (b : Nat) (x : Option Holder) :
    s.KeepsParts (s.modLocator (Locator.setHolder b x)) :=
  s.modLocator_keepsParts _ (by unfold Locator.setHolder; split <;> rfl)

theorem State.startHeard_keepsParts (s : State) (st : Station) (b : Nat) : s.KeepsParts (s.startHeard st b) :=
  .iteRefl (s.setHolder_keepsParts _ _)

theorem State.PartLaw.endHeard (h : s.PartLaw) (st : Station) (b : Nat) : (s.endHeard st b).PartLaw := by
  unfold State.endHeard
  split
  · exact h
  · split_ifs
    · exact (h.keep (s.setHolder_keepsParts _ _)).holderGone b
    · exact h

theorem State.PartLaw.ownEndOver (h : s.PartLaw) (b : Nat) : (s.ownEndOver b).PartLaw := by
  unfold State.ownEndOver
  cases ha : s.locator.active with
  | none => exact h.keep (s.modLocator_keepsParts _ (by rw [ha]; rfl))
  | some a =>
    have sound := h.soundIn ha
    refine h.modActive ha _ ?_ ?_ <;> split
    · rfl
    · rfl
    · exact ⟨nofun, sound.quiet⟩
    · exact sound

theorem State.PartLaw.rivalStart (h : s.PartLaw) (b : Nat) : (s.rivalStart b).PartLaw := by
  unfold State.rivalStart
  split
  · exact h
  · rename_i a ha
    split_ifs
    · have withdrawn := s.withdraw_frame (·.isStartFor b)
      have still := (congrArg Locator.active (withdrawn.get .locator)).trans ha
      have law := h.keep (.of_frame withdrawn)
      exact (law.modActive still (fun a => { a with bundleState := .none }) rfl
        ⟨nofun, (law.soundIn still).quiet⟩).defer (State.modActive_active still _)
    · exact h

/-- The own LOCATE_START takes its request from the bundle phase to LAUNCH (10 R181). -/
theorem State.PartLaw.ownStart (h : s.PartLaw) (st : Station) (b : Nat) : (s.ownStart st b).PartLaw := by
  have law := h.keep (s.startHeard_keepsParts st b)
  unfold State.ownStart
  dsimp only
  split
  · rename_i a ha
    split_ifs with hq
    · have sound := law.soundIn ha
      exact law.modActive ha _ rfl ⟨nofun, fun ht _ => sound.quiet ht (.inl (sound.queued hq.1))⟩
    · exact law
  · exact law

theorem State.PartLaw.tellDropped (h : s.PartLaw) (b : NoteBody) : (s.tellDropped b).PartLaw := by
  unfold State.tellDropped
  split
  · exact h.keep (.of_frame (s.modTrig_frame _))
  · refine State.PartLaw.keep ?_ (.of_frame (State.lookClaims_frame _))
    exact h.keep (.ite (fun _ => .of_frame ((s.modBudget_frame _).trans (State.waitRetry_frame _ _)))
      fun _ => .of_frame (s.modBudget_frame _))
  · exact h
  · split
    · rename_i ha
      split_ifs
      · exact h.finishRequest ha _
      · exact h
    · exact h
  · dsimp only
    split_ifs
    · exact ((h.ownEndOver _).keep (State.setHolder_keepsParts _ _ _)).holderGone _
    · exact h.ownEndOver _
  all_goals exact h

/-! ## The phases of a request (10 R179, R182) -/

/-- A request becomes active in its quiesce phase, and its drop is held (10 R179). -/
theorem State.PartLaw.holds (h : s.PartLaw) (none_active : s.locator.active = none) {f : Locator → Locator}
    (ha : (f s.locator).active = some a) (sound : a.SoundIn s) : ((s.modLocator f).setHold a.drop).PartLaw := by
  have held : ((s.modLocator f).modDrop a.drop fun r => { r with locateHold := true }).PartLaw := by
    refine ⟨State.ShotLaw.congr (s := s) rfl h.shots, fun e => ?_, fun e ho => ?_, fun x hx => ?_, fun x hx => ?_⟩
    · have free := h.hold e
      rw [State.modDrop_locator, State.modLocator_locator, ha, State.modDrop_drops, State.modLocator_drops, PerDrop.get_set]
      rw [none_active] at free
      by_cases he : e = a.drop
      · simp [he]
      · simpa [he, Ne.symm he] using free
    · have old : (s.drops.get e).state = .ready := h.ready e ho
      rw [State.modDrop_drops, State.modLocator_drops, PerDrop.get_set]
      split
      · rename_i he; exact he ▸ old
      · exact old
    all_goals
      rw [State.modDrop_locator, State.modLocator_locator, ha] at hx
      cases hx
    · exact sound.queued
    · exact sound.quiet
  unfold State.setHold
  dsimp only
  split_ifs
  · exact held.keep (.of_frame (State.stopSweep_frame _ _ _))
  · exact held

theorem State.PartLaw.activate (h : s.PartLaw) (none_active : s.locator.active = none) (e : RequestEntry)
    (rest : List RequestEntry) : (s.activate e rest).PartLaw := by
  have law := h.holds none_active (a := e.activate (if s.isReady e.drop then .quiet else .dark))
    (f := fun l => { l with
      requests := rest, active := some (e.activate (if s.isReady e.drop then .quiet else .dark)) }) rfl
    (.of_phase nofun nofun nofun)
  unfold State.activate
  dsimp only
  split_ifs at law ⊢
  · exact law
  · exact law.enterBundle (congrArg Locator.active ((State.setHold_frame _ e.drop).get .locator)) nofun nofun

/-- The hush of a drop without an open part for the request in LAUNCH (10 R182). -/
theorem State.PartLaw.launchQuiet (h : s.PartLaw) (ha : s.locator.active = some a) (hp : a.phase = .launch)
    (ht : a.type = .quiet) : (s.launchQuiet a).PartLaw := by
  have sound := h.soundIn ha
  have shut := sound.quiet ht (.inr hp)
  have hushed := s.hush_frame a.drop
  have record : (s.hush a.drop).drops.get a.drop =
      { s.drops.get a.drop with state := .hushed, stableTimer := .stopped, napTimer := .stopped } := by
    unfold State.hush
    rw [(State.lensLeaveReady_frame _ _).get .drops]
    simp [State.handMark]
  have law : (s.hush a.drop).PartLaw := by
    refine h.keep (.of_drop (.of_frame hushed) hushed (fun _ ho => ?_) (by rw [record]) (by rw [hushed.get .locator]))
    rw [State.dropHasOpenPart_congr (hushed.get .shots), shut] at ho; cases ho
  have still := (congrArg Locator.active (hushed.get .locator)).trans ha
  refine law.becomes (b := { a with phase := .settle }) still rfl rfl ?_ rfl
    (.of_phase (sound.not_queued (by rw [hp]; exact nofun)) nofun nofun)
  exact congrArg (Option.map _) still

theorem State.PartLaw.launch (h : s.PartLaw) (ha : s.locator.active = some a) (hp : a.phase = .launch) : (s.launch a).PartLaw := by
  have idle := (h.soundIn ha).not_queued (by rw [hp]; exact nofun)
  unfold State.launch
  dsimp only
  split_ifs with _ hq
  · exact h.becomes (b := { a with type := .dark, phase := .capture }) ha rfl rfl (congrArg (Option.map _) ha) rfl
      (.of_phase idle nofun nofun)
  · exact h.launchQuiet ha hp hq.1
  · have noted := s.queueLocateEnd_frame a
    exact (h.keep (.of_frame noted)).modActive ((congrArg Locator.active (noted.get .locator)).trans ha) _ rfl
      (.of_phase idle nofun nofun)
  · exact h

/-! ## Captures (10 R183, R184) -/

theorem State.unhush_keepsParts (s : State) (d : Drop) : s.KeepsParts (s.unhush d) := by
  unfold State.unhush
  split
  · rename_i hs
    exact (State.KeepsParts.of_frame (s.handMark_frame d _)).trans (State.enterWarming_keepsParts (by
      show (s.drops.get d).state ≠ .ready
      rw [hs]; exact nofun))
  · exact .refl s

/-- The capture in flight ends, and a requested one's request with it (10 R184). -/
theorem State.PartLaw.endCapture (h : s.PartLaw) (c : Capture) (o : LocateOutcome) (r : Option Reflection) :
    (s.endCapture c o r).PartLaw := by
  have law := h.keep ((s.modLocator_keepsParts (fun l => { l with capture := none, settle := .stopped }) rfl).trans
    (State.unhush_keepsParts _ c.drop))
  unfold State.endCapture
  dsimp only
  refine State.PartLaw.keep ?_ (.of_frame (State.reportLocate_frame _ _ _ _ _ _))
  split
  · exact law
  · rename_i ha; exact law.endRequest ha
  · rename_i ha; exact law.endRequest ha
  · exact law

theorem State.makeRecord_keepsParts (s : State) (c : Capture) (r : Reflection) : s.KeepsParts (s.makeRecord c r) :=
  .of_table (.of_store (s.makeRecord_keepsStore c r)) (s.makeRecord_frame c r)

/-- A shot of the capture in flight has completed (10 R183, R184). -/
theorem State.PartLaw.shotDone (h : s.PartLaw) (c : Capture) : (s.shotDone c).PartLaw := by
  unfold State.shotDone
  split_ifs
  · exact h.endCapture c _ _
  · unfold State.finishCapture
    dsimp only
    split
    · exact (h.keep (s.modLocator_keepsParts (fun l => { l with noLaunch := bump l.noLaunch }) rfl)).endCapture c _ _
    · exact (h.keep ((s.modLocator_keepsParts (fun l => { l with analysed := bump l.analysed }) rfl).trans
        (State.makeRecord_keepsParts _ c _))).endCapture c _ _
  · exact h.keep (s.modLocator_keepsParts (fun l => { l with capture := some c }) rfl)

/-- The active request is halted (10 R186). -/
theorem State.PartLaw.haltActive (h : s.PartLaw) (ha : s.locator.active = some a) : (s.haltActive a).1.PartLaw := by
  have withdrawn : s.ChangesOnly (s.withdrawStart a) [.cli] [] := .iteRefl (s.withdraw_frame _)
  have still := (congrArg Locator.active (withdrawn.get .locator)).trans ha
  have sound := h.soundIn ha
  unfold State.haltActive
  split
  iterate 3 exact (h.keep (.of_frame withdrawn)).finishRequest still _
  · split
    · exact h.endCapture _ _ _
    · exact h.finishRequest ha _
  · exact h.becomes (b := { a with haltOwed := true }) ha rfl rfl (congrArg (Option.map _) ha) rfl ⟨sound.queued, sound.quiet⟩

theorem Locator.active_of_activeOf {l : Locator} (h : l.activeOf d = some a) : l.active = some a := by
  unfold Locator.activeOf at h
  split at h
  · split_ifs at h
    rename_i hx _
    rw [hx]; exact h
  · cases h

theorem State.PartLaw.answer (h : s.PartLaw) (k : Byte) (r : Request) (c : AnswerCode) (v : AnswerValue) :
    (s.answer k r c v).PartLaw := h.keep (.of_frame (s.answer_frame k r c v))

theorem State.PartLaw.locateHaltDrop (h : s.PartLaw) (r : Request) (d : Drop) : (s.locateHaltDrop r d).PartLaw := by
  have count : s.KeepsParts s.countHalt := s.modLocator_keepsParts (fun l => { l with halts := bump l.halts }) rfl
  unfold State.locateHaltDrop
  dsimp only
  split
  · exact h.answer _ _ _ _
  · split_ifs
    · exact (h.keep ((count.trans (State.modLocator_keepsParts _ (fun l =>
        { l with requests := l.requests.filter fun e => decide (e.drop ≠ d) }) rfl)).trans
        (.of_frame (State.reportLocate_frame _ _ _ _ _ _)))).answer _ _ _ _
    · exact h.answer _ _ _ _
  · rename_i ha
    split_ifs
    · exact State.PartLaw.answer ((h.keep count).haltActive (Locator.active_of_activeOf ha)) _ _ _ _
    · exact h.answer _ _ _ _

end

end Sys2Proof.Machine

/-! PROOF. Open parts on READY drops (O57): triggers, resets, the end of loading, and every command. -/

namespace Sys2Proof.Machine

section
variable {s t u : State} {d : Drop} {e : Entry}

/-! ## Triggers -/

theorem State.ShotLaw.add (h : s.ShotLaw) (k : s.Joins e) : (s.modShots (·.add e)).ShotLaw := by
  have table : (s.modShots (·.add e)).shots.table = s.shots.table ++ [e] := rfl
  have all : ∀ {P : Entry → Prop}, (∀ x ∈ s.shots.table, P x) → P e → ∀ x ∈ (s.modShots (·.add e)).shots.table, P x := by
    intro P old new x hx
    rcases List.mem_append.mp hx with hx | hx
    · exact old x hx
    · rw [List.mem_singleton.mp hx]; exact new
  refine ⟨?_, ?_, all h.drops k.drops, all h.opened k.opened, all h.aged k.aged⟩
  · rw [table, List.length_append]; exact k.room
  · have new : e.trigger ∉ s.shots.table.map Entry.trigger := fun hm => by
      obtain ⟨x, hx, hn⟩ := List.mem_map.mp hm
      exact (by simpa using List.find?_eq_none.mp k.new x hx : x.trigger ≠ e.trigger) hn
    rw [table, List.map_append, List.map_singleton, ← List.concat_eq_append]
    exact h.numbers.concat new

/-- An entry joins whose open parts are of READY drops that no request holds (06 R112). -/
theorem State.PartLaw.add (h : s.PartLaw) (k : s.Joins e)
    (free : ∀ d, e.openFor d = true → (s.drops.get d).state = .ready ∧ (s.drops.get d).locateHold = false) :
    (s.modShots (·.add e)).PartLaw where
  shots := h.shots.add k
  hold := h.hold
  ready d ho := by
    rw [State.dropHasOpenPart_eq, show (s.modShots (·.add e)).shots.table = s.shots.table ++ [e] from rfl, List.any_append,
      List.any_cons, List.any_nil, Bool.or_false, Bool.or_eq_true] at ho
    exact ho.elim (h.ready d) fun k => (free d k).1
  queued := h.queued
  quiet a ha ht hp := by
    have held : (s.drops.get a.drop).locateHold = true := (h.hold a.drop).mpr ⟨a, ha, rfl⟩
    rw [State.dropHasOpenPart_eq, show (s.modShots (·.add e)).shots.table = s.shots.table ++ [e] from rfl, List.any_append,
      List.any_cons, List.any_nil, Bool.or_false, Bool.or_eq_false_iff]
    exact ⟨h.quiet a ha ht hp, Bool.eq_false_iff.mpr fun k => by rw [(free _ k).2] at held; cases held⟩

/-- A part is open from its opening on a READY drop with locate_hold clear alone (06 R112). -/
theorem State.openingPart_isOpen (s : State) (d : Drop) :
    (s.openingPart d).status.isOpen = true ↔ (s.drops.get d).state = .ready ∧ (s.drops.get d).locateHold = false := by
  unfold State.openingPart
  dsimp only
  split_ifs with hushed held ready napping
  · exact iff_of_false nofun fun k => by rw [hushed] at k; cases k.1
  · exact iff_of_false nofun fun k => by rw [held] at k; cases k.2
  · exact iff_of_true rfl ⟨ready, Bool.eq_false_iff.mpr held⟩
  · exact iff_of_false nofun fun k => ready k.1
  · exact iff_of_false nofun fun k => ready k.1

theorem State.relay_keepsParts (s : State) (n : Half) (d : Drop) : s.KeepsParts (s.relay n d) := by
  have relayed : ∀ u : State, u.KeepsParts (u.setRelayed d (some n)) := fun u =>
    .of_table (.of_store (u.setRelayed_keepsStore d _)) (u.setRelayed_frame d _)
  exact ((State.KeepsParts.of_frame (s.handMark_frame d _)).trans (relayed _)).trans
    (State.modDrop_keepsParts _ d _ (fun hr => hr) rfl)

theorem State.startPart_keepsParts (s : State) (n : Half) (p : Part) : s.KeepsParts (State.startPart n s p) :=
  .ite (fun _ => s.relay_keepsParts n p.drop) fun _ => .of_frame (s.offerPart_frame p.drop p)

theorem State.skipShot_keepsParts (s : State) (ds : List Drop) (b : Bool) : s.KeepsParts (s.skipShot ds b) :=
  (State.KeepsParts.of_table (.of_store (s.modShots_keepsStore _ rfl)) (s.modShots_frame _)).trans
    (State.wakeAll_keepsParts _ ds)

theorem State.PartLaw.handTrigger (h : s.PartLaw) (n : Half) (mask : Byte) (src : Station) :
    (s.handTrigger n mask src).PartLaw := by
  unfold State.handTrigger
  dsimp only
  split_ifs with involved room new
  · exact h
  · exact h.keep (s.skipShot_keepsParts _ _)
  · exact h.keep (s.skipShot_keepsParts _ _)
  · have joins := State.newEntry_joins src involved (Nat.lt_of_not_le room) (by simpa using new)
    have added := h.add joins fun d ho => by
      obtain ⟨p, hp, ho⟩ := List.any_eq_true.mp ho
      obtain ⟨e, -, rfl⟩ := List.mem_map.mp hp
      rw [Bool.and_eq_true, decide_eq_true_eq, State.openingPart_drop] at ho
      exact ho.1 ▸ (s.openingPart_isOpen e).mp ho.2
    have opened := (added.keep (.foldl (fun u p => u.startPart_keepsParts n p)
      ((s.involved mask).map s.openingPart) _)).keep (State.wakeAll_keepsParts _ (s.involved mask))
    unfold State.openShot
    dsimp only
    split
    · exact opened.keep (.of_frame (State.boundaryDecision_frame _))
    · exact opened

theorem State.PartLaw.takeTrigger (h : s.PartLaw) (n : Half) (mask : Byte) (src : Station) :
    (s.takeTrigger n mask src).PartLaw := by
  refine State.PartLaw.handTrigger (h.keep ?_) n mask src
  exact (State.KeepsParts.of_frame (s.modTrig_frame (·.number n))).trans
    (.iteRefl (.of_frame (State.queueEvent_frame _ _)))

theorem State.PartLaw.triggerEcho (h : s.PartLaw) : s.triggerEcho.PartLaw := by
  unfold State.triggerEcho
  split
  · exact State.PartLaw.takeTrigger (h.keep ((State.KeepsParts.of_frame s.echoed_frame).trans
      (.of_frame (State.modTrig_frame _ _)))) _ _ _
  · exact h

/-! ## Receipts, resets and loading -/

theorem State.PartLaw.hear (h : s.PartLaw) (src : Station) {f : State → State} (hf : ∀ u : State, u.PartLaw → (f u).PartLaw) :
    (s.hear src f).PartLaw := by
  unfold State.hear
  split
  · exact h.keep (.of_frame s.ownNumber_frame)
  · exact hf _ (h.keep (.of_frame s.countHeard_frame))

theorem State.PartLaw.takeDropRequest (h : s.PartLaw) (k : RequestKind) (rank : Rank) (r : Request)
    {f : Drop → State → State} (hf : ∀ (d : Drop) (u : State), u.PartLaw → (f d u).PartLaw) :
    (s.takeDropRequest k rank r f).PartLaw := by
  unfold State.takeDropRequest State.takeRequest
  refine h.hear r.src fun u hu => ?_
  split_ifs
  · exact hu
  · split
    · exact hf _ u hu
    · exact hu.answer _ _ _ _
  · exact hu.answer _ _ _ _

/-- After a reset no part is open, and no request is active. -/
theorem State.resetAll_partLaw (s : State) (pins : Pins) : (s.resetAll pins).PartLaw :=
  State.reset_partLaw.keep ⟨.of_shots rfl, fun _ _ ho => (nomatch ho), fun d => by cases d <;> rfl, rfl⟩

/-- While loading lasts every drop is OFF, so its end turns no READY drop on (01 R30). -/
theorem State.loadEnd_keepsParts (off : ∀ d, (s.drops.get d).state = .off) (read : EepromRead) :
    s.KeepsParts (Drop.all.foldl State.autoPower (s.load read).announce) := by
  have auto : ∀ (ds : List Drop) (u : State), (∀ d, (u.drops.get d).state ≠ .ready) →
      u.KeepsParts (ds.foldl State.autoPower u) := by
    intro ds
    induction ds with
    | nil => exact fun u _ => .refl u
    | cons d ds ih =>
      intro u hu
      refine State.KeepsParts.trans (.iteRefl (State.turnOn_keepsParts (hu d))) (ih _ fun e => ?_)
      split
      · have claims := u.turnOn_claims d
        by_cases he : e = d
        · rw [he, claims.record]; exact nofun
        · rw [(claims.frame.drops e (by simpa using he)).drop]; exact hu e
      · exact hu e
  have loaded := (s.load_frame read).mono (m := [.loader, .cfg, .clampedFields, .cli]) (by decide) (fun _ h => h) |>.step
    (State.announce_frame _) (by decide) (by simp)
  refine (State.KeepsParts.of_frame loaded).trans (auto _ _ fun d => ?_)
  rw [loaded.get .drops, off]
  exact nofun

end

/-! ## Every command -/

/-- Every command keeps the law; the end of loading needs that no drop is out of OFF before it. -/
theorem State.PartLaw.exec {s t : State} (h : s.PartLaw) (off : s.loader = .loading → ∀ d, (s.drops.get d).state = .off)
    (c : Instr) (he : Machine.exec c s = .next t) : t.PartLaw := by
  have item : ∀ d, s.KeepsParts (s.heardItem d) := fun d => .of_frame (s.heardItem_frame d)
  cases c with
  | powerOnReset pins => cases he; exact s.resetAll_partLaw pins
  | cellReset src target pins =>
    cases he
    refine h.hear src fun u hu => ?_
    split_ifs
    · exact (u.resetAll_partLaw pins).keep ⟨.of_shots rfl, fun _ _ _ hr => hr, fun _ => rfl, rfl⟩
    · exact hu.keep ⟨.of_shots rfl, fun _ _ _ hr => hr, fun _ => rfl, rfl⟩
    · exact hu
  | loadEnd read =>
    cases he
    split_ifs with hl
    · exact h.keep (State.loadEnd_keepsParts (off hl) read)
    · exact h
  | sendError e =>
    cases he
    split
    · exact h
    · dsimp only
      split_ifs
      · exact h.keep (.of_frame s.loseArbitration_frame)
      · exact h.keep (.of_frame (s.abortNote_frame.trans (State.modCli_frame _ _)))
      · exact State.PartLaw.tellDropped (h.keep (.of_frame (s.abortNote_frame.trans (State.dropNote_frame _ _)))) _
  | triggerNote note =>
    cases he
    split
    · exact h.hear _ fun u hu => hu.takeTrigger _ _ _
    · exact h.triggerEcho
  | claimEcho =>
    cases he
    split
    · exact h.keep (((State.KeepsParts.of_frame s.echoed_frame).trans (State.applyVerdict_keepsParts _ _ _ _)).trans
        (.of_frame (State.lookClaims_frame _)))
    · exact h
  | locateStartNote note =>
    cases he
    split
    · exact h.hear _ fun u hu => (hu.keep (u.startHeard_keepsParts _ _)).rivalStart _
    · unfold State.startEcho
      split
      · exact (h.keep (.of_frame s.echoed_frame)).ownStart _ _
      · exact h
  | locateEndNote note =>
    cases he
    split
    · exact h.hear _ fun u hu => hu.endHeard _ _
    · unfold State.endEcho
      split
      · exact ((h.keep (.of_frame s.echoed_frame)).ownEndOver _).endHeard _ _
      · exact h
  | holderExpiry b =>
    cases he
    split_ifs
    · exact (h.keep (s.setHolder_keepsParts b none)).holderGone b
    · exact h
  | quiesceEnd =>
    cases he
    split
    · rename_i a ha
      split_ifs with hp hq
      · exact h
      · have idle := (h.soundIn ha).not_queued (by rw [not_not.mp hp]; exact nofun)
        simp only [State.quiesced, Bool.and_eq_true, Bool.not_eq_true'] at hq
        exact h.enterBundle ha idle fun _ => hq.1.2
      · exact h
      · exact h.enterBundle ha ((h.soundIn ha).not_queued (by rw [not_not.mp hp]; exact nofun)) nofun
    · exact h
  | powerOn r =>
    cases he
    refine h.takeDropRequest _ _ r fun d u hu => ?_
    unfold State.powerOnDrop
    split
    · exact hu.answer _ _ _ _
    · split
      · rename_i hs
        exact (hu.keep (State.turnOn_keepsParts (by rw [hs]; exact nofun))).answer _ _ _ _
      all_goals exact hu.answer _ _ _ _
  | powerOff r =>
    cases he
    refine h.takeDropRequest _ _ r fun d u hu => State.PartLaw.answer ?_ _ _ _ _
    exact hu.keep ((u.modDrop_keepsParts d (fun r => { r with onIntent := false }) (fun hr => hr) rfl).trans
      (State.turnOff_keepsParts _ d))
  | wake r =>
    cases he
    refine h.takeDropRequest _ _ r fun d u hu => ?_
    split
    · exact (hu.keep (u.wakeDrop_keepsParts d)).answer _ _ _ _
    · exact hu.answer _ _ _ _
  | clear r =>
    cases he
    refine h.takeDropRequest _ _ r fun d u hu => ?_
    split_ifs with hs
    · exact (hu.keep ((u.modDrop_keepsParts d _ (fun hr => by rw [hs] at hr; cases hr) rfl).trans
        (.of_frame (State.clearHomed_frame _ d)))).answer _ _ _ _
    · exact hu.answer _ _ _ _
  | backoffExpiry d =>
    cases he
    refine h.keep ?_
    split_ifs with hr
    · refine (s.modDrop_keepsParts d (fun r => { r with cause := none, backoffTimer := .stopped }) (fun hr => hr) rfl).trans
        (State.enterClaiming_keepsParts ?_)
      simp [hr.1]
    · exact .refl s
  | powerGood d =>
    cases he
    refine h.keep ?_
    split_ifs with hr
    · exact State.enterWarming_keepsParts (by rw [hr.1]; exact nofun)
    · exact .refl s
  | rampWindowExpiry d => cases he; exact h.keep (.iteRefl (s.trip_keepsParts d _))
  | currentAboveSteady d n => cases he; exact h.keep (s.sampleCurrent_keepsParts d n)
  | currentBelowSteady d n => cases he; exact h.keep (s.sampleCurrent_keepsParts d n)
  | steadyTripExpiry d => cases he; exact h.keep (.iteRefl (s.trip_keepsParts d _))
  | hardTrip d => cases he; exact h.keep (.iteRefl (s.trip_keepsParts d _))
  | stableTimerExpiry d => cases he; exact h.keep (.iteRefl (s.modDrop_keepsParts d _ (fun hr => hr) rfl))
  | napTimerExpiry d =>
    cases he
    exact h.keep (.iteRefl ((s.powerDown_keepsParts d rfl).trans (.of_frame (State.reportState_frame _ d _ _))))
  | warmTimerExpiry d => cases he; exact h.keep (.iteRefl (s.enterFault_keepsParts d _))
  | relockWindowExpiry d => cases he; exact h.keep (.iteRefl (s.enterFault_keepsParts d _))
  | lockLoss d o => cases he; exact h.keep (.iteRefl (s.loseLock_keepsParts d o))
  | lockTimeout d o => cases he; exact h.keep (.iteRefl (s.loseLock_keepsParts d o))
  | beat d =>
    cases he
    exact h.keep (.iteRefl ((((item d).trans (.of_frame (State.modLink_frame _ d _))).trans
      (State.endFragment_keepsParts _ d)).trans (State.beatSeen_keepsParts _ d)))
  | openWord d w =>
    cases he
    exact h.keep (.iteRefl (((item d).trans (State.endFragment_keepsParts _ d)).trans
      (.of_table (State.startFragment_opensNone _ d w) (State.startFragment_frame _ d w))))
  | dataWord d w =>
    change execDataWord d w s = .next t at he
    unfold execDataWord at he
    split at he
    · exact h.keep ((item d).trans (.of_table (State.dataAt_opensNone he) (State.dataAt_frame he)))
    · cases he; exact h
  | closeWord d w =>
    cases he
    exact h.keep (.iteRefl ((item d).trans (.of_table (State.closeAt_opensNone _ d w) (State.closeAt_frame _ d w))))
  | shotTimeout n =>
    cases he
    split
    · exact h.keep (.iteRefl (.of_table (s.timeoutEntry_opensNone n) (s.timeoutEntry_frame n)))
    · exact h
  | markSent d =>
    cases he
    split
    · refine h.keep (State.KeepsParts.trans ?_ (.of_frame (State.modLink_frame _ d _)))
      unfold State.markStarts
      split
      · exact .refl s
      · exact .refl s
      · split
        · exact .iteRefl (s.modLocator_keepsParts (fun l => { l with settle := s.timer Config.settleUs }) rfl)
        · exact .refl s
      · split
        · exact .iteRefl (.of_frame (s.modLens_frame d _))
        · exact .refl s
    · exact h
  | recordStart =>
    cases he
    split
    · rename_i c e rest hc ht
      refine h.keep ?_
      split_ifs with hr
      · refine .of_table (State.beginRecord_opensNone ht (State.not_open_of_pauseNow ht hr.2.2) _)
          (l := [.shots, .uplink]) (ds := []) ?_
        exact ((s.modShots_frame _).mono (by decide) (by simp)).step (State.modUplink_frame _ _) (by decide) (by simp)
      · exact .refl s
    · exact h
  | uplinkWordSent =>
    refine h.keep (.of_table ?_ (exec_frame _ he))
    change execUplinkWordSent s = .next t at he
    unfold execUplinkWordSent at he
    split at he
    · rename_i c e rest i _ ht _
      split at he
      · cases hw : s.sendWord c.station.fillWord (s.recordWord e i) with
        | next u =>
          rw [hw] at he
          cases he
          exact (State.sendWord_opensNone ht hw).trans (State.afterWord_opensNone u i _)
        | fault r => rw [hw] at he; cases he
        | refused r => rw [hw] at he; cases he
      · cases he; exact .refl s
    · cases he; exact .refl s
  | locate r =>
    cases he
    refine h.takeDropRequest _ _ r fun d u hu => ?_
    have joins : ∀ e, u.KeepsParts (u.modLocator (Locator.addRequest e)) := fun e => u.modLocator_keepsParts _ rfl
    unfold State.locateDrop
    dsimp only
    split_ifs
    iterate 3 exact hu.answer _ _ _ _
    all_goals exact (hu.keep (joins _)).answer _ _ _ _
  | locateHalt r => cases he; exact h.takeDropRequest _ _ r fun d u hu => hu.locateHaltDrop r d
  | flashStart =>
    cases he
    split
    · exact h.keep (.iteRefl (s.modLocator_keepsParts _ rfl))
    · exact h
  | flashStale d => cases he; exact h.keep (.iteRefl (s.modLocator_keepsParts _ rfl))
  | settleEnd =>
    cases he
    split_ifs with hs
    · simp only [Locator.inPhase, Bool.and_eq_true] at hs
      cases ha : s.locator.active with
      | none => rw [ha] at hs; cases hs.1
      | some a =>
        rw [ha] at hs
        have phase : a.phase = .settle := by simpa using hs.1
        have idle := (h.soundIn ha).not_queued (by rw [phase]; exact nofun)
        exact h.becomes (b := { a with phase := .capture }) ha rfl rfl (congrArg (Option.map _) ha) rfl
          (.of_phase idle nofun nofun)
    · exact h
  | requestActivate =>
    cases he
    split
    · rename_i ha _
      dsimp only
      split_ifs
      · exact h.activate ha _ _
      · exact h
    · exact h
  | launchStart =>
    cases he
    split
    · rename_i ha
      split_ifs with hp
      · exact h.launch ha hp.1
      · exact h
    · exact h
  | shotComplete samples =>
    cases he
    split
    · split_ifs
      · exact h.shotDone _
      · exact h
    · exact h
  | _ => exact h.keep (.of_frame (exec_frame _ he) (by dsimp only [touchedBy]; decide))

/-- Settles O57: each command keeps the law, by its frame where it touches no shot, no drop record and no part of the Line
Locator, and otherwise by what it does to open parts, to the drops that have them and to the active request. -/
theorem everyStepKeepsOpenPartsOnReadyDrops : Obligations.EveryStepKeepsOpenPartsOnReadyDrops := by
  intro s t law budget hs
  unfold step at hs
  split at hs
  · cases hs; exact law.keep ⟨.of_shots rfl, fun _ _ _ hr => hr, fun _ => rfl, rfl⟩
  · have front : s.withoutFront.PartLaw := law.keep ⟨.of_shots rfl, fun _ _ _ hr => hr, fun _ => rfl, rfl⟩
    exact front.exec (fun hl => budget.offUntilLoaded (budget.loading.mp hl)) _ hs

end Sys2Proof.Machine

/-! PROOF. Triggers (O24, O25): the drops that a trigger wakes, and the shot that it opens with a part for each drop it
involves (06 R108 to R114). -/

namespace Sys2Proof.Machine

section
variable {s t u : State} {d e : Drop} {n : Half} {p : Part} {mask : Byte} {src : Station}

/-! ## Wakes (01 R23; 06 R109, R112) -/

/-- The drop record as a wake leaves it (01 R23). -/
def DropRec.woken (r : DropRec) : DropRec := if r.state = .napping then { r with state := .claiming } else r

theorem DropRec.woken_napping {r : DropRec} (h : r.state = .napping) : r.woken = { r with state := .claiming } := if_pos h

theorem DropRec.woken_of_ne {r : DropRec} (h : r.state ≠ .napping) : r.woken = r := if_neg h

theorem DropRec.woken_twice (r : DropRec) : r.woken.woken = r.woken := by
  by_cases h : r.state = .napping
  · rw [DropRec.woken_napping h]
    exact DropRec.woken_of_ne nofun
  · rw [DropRec.woken_of_ne h, DropRec.woken_of_ne h]

theorem State.wakeDrop_drop (s : State) (d : Drop) : (s.wakeDrop d).drops.get d = (s.drops.get d).woken := by
  unfold State.wakeDrop
  split
  · rename_i h
    rw [(s.enterClaiming_claims d).record, DropRec.woken_napping h]
  · rename_i h
    exact (DropRec.woken_of_ne h).symm

theorem State.wakeDrop_other (s : State) (h : e ≠ d) : (s.wakeDrop d).drops.get e = s.drops.get e :=
  ((s.wakeDrop_frame d).drops e (by simpa using h)).drop

/-- Every drop of the list that naps enters CLAIMING, and no other drop record changes. -/
theorem State.wakeAll_drop (s : State) (ds : List Drop) (d : Drop) :
    (s.wakeAll ds).drops.get d = if d ∈ ds then (s.drops.get d).woken else s.drops.get d := by
  induction ds generalizing s with
  | nil => rfl
  | cons e ds ih =>
    refine (ih (s.wakeDrop e)).trans ?_
    by_cases he : d = e
    · subst he
      rw [State.wakeDrop_drop, DropRec.woken_twice]
      simp
    · rw [State.wakeDrop_other s he]
      simp [he]

/-- A drop stands in the claim queue and its CLAIM may be sent (03 R59). -/
def State.claimSendable (s : State) (d : Drop) : Prop :=
  s.budget.claims.any (fun e => decide (e.drop = d ∧ e.retry = .sendable)) = true

theorem State.enterClaiming_sendable (s : State) (d : Drop) : (s.enterClaiming d).claimSendable d := by
  unfold State.claimSendable
  rw [(s.enterClaiming_claims d).queue]
  simp

/-- A wake leaves the claims that may be sent in the claim queue. -/
theorem State.claimSendable.wakeDrop (h : s.claimSendable e) (d : Drop) : (s.wakeDrop d).claimSendable e := by
  unfold State.wakeDrop
  split
  · by_cases he : e = d
    · exact he ▸ s.enterClaiming_sendable e
    · obtain ⟨x, hx, hs⟩ := List.any_eq_true.mp h
      obtain ⟨hd, hr⟩ := of_decide_eq_true hs
      unfold State.claimSendable
      rw [(s.enterClaiming_claims d).queue]
      refine List.any_eq_true.mpr ⟨x, List.mem_append_left _ (List.mem_filter.mpr ⟨hx, ?_⟩), hs⟩
      exact decide_eq_true (hd ▸ he)
  · exact h

/-- Every drop of the list that naps stands in the claim queue after the wakes. -/
theorem State.wakeAll_sendable (s : State) {ds : List Drop} (hd : d ∈ ds) (hs : (s.drops.get d).state = .napping) :
    (s.wakeAll ds).claimSendable d := by
  have keeps : ∀ (es : List Drop) (u : State), u.claimSendable d → (u.wakeAll es).claimSendable d := by
    intro es
    induction es with
    | nil => exact fun _ h => h
    | cons e es ih => exact fun u h => ih _ (h.wakeDrop e)
  induction ds generalizing s with
  | nil => cases hd
  | cons e ds ih =>
    by_cases he : d = e
    · subst he
      refine keeps ds (s.wakeDrop d) ?_
      rw [show s.wakeDrop d = s.enterClaiming d from if_pos hs]
      exact s.enterClaiming_sendable d
    · exact ih (s.wakeDrop e) ((List.mem_cons.mp hd).resolve_left he) (by rw [State.wakeDrop_other s he]; exact hs)

/-! ## Triggers that open no shot (06 R109, R110) -/

theorem State.handTrigger_uninvolved (h : s.involved mask = []) : s.handTrigger n mask src = s := if_pos h

theorem State.findEntry_isSome : (s.findEntry n).isSome = true ↔ ∃ e ∈ s.shots.table, e.trigger = n := by
  simp [State.findEntry]

/-- A trigger that finds the table full is skipped, and one that finds its number in the table as a duplicate. -/
theorem State.handTrigger_skipped (involved : s.involved mask ≠ [])
    (h : 16 ≤ s.shots.table.length ∨ ∃ e ∈ s.shots.table, e.trigger = n) :
    s.handTrigger n mask src = s.skipShot (s.involved mask) (decide ¬16 ≤ s.shots.table.length) := by
  refine (if_neg involved).trans ?_
  by_cases full : 16 ≤ s.shots.table.length
  · rw [decide_eq_false (not_not.mpr full)]
    exact if_pos full
  · rw [decide_eq_true full]
    exact (if_neg full).trans (if_pos (State.findEntry_isSome.mpr (h.resolve_left full)))

theorem State.skipShot_shots (s : State) (ds : List Drop) (duplicate : Bool) :
    (s.skipShot ds duplicate).shots =
      { s.shots with
        skipped := bump s.shots.skipped
        shotsSkipped := bump s.shots.shotsSkipped
        duplicates := if duplicate then bump s.shots.duplicates else s.shots.duplicates } :=
  (State.wakeAll_frame _ ds).get .shots

/-! ## The parts of a shot at its opening (06 R112 to R114) -/

theorem State.pendingPart_eq (s : State) (d : Drop) : s.pendingPart d = s.freshPart d := by
  have moving : (s.lens.get d).moving =
      !(decide ((s.lens.get d).focus.mode = .idle) && decide ((s.lens.get d).iris.mode = .idle)) := by
    unfold Lens.moving
    rw [decide_not, decide_not, Bool.not_and]
  unfold State.pendingPart State.freshPart openingFlags
  dsimp only
  rw [moving]
  rfl

theorem State.openingPart_eq (s : State) (d : Drop) : s.openingPart d = s.partAtTrigger d := by
  unfold State.openingPart State.partAtTrigger
  dsimp only
  cases hs : (s.drops.get d).state <;> cases hh : (s.drops.get d).locateHold
  case ready.false => exact s.pendingPart_eq d
  all_goals rfl

/-- What a trigger mark touches of a drop: its record, its port and its last-relayed trigger number. -/
def State.markView (s : State) (d : Drop) : DropRec × LinkPort × Option Half :=
  (s.drops.get d, s.links.get d, s.shots.lastRelayed.get d)

/-- The same with a trigger mark relayed (06 R113). -/
def State.relayedView (s : State) (n : Half) (d : Drop) : DropRec × LinkPort × Option Half :=
  ({ s.drops.get d with napTimer := if (s.drops.get d).napTimer.isRunning then s.napTimer d else .stopped },
    (s.links.get d).hand s.now (.trigger (triggerTag n)), some n)

theorem State.relay_view (s : State) (n : Half) (d : Drop) : (s.relay n d).markView d = s.relayedView n d :=
  Prod.ext (PerDrop.get_set_same _ d _) (Prod.ext (PerDrop.get_set_same _ d _) (PerDrop.get_set_same _ d _))

/-- What one part asks for touches the last-relayed number of its own drop alone. -/
theorem State.startPart_shots (s : State) (n : Half) (p : Part) :
    (State.startPart n s p).shots =
      { s.shots with
        lastRelayed := if p.status.isOpen then s.shots.lastRelayed.set p.drop (some n) else s.shots.lastRelayed } := by
  unfold State.startPart
  split
  · rfl
  · exact (s.offerPart_frame p.drop p).get .shots

theorem State.startPart_view_other (s : State) (n : Half) (h : d ≠ p.drop) :
    (State.startPart n s p).markView d = s.markView d := by
  have same := (s.startPart_frame n p).drops d (by simpa using h)
  unfold State.markView
  rw [same.drop, same.link, State.startPart_shots]
  dsimp only
  split
  · rw [PerDrop.get_set_other _ _ h]
  · rfl

theorem State.startPart_view (s : State) (n : Half) (p : Part) :
    (State.startPart n s p).markView p.drop = if p.status.isOpen then s.relayedView n p.drop else s.markView p.drop := by
  unfold State.startPart
  split
  · exact s.relay_view n p.drop
  · have offered := s.offerPart_frame p.drop p
    unfold State.markView
    rw [offered.get .drops, offered.get .links, offered.get .shots]

theorem State.relayedView_congr (view : t.markView d = s.markView d) (now : t.now = s.now) (cfg : t.cfg = s.cfg) :
    t.relayedView n d = s.relayedView n d := by
  obtain ⟨drop, rest⟩ := Prod.mk.inj view
  obtain ⟨link, -⟩ := Prod.mk.inj rest
  unfold State.relayedView State.napTimer State.timer
  rw [drop, link, now, State.dropCfg_of cfg]

/-- What the parts of a shot ask for, part by part (06 R113, R121). -/
def State.startParts (s : State) (n : Half) (ps : List Part) : State := ps.foldl (State.startPart n) s

/-- What the parts ask for leaves the shot table and the counts as they are. -/
theorem State.startParts_shots (s : State) (n : Half) (ps : List Part) :
    ∃ relayed, (s.startParts n ps).shots = { s.shots with lastRelayed := relayed } := by
  induction ps generalizing s with
  | nil => exact ⟨_, rfl⟩
  | cons p ps ih =>
    obtain ⟨relayed, h⟩ := ih (State.startPart n s p)
    exact ⟨relayed, h.trans (by rw [State.startPart_shots])⟩

theorem State.startParts_view_other (s : State) (n : Half) {ps : List Part} (h : d ∉ ps.map Part.drop) :
    (s.startParts n ps).markView d = s.markView d := by
  induction ps generalizing s with
  | nil => rfl
  | cons p ps ih =>
    rw [List.map_cons, List.mem_cons, not_or] at h
    exact (ih (State.startPart n s p) h.2).trans (s.startPart_view_other n h.1)

/-- An open part has its mark relayed, and any other leaves its drop's record and port as they are (06 R113). -/
theorem State.startParts_view (s : State) (n : Half) {ps : List Part} (once : (ps.map Part.drop).Nodup) (hp : p ∈ ps) :
    (s.startParts n ps).markView p.drop = if p.status.isOpen then s.relayedView n p.drop else s.markView p.drop := by
  induction ps generalizing s with
  | nil => cases hp
  | cons q ps ih =>
    obtain ⟨new, once⟩ := List.nodup_cons.mp once
    rcases List.mem_cons.mp hp with rfl | hp
    · exact (State.startParts_view_other _ n new).trans (s.startPart_view n p)
    · have other : p.drop ≠ q.drop := fun k => new (k ▸ List.mem_map_of_mem hp)
      have frame := s.startPart_frame n q
      have view := s.startPart_view_other n other
      refine (ih (State.startPart n s q) once hp).trans ?_
      rw [view, State.relayedView_congr view (frame.get .now) (frame.get .cfg)]

/-! ## Triggers that open a shot (06 R111) -/

/-- The state with the new entry, and with what its parts ask for. -/
def State.shotStarted (s : State) (n : Half) (mask : Byte) (src : Station) : State :=
  let parts := (s.involved mask).map s.openingPart
  (s.modShots (·.add (s.newEntry n mask src parts))).startParts n parts

/-- A shot that opens: behind its start the involved drops are woken, and then the Uplink Sender may decide again. -/
theorem State.handTrigger_opens (involved : s.involved mask ≠ []) (room : s.shots.table.length < 16)
    (new : s.findEntry n = none) :
    ((s.shotStarted n mask src).wakeAll (s.involved mask)).ChangesOnly (s.handTrigger n mask src) [.uplink] [] := by
  have opens : s.handTrigger n mask src = s.openShot n mask src (s.involved mask) :=
    (if_neg involved).trans ((if_neg (Nat.not_le_of_lt room)).trans (if_neg (by rw [new]; exact Bool.false_ne_true)))
  rw [opens]
  exact .iteRefl (State.boundaryDecision_frame _)

theorem State.shotStarted_shots (s : State) (n : Half) (mask : Byte) (src : Station) :
    ∃ relayed, (s.shotStarted n mask src).shots =
      { s.shots with
        table := s.shots.table ++ [s.newEntry n mask src ((s.involved mask).map s.openingPart)]
        skipped := 0
        opened := bumpLong s.shots.opened
        lastRelayed := relayed } :=
  State.startParts_shots _ n _

/-- Of the involved drops a READY one with locate_hold clear has its mark relayed (06 R112, R113). -/
theorem State.shotStarted_view (s : State) (n : Half) (src : Station) (hd : d ∈ s.involved mask) :
    (s.shotStarted n mask src).markView d =
      if (s.drops.get d).state = .ready ∧ (s.drops.get d).locateHold = false then s.relayedView n d else s.markView d := by
  have once : (((s.involved mask).map s.openingPart).map Part.drop).Nodup := by
    rw [List.map_map, show Part.drop ∘ s.openingPart = id from funext s.openingPart_drop, List.map_id]
    exact (show Drop.all.Nodup by decide).filter _
  have view := State.startParts_view (s.modShots (·.add (s.newEntry n mask src ((s.involved mask).map s.openingPart)))) n once
    (List.mem_map_of_mem hd)
  rw [State.openingPart_drop] at view
  simp only [s.openingPart_isOpen d] at view
  exact view

/-- A relayed mark starts its drop's nap timer again where it runs and the nap time is not 0 (01 R22, 06 R113). -/
theorem State.napTimer_restarts (s : State) (d : Drop) (x : Timer) :
    (if x.isRunning then s.napTimer d else .stopped) =
      if x.isRunning = true ∧ (s.dropCfg d).napSeconds ≠ 0 then .running s.now ((s.dropCfg d).napSeconds * 1000000)
      else .stopped := by
  unfold State.napTimer State.timer
  by_cases running : x.isRunning = true <;> by_cases zero : (s.dropCfg d).napSeconds = 0 <;> simp [running, zero]

end

/-- Settles O24: the new entry with its parts, and what the relays and the wakes leave of each involved drop. -/
theorem triggersOpenShots : Obligations.TriggersOpenShots := by
  intro s n mask src ds t involved room fresh
  have new : s.findEntry n = none := List.find?_eq_none.mpr fun e he => by simpa using fresh e he
  have joins := State.newEntry_joins src involved room new
  have opens : ((s.shotStarted n mask src).wakeAll ds).ChangesOnly t [.uplink] [] := State.handTrigger_opens involved room new
  have woken := (s.shotStarted n mask src).wakeAll_frame ds
  obtain ⟨relayed, shots⟩ := s.shotStarted_shots n mask src
  replace shots := ((opens.get .shots).trans (woken.get .shots)).trans shots
  refine ⟨s.handTrigger_frame n mask src, ⟨_, congrArg Shots.table shots, rfl, rfl, rfl, rfl,
    List.map_congr_left fun d _ => s.openingPart_eq d, fun ho => ?_, fun ho => ?_⟩,
    congrArg Shots.skipped shots, congrArg Shots.opened shots, fun d hd => ?_⟩
  · have state := joins.opened.mpr ho
    exact ⟨state, joins.aged.mpr state⟩
  · exact ⟨if_neg (Bool.eq_false_iff.mp ho), if_neg (Bool.eq_false_iff.mp ho)⟩
  · have view := s.shotStarted_view n src hd
    have record : t.drops.get d = ((s.shotStarted n mask src).markView d).1.woken := by
      rw [opens.get .drops, State.wakeAll_drop, if_pos hd]; rfl
    have port : t.links.get d = ((s.shotStarted n mask src).markView d).2.1 := by
      rw [opens.get .links, woken.get .links]; rfl
    have last : t.shots.lastRelayed.get d = ((s.shotStarted n mask src).markView d).2.2 := by
      rw [opens.get .shots, woken.get .shots]; rfl
    refine ⟨fun ready free => ?_, fun naps => ?_, fun awake other => ?_⟩
    · rw [if_pos ⟨ready, free⟩] at view
      rw [view] at record port last
      refine ⟨port, last, record.trans ((DropRec.woken_of_ne ?_).trans ?_)⟩
      · exact fun k => nomatch ready.symm.trans k
      · exact congrArg (fun x => { s.drops.get d with napTimer := x }) (s.napTimer_restarts d _)
    · rw [if_neg fun k => by rw [naps] at k; cases k.1] at view
      rw [view] at record
      refine ⟨record.trans (DropRec.woken_napping naps), ?_⟩
      rw [opens.get .budget]
      exact State.wakeAll_sendable _ hd ((congrArg (DropRec.state ·.1) view).trans naps)
    · rw [if_neg fun k => other.elim (fun away => away k.1) fun held => by rw [held] at k; cases k.2] at view
      rw [view] at record port
      exact ⟨record.trans (DropRec.woken_of_ne awake), port⟩

/-- Settles O25: a trigger without a drop changes nothing, and a skipped one counts and wakes. -/
theorem skippedTriggersWakeDrops : Obligations.SkippedTriggersWakeDrops := by
  intro s n mask src ds full t
  refine ⟨State.handTrigger_uninvolved, fun involved skipped => ?_⟩
  have skips : t = s.skipShot ds (decide ¬full) := State.handTrigger_skipped involved skipped
  rw [skips]
  refine ⟨?_, ?_, fun d hd => ?_⟩
  · exact ((s.modShots_frame _).mono (by decide) (by simp)).step (State.wakeAll_frame _ ds) (by decide) fun _ h => h
  · rw [State.skipShot_shots]
    by_cases hf : full <;> simp [hf]
  · exact (State.wakeAll_drop _ ds d).trans (if_pos hd)

end Sys2Proof.Machine

/-! PROOF. The timeout of a shot (O26): its open parts close one after another, and its entry with the last of them
(06 R118, R121, R122). -/

namespace Sys2Proof.Machine

section
variable {s : State} {d : Drop} {n : Half} {x e : Entry} {p : Part}

/-! ## A part that times out -/

theorem Part.closeIfOpen_timeout (c : DropCfg) (p : Part) : p.closeIfOpen c .timeout = p.timedOut := by
  by_cases ho : p.status.isOpen = true
  · rw [Part.closeIfOpen_lost c (by decide) ho, Part.timedOut, if_pos ho]
  · rw [Part.closeIfOpen, Part.timedOut, if_neg ho, if_neg ho]

theorem Part.timedOut_isOpen (p : Part) : p.timedOut.status.isOpen = false := by
  rw [← Part.closeIfOpen_timeout defaultedDrop]
  exact p.closeIfOpen_closed _ _

theorem Part.timedOut_of_closed (h : p.status.isOpen = false) : p.timedOut = p := if_neg (Bool.eq_false_iff.mp h)

@[simp] theorem Part.timedOut_twice (p : Part) : p.timedOut.timedOut = p.timedOut := Part.timedOut_of_closed p.timedOut_isOpen

@[simp] theorem Part.timedOut_drop (p : Part) : p.timedOut.drop = p.drop := by
  unfold Part.timedOut
  split <;> rfl

/-! ## An entry without an open part -/

/-- An entry that is CLOSED with its last open part (06 R122). -/
def Entry.settled (x : Entry) : Entry :=
  if x.state = .open ∧ x.hasOpenPart = false then { x with state := .closed, age := .stopped } else x

/-- An entry with its parts changed. -/
def Entry.mapParts (f : Part → Part) (x : Entry) : Entry := { x with parts := x.parts.map f }

theorem Entry.settled_twice (x : Entry) : x.settled.settled = x.settled := by
  by_cases h : x.state = .open ∧ x.hasOpenPart = false
  · rw [show x.settled = { x with state := .closed, age := .stopped } from if_pos h]
    exact if_neg fun k => nomatch k.1
  · rw [show x.settled = x from if_neg h]
    exact if_neg h

theorem Entry.settled_trigger (x : Entry) : x.settled.trigger = x.trigger := by
  unfold Entry.settled
  split <;> rfl

/-- Whether the entry closes before or after a change that opens no part makes no difference to what it comes to. -/
theorem Entry.settled_mapParts_settled {f : Part → Part} (hf : ∀ p, (f p).status.isOpen = true → p.status.isOpen = true)
    (x : Entry) : (x.settled.mapParts f).settled = (x.mapParts f).settled := by
  by_cases h : x.state = .open ∧ x.hasOpenPart = false
  · have shut : (x.mapParts f).hasOpenPart = false := by
      refine Bool.eq_false_iff.mpr fun ho => Bool.eq_false_iff.mp h.2 ?_
      obtain ⟨q, hq, ho⟩ := List.any_eq_true.mp ho
      obtain ⟨p, hp, rfl⟩ := List.mem_map.mp hq
      exact List.any_eq_true.mpr ⟨p, hp, hf p ho⟩
    rw [show x.settled = { x with state := .closed, age := .stopped } from if_pos h,
      show (x.mapParts f).settled = { x.mapParts f with state := .closed, age := .stopped } from if_pos ⟨h.1, shut⟩]
    exact if_neg fun k => nomatch k.1
  · rw [show x.settled = x from if_neg h]

/-- An entry with one part timed out, if it is that of the trigger number. -/
def Entry.timeoutPart (n : Half) (x : Entry) (d : Drop) : Entry :=
  if x.trigger = n then (x.modPart d Part.timedOut).settled else x

/-- An entry with the parts of some drops timed out, part by part. -/
theorem Entry.timeoutParts_eq (ds : List Drop) (hn : x.trigger = n) (hx : x.settled = x) :
    ds.foldl (Entry.timeoutPart n) x = (x.mapParts fun p => if p.drop ∈ ds then p.timedOut else p).settled := by
  induction ds generalizing x with
  | nil =>
    have same : (x.mapParts fun p => if p.drop ∈ ([] : List Drop) then p.timedOut else p) = x := by simp [Entry.mapParts]
    rw [same, hx]; rfl
  | cons d ds ih =>
    have step : Entry.timeoutPart n x d = (x.mapParts fun p => if p.drop = d then p.timedOut else p).settled := if_pos hn
    have closes : ∀ p : Part, (if p.drop ∈ ds then p.timedOut else p).status.isOpen = true → p.status.isOpen = true := by
      intro p
      split
      · rw [p.timedOut_isOpen]; exact nofun
      · exact id
    have rest := ih ((Entry.settled_trigger (x.mapParts fun p => if p.drop = d then p.timedOut else p)).trans hn)
      (Entry.settled_twice _)
    rw [List.foldl_cons, step, rest, Entry.settled_mapParts_settled closes]
    unfold Entry.mapParts
    rw [List.map_map]
    congr 2
    refine List.map_congr_left fun p _ => ?_
    by_cases hd : p.drop = d <;> by_cases hm : p.drop ∈ ds <;> simp [hd, hm]

theorem Entry.timeoutParts_other (ds : List Drop) (hn : x.trigger ≠ n) : ds.foldl (Entry.timeoutPart n) x = x := by
  induction ds with
  | nil => rfl
  | cons d ds ih => rw [List.foldl_cons, show Entry.timeoutPart n x d = x from if_neg hn, ih]

/-- An OPEN entry whose parts have all timed out. -/
theorem Entry.timeoutAll_eq (hn : x.trigger = n) (hs : x.state = .open) (ho : x.hasOpenPart = true) :
    Drop.all.foldl (Entry.timeoutPart n) x =
      { x with state := .closed, age := .stopped, parts := x.parts.map Part.timedOut } := by
  have settled : x.settled = x := if_neg fun k => by rw [ho] at k; cases k.2
  rw [Entry.timeoutParts_eq _ hn settled]
  simp only [Drop.mem_all, if_true]
  refine if_pos ⟨hs, List.any_eq_false.mpr fun p hp => ?_⟩
  obtain ⟨q, -, rfl⟩ := List.mem_map.mp hp
  rw [q.timedOut_isOpen]; exact nofun

/-! ## What a timeout does to the shot table -/

theorem State.ShotLaw.settled (h : s.ShotLaw) (hx : x ∈ s.shots.table) : x.settled = x :=
  if_neg fun k => Bool.eq_false_iff.mp k.2 ((h.opened x hx).mp k.1)

/-- The entry of a trigger number closes where its last open part has closed (06 R122). -/
theorem State.closeEntry_shots (numbers : (s.shots.table.map Entry.trigger).Nodup) :
    (s.closeEntry n).shots = (s.modEntry n Entry.settled).shots := by
  have unchanged : (∀ x ∈ s.shots.table, x.trigger = n → x.settled = x) → s.shots = (s.modEntry n Entry.settled).shots := by
    intro same
    have table : s.shots.table = s.shots.table.map fun x => if x.trigger = n then x.settled else x := by
      conv_lhs => rw [← List.map_id s.shots.table]
      refine List.map_congr_left fun x hx => ?_
      split
      · exact (same x hx ‹_›).symm
      · rfl
    exact congrArg (fun l => { s.shots with table := l }) table
  cases found : s.findEntry n with
  | none =>
    have absent : ∀ x ∈ s.shots.table, x.trigger ≠ n := fun x hx => by simpa using List.find?_eq_none.mp found x hx
    unfold State.closeEntry
    rw [found]
    exact unchanged fun x hx hn => absurd hn (absent x hx)
  | some e =>
    have only : ∀ x ∈ s.shots.table, x.trigger = n → x = e := fun x hx hn => by
      have := List.find?_nodup numbers hx
      rw [hn] at this
      exact Option.some.inj (this.symm.trans found)
    rw [State.closeEntry_found found]
    split
    · rename_i ends
      refine ((State.boundaryDecision_frame _).get .shots).trans ?_
      have table : (s.shots.table.map fun x => if x.trigger = n then { x with state := .closed, age := .stopped } else x) =
          s.shots.table.map fun x => if x.trigger = n then x.settled else x := by
        refine List.map_congr_left fun x hx => ?_
        split
        · rename_i hn
          rw [only x hx hn]
          exact (if_pos ends).symm
        · rfl
      exact congrArg (fun l => { s.shots with table := l }) table
    · rename_i goes
      exact unchanged fun x hx hn => only x hx hn ▸ if_neg goes

/-- The timeout of one part, in the shot table. -/
theorem State.closePart_timeout_shots (h : s.ShotLaw) (n : Half) (d : Drop) :
    (s.closePart n d .timeout).shots = { s.shots with table := s.shots.table.map (Entry.timeoutPart n · d) } := by
  by_cases shut : ∀ p, s.part n d = some p → p.status.isOpen = false
  · have table : s.shots.table = s.shots.table.map (Entry.timeoutPart n · d) := by
      conv_lhs => rw [← List.map_id s.shots.table]
      refine List.map_congr_left fun x hx => ?_
      unfold Entry.timeoutPart
      split
      · rename_i hn
        have same : x.modPart d Part.timedOut = x := by
          have parts : x.parts.map (fun p => if p.drop = d then p.timedOut else p) = x.parts := by
            conv_rhs => rw [← List.map_id x.parts]
            refine List.map_congr_left fun p hp => ?_
            split
            · rename_i hd
              have found := List.find?_nodup (h.drops x hx) hp
              rw [hd] at found
              exact Part.timedOut_of_closed (shut p (hn ▸ (h.part hx d).trans found))
            · rfl
          exact congrArg (fun l => { x with parts := l }) parts
        rw [same, h.settled hx]; rfl
      · rfl
    rw [State.closePart_shut shut, ← table]
  · push Not at shut
    obtain ⟨p, hp, ho⟩ := shut
    replace ho : p.status.isOpen = true := by simpa using ho
    have close : p.close (s.dropCfg d) .timeout = p.timedOut := by
      rw [← Part.closeIfOpen_timeout (s.dropCfg d), Part.closeIfOpen, if_pos ho]
    rw [State.closePart_open hp ho, close]
    have offered := State.offerPart_frame ((s.modPart n d fun _ => p.timedOut).modRx d (·.partClosed n)) d p.timedOut
    generalize State.offerPart _ d p.timedOut = u at offered
    have shots : u.shots = (s.modPart n d Part.timedOut).shots := by
      rw [← State.modPart_const h hp]
      exact offered.get .shots
    have numbers : (u.shots.table.map Entry.trigger).Nodup := by
      rw [shots]
      exact (s.modEntry_map n Entry.trigger (f := (·.modPart d Part.timedOut)) fun _ => rfl) ▸ h.numbers
    rw [State.closeEntry_shots numbers]
    have table : u.shots.table.map (fun x => if x.trigger = n then x.settled else x) =
        s.shots.table.map (Entry.timeoutPart n · d) := by
      rw [shots]
      show List.map _ (List.map _ s.shots.table) = _
      rw [List.map_map]
      refine List.map_congr_left fun x _ => ?_
      by_cases hn : x.trigger = n
      · simp only [Function.comp, hn, if_true, Entry.timeoutPart]
        exact if_pos hn
      · simp [hn, Entry.timeoutPart]
    refine (congrArg (fun l => { u.shots with table := l }) table).trans ?_
    rw [shots]
    rfl

/-- The timeouts of some parts of a shot, in the shot table. -/
theorem State.timeouts_shots (h : s.ShotLaw) (n : Half) (ds : List Drop) :
    (ds.foldl (fun u d => u.closePart n d .timeout) s).shots =
      { s.shots with table := s.shots.table.map fun x => ds.foldl (Entry.timeoutPart n) x } := by
  induction ds generalizing s with
  | nil =>
    have same : (s.shots.table.map fun x => ([] : List Drop).foldl (Entry.timeoutPart n) x) = s.shots.table := List.map_id _
    rw [same]; rfl
  | cons d ds ih =>
    rw [List.foldl_cons, ih (h.closePart n d .timeout), State.closePart_timeout_shots h]
    simp only [List.map_map, Function.comp_def, List.foldl_cons]

/-! ## What a timeout does to the receive contexts -/

theorem State.closePart_rx (s : State) (n : Half) (d : Drop) (c : ClosedStatus) :
    (s.closePart n d c).rx.get d =
      if (s.part n d).any (·.status.isOpen) = true then (s.rx.get d).partClosed n else s.rx.get d := by
  by_cases shut : ∀ p, s.part n d = some p → p.status.isOpen = false
  · rw [State.closePart_shut shut, if_neg]
    rw [Option.any_eq_true]
    rintro ⟨p, hp, ho⟩
    rw [shut p hp] at ho; cases ho
  · push Not at shut
    obtain ⟨p, hp, ho⟩ := shut
    replace ho : p.status.isOpen = true := by simpa using ho
    rw [State.closePart_open hp ho, if_pos (by rw [hp]; exact ho), (State.closeEntry_frame _ n).get .rx,
      (State.offerPart_frame _ d _).get .rx]
    exact PerDrop.get_set_same _ d _

theorem State.timeouts_rx (s : State) (n : Half) (d : Drop) (ds : List Drop) :
    (ds.foldl (fun u d => u.closePart n d .timeout) s).rx.get d =
      if d ∈ ds ∧ (s.part n d).any (·.status.isOpen) = true then (s.rx.get d).partClosed n else s.rx.get d := by
  induction ds generalizing s with
  | nil => simp
  | cons e ds ih =>
    rw [List.foldl_cons, ih, State.closePart_part_eq]
    by_cases he : d = e
    · subst he
      have closed : ((s.part n d).map (Part.closeIfOpen (s.dropCfg d) .timeout)).any (·.status.isOpen) = false := by
        cases s.part n d with
        | none => rfl
        | some p => exact p.closeIfOpen_closed _ _
      simp only [and_self, if_true, closed, State.closePart_rx, List.mem_cons, true_or, true_and, and_false, if_false,
        Bool.false_eq_true]
    · have same : (s.closePart n e .timeout).rx.get d = s.rx.get d :=
        ((s.closePart_frame n e .timeout).drops d (by simpa using he)).rx
      simp only [he, and_false, if_false, same, List.mem_cons, false_or]

/-- Where an entry has one part of a drop at most, it has an open one if that one is open. -/
theorem State.ShotLaw.part_isOpen (h : s.ShotLaw) (he : e ∈ s.shots.table) (d : Drop) :
    (s.part e.trigger d).any (·.status.isOpen) = e.openFor d := by
  rw [h.part he, Bool.eq_iff_iff, Option.any_eq_true]
  simp only [Entry.openFor, List.any_eq_true, Bool.and_eq_true, decide_eq_true_eq]
  constructor
  · rintro ⟨p, hp, ho⟩
    obtain ⟨mem, drop⟩ := Entry.mem_of_part hp
    exact ⟨p, mem, drop, ho⟩
  · rintro ⟨p, hp, rfl, ho⟩
    exact ⟨p, List.find?_nodup (h.drops e he) hp, ho⟩

/-- SHOT_TIMEOUT of an OPEN entry acts, as its age runs (06 R118). -/
theorem State.ShotLaw.exec_shotTimeout (h : s.ShotLaw) (he : e ∈ s.shots.table) (hs : e.state = .open) :
    exec (.shotTimeout e.trigger) s = .next (s.timeoutEntry e.trigger) := by
  show execShotTimeout e.trigger s = _
  unfold execShotTimeout
  rw [h.findEntry he]
  exact congrArg Host.Outcome.next (if_pos ⟨hs, (h.aged e he).mpr hs⟩)

end

/-- Settles O26: the shot table by the timeouts of the entry's parts, one by one, and each receive context by that of its
drop's part. -/
theorem timeoutsCloseEveryOpenPart : Obligations.TimeoutsCloseEveryOpenPart := by
  intro s e law he hs
  refine ⟨_, law.exec_shotTimeout he hs, s.timeoutEntry_frame _, s.timeoutEntry_queues _, ?_, fun d => ?_⟩
  · have table : (s.shots.table.map fun x => Drop.all.foldl (Entry.timeoutPart e.trigger) x) =
        s.shots.table.map fun x => if x.trigger = e.trigger then
          { x with state := .closed, age := .stopped, parts := x.parts.map Part.timedOut } else x := by
      refine List.map_congr_left fun x hx => ?_
      split
      · rename_i hn
        have same : x = e := Option.some.inj ((law.findEntry hx).symm.trans (hn ▸ law.findEntry he))
        subst same
        exact Entry.timeoutAll_eq rfl hs ((law.opened x hx).mp hs)
      · rename_i hn
        exact Entry.timeoutParts_other _ hn
    rw [← table]
    exact State.timeouts_shots law e.trigger Drop.all
  · refine (s.timeouts_rx e.trigger d Drop.all).trans ?_
    rw [law.part_isOpen he]
    unfold Receiver.partClosed
    by_cases hm : (s.rx.get d).mode = .inside e.trigger <;> by_cases ho : e.openFor d = true
    all_goals simp [hm, ho, d.mem_all, show (e.parts.any fun p => decide (p.drop = d) && p.status.isOpen) = e.openFor d from rfl]

end Sys2Proof.Machine

/-! PROOF. The Uplink Sender between its words (O32, O33, O34, O37): the boundary decision, slot marks, the beginning of a
record, the link and the restart; and the places of a record's words (O36). -/

namespace Sys2Proof.Machine

section
variable {s : State} {c : Configuration} {e : Entry} {rest : List Entry}

/-! ## The boundary decision (07 R128, R129) -/

/-- The rows of the boundary decision, in their order, once no restart is under way. -/
theorem State.pauseNow_rows (hc : s.cfg = some c) (ho : s.uplink.restartOwed = false) :
    s.pauseNow =
      if s.uplink.linkUp = false then .link
      else if s.shots.table = [] then .empty
      else if (s.shots.table.head?.map Entry.state) = some .open then .headOpen
      else if ringFree c.station.ringLength s.uplink.mark s.uplink.place < max 2 c.station.pauseThreshold then .ring
      else .none := by
  unfold State.pauseNow
  rw [hc, ho]
  dsimp only
  cases s.uplink.linkUp with
  | false => rfl
  | true =>
    cases s.shots.table with
    | nil => rfl
    | cons e rest => simp

/-- With its configuration and no RESTART symbol owed, the decision begins no restart. -/
theorem State.pauseNow_ne_restart (hc : s.cfg = some c) (ho : s.uplink.restartOwed = false) : s.pauseNow ≠ .restart := by
  rw [State.pauseNow_rows hc ho]
  split_ifs <;> nofun

/-- The last row: the link is UP, the oldest entry is not OPEN, and enough of the ring is free. -/
theorem State.pauseNow_none (hc : s.cfg = some c) (ho : s.uplink.restartOwed = false) (hl : s.uplink.linkUp = true)
    (ht : s.shots.table = e :: rest) (he : e.state ≠ .open)
    (hf : max 2 c.station.pauseThreshold ≤ ringFree c.station.ringLength s.uplink.mark s.uplink.place) :
    s.pauseNow = .none := by
  rw [State.pauseNow_rows hc ho, if_neg (by simp [hl]), if_neg (by simp [ht]), if_neg (by simp [ht, he]),
    if_neg (Nat.not_lt.mpr hf)]

/-- Between records and outside the restart the decision is made. -/
theorem State.boundaryDecision_eq (hr : s.uplink.record = none) (hp : s.uplink.pause ≠ .restart) :
    s.boundaryDecision = s.setPause s.pauseNow := by
  unfold State.boundaryDecision
  rw [hr]
  exact (if_neg nofun).trans (if_neg hp)

/-! ## Slot marks (07 R128, R137) -/

theorem exec_slotMark_ring (m : Nat) (hc : s.cfg = some c) (hl : s.uplink.linkUp = true) (hp : s.uplink.pause ≠ .restart) :
    exec (.slotMark m) s = .next (s.takeMark c.station.ringLength m) := by
  refine congrArg Host.Outcome.next ((if_neg (by simp [hl])).trans ((if_neg hp).trans ?_))
  rw [hc]

theorem exec_slotMark_restart (m : Nat) (hl : s.uplink.linkUp = true) (hp : s.uplink.pause = .restart) :
    exec (.slotMark m) s = .next (s.restartMark m) :=
  congrArg Host.Outcome.next ((if_neg (by simp [hl])).trans (if_pos hp))

/-! ## The beginning of a record (07 R130) -/

theorem exec_recordStart (hc : s.cfg = some c) (ht : s.shots.table = e :: rest) (hr : s.uplink.record = none)
    (hp : s.uplink.pause = .none) (hn : s.pauseNow = .none) :
    exec .recordStart s = .next (s.beginRecord c.station.ringLength e rest) := by
  show execRecordStart s = _
  unfold execRecordStart
  rw [hc, ht]
  exact congrArg Host.Outcome.next (if_pos ⟨hr, hp, hn⟩)

/-- FRAME_CUT joins the flags of each part that is cut, and every other part stays as it is. -/
theorem State.sendingEntry_eq (s : State) (e : Entry) :
    s.sendingEntry e =
      { e with
        state := .sending
        parts := e.parts.map fun p => { p with flags := { p.flags with frameCut := p.flags.frameCut || s.isCut p } } } := by
  unfold State.sendingEntry
  congr 2
  funext p
  cases s.isCut p <;> simp

/-! ## The link (07 R136, R137) -/

theorem Uplink.down_eq (u : Uplink) :
    u.down =
      { u with
        linkUp := false
        linkLosses := bump u.linkLosses
        restartOwed := decide (u.pause = .restart) || u.restartOwed
        pause := if u.pause = .restart then .restart else .link } := by
  unfold Uplink.down
  by_cases hp : u.pause = .restart <;> simp [hp]

/-! ## The places of a record's words (07 R131, R132) -/

/-- A part's data is not empty only where the part has words, and is then of its drop's frame size. -/
theorem State.lt_dataOf_iff {p : Part} {place : Nat} :
    place < s.dataOf p ↔ p.words ≠ 0 ∧ place < (s.dropCfg p.drop).frameSize := by
  unfold State.dataOf dataLength
  split <;> simp [*]

/-- No word lies beyond the data of the parts. -/
theorem State.dataPlace_eq_none {l : List Part} {i : Nat} (h : (l.map s.dataOf).sum ≤ i) : s.dataPlace l i = none := by
  refine Option.eq_none_iff_forall_ne_some.mpr fun ⟨p, place⟩ hd => ?_
  obtain ⟨before, after, rfl, inside, at_place⟩ := s.of_dataPlace l i hd
  rw [List.map_append, List.map_cons, List.sum_append, List.sum_cons] at h
  omega

end

/-- Settles O33: outside the restart by the range of the mark; in the restart by the mark 0, after which the decision
begins no second restart. -/
theorem slotMarksMoveTheReceiverMark : Obligations.SlotMarksMoveTheReceiverMark := by
  intro m s c hc hl u
  refine ⟨fun hp hm => ?_, fun hp hm => ?_, fun hp hm => ?_, fun hp hm ho => ?_⟩
  · rw [exec_slotMark_ring m hc hl hp]
    exact congrArg Host.Outcome.next (if_pos hm)
  · rw [exec_slotMark_ring m hc hl hp]
    exact congrArg Host.Outcome.next (if_neg (Nat.not_le.mpr hm))
  · rw [exec_slotMark_restart m hl hp]
    refine congrArg Host.Outcome.next (if_neg fun ⟨zero, sent⟩ => ?_)
    rcases hm with hm | hm
    · exact hm zero
    · exact Bool.false_ne_true (sent.symm.trans hm)
  · exact ⟨_, (exec_slotMark_restart m hl hp).trans (congrArg Host.Outcome.next (if_pos ⟨hm, ho⟩)),
      (s.modUplink_frame _).trans (State.setPause_frame _ _), rfl, rfl,
      State.pauseNow_ne_restart (s := s.modUplink fun u => { u with mark := 0, place := 0 }) hc ho⟩

/-- Settles O34: the decision gives NONE, so the record of the oldest entry begins. -/
theorem recordsBeginAtTheOldestEntry : Obligations.RecordsBeginAtTheOldestEntry := by
  intro s c e rest hc ht he hr hp ho hl hf cut
  have decision : s.pauseNow = .none := State.pauseNow_none hc ho hl ht (by simp [he]) hf
  rw [exec_recordStart hc ht hr hp decision]
  unfold State.beginRecord
  rw [State.sendingEntry_eq]
  rfl

/-- Settles O36: the fields of the fixed words, and the places of the data words inside the parts' data and beyond it. -/
theorem recordsHaveEveryWord : Obligations.RecordsHaveEveryWord := by
  intro s e length
  refine ⟨s.fixedWords_eq e, s.fixedWords_length e, rfl, fun before p after place parts hp => ?_, fun i hi hl => ?_,
    fun i hi => ?_⟩
  · exact parts ▸ s.dataPlace_append before after hp
  · rw [State.recordLength_eq, State.dataStart_eq] at hl
    obtain ⟨p, place, hd⟩ := s.dataPlace_isSome e.parts (i - (2 + 7 * e.parts.length)) (by omega)
    obtain ⟨before, after, parts, inside, -⟩ := s.of_dataPlace _ _ hd
    obtain ⟨words, frame⟩ := State.lt_dataOf_iff.mp inside
    exact ⟨p, place, hd, parts ▸ List.mem_append_cons_self, words, frame⟩
  · rw [State.recordLength_eq, State.dataStart_eq] at hi
    exact State.dataPlace_eq_none (by omega)

/-- Settles O32, by the rows of the decision. -/
theorem boundaryDecisionTakesTheFirstRow : Obligations.BoundaryDecisionTakesTheFirstRow := by
  intro s c hc hr hp ho L free pause
  rw [State.boundaryDecision_eq hr hp, show s.pauseNow = pause from State.pauseNow_rows hc ho]
  rfl

/-- Settles O37: each command where its event is happening. -/
theorem linkLossesPauseTheSender : Obligations.LinkLossesPauseTheSender := by
  intro s u
  refine ⟨fun hl => ?_, fun hl hr => ?_, fun hl hr => ?_, fun ho hload hl => ?_⟩
  · have lost : exec .linkDown s = .next (s.modUplink Uplink.down) := congrArg Host.Outcome.next (if_pos hl)
    rw [lost, State.modUplink, Uplink.down_eq]
  · exact congrArg Host.Outcome.next ((if_neg (by simp [u, hl])).trans (if_pos hr))
  · exact congrArg Host.Outcome.next ((if_neg (by simp [u, hl])).trans (if_neg (by simp [u, hr])))
  · exact congrArg Host.Outcome.next (if_pos ⟨ho, hload, hl⟩)

end Sys2Proof.Machine

/-! PROOF. The Lens Controller's own operations, in the terms of the statements (O38 to O44): axis records, what a burst is
asked for by, and the ends of operations and sweeps. -/

namespace Sys2Proof.Machine

/-! ## Axis records -/

section
variable (l : Lens) (x : AxisRec)

@[simp] theorem Lens.axis_setAxis (ax : Axis) : (l.setAxis ax x).axis ax = x := by cases ax <;> rfl
@[simp] theorem Lens.setAxis_axis (ax : Axis) : l.setAxis ax (l.axis ax) = l := by cases ax <;> rfl

/-- The first leg of a move is the one of the table (08 R152): a backlash that reaches below 0 ends at 0. -/
theorem AxisRec.startMove_eq (backlash t : Nat) (verify : Bool) :
    x.startMove backlash t verify = x.movedTo backlash t verify := by
  unfold AxisRec.startMove AxisRec.firstLeg AxisRec.movedTo
  by_cases up : x.position < t
  · simp [up]
  · by_cases low : backlash < t
    · simp [up, low]
    · simp [up, low, Nat.sub_eq_zero_of_le (Nat.not_lt.mp low)]

theorem AxisRec.firstLeg_eq (backlash : Nat) : x.firstLeg backlash = x.movedTo backlash x.target x.verify :=
  x.startMove_eq backlash x.target x.verify

theorem Sweep.running_iff (w : Sweep) : w.running = true ↔ w.phase ≠ none := by
  simp [Sweep.running, Option.isSome_iff_ne_none]

theorem State.sweep_running_iff (s : State) (d : Drop) :
    (s.sweep d).running = true ↔ (s.lens.get d).sweep.phase ≠ none := Sweep.running_iff _

/-- The burst an axis needs is the one it asks for (08 R142, R148, R152). -/
theorem AxisRec.nextBurst_eq_some (ax : Axis) (b : Burst) : x.nextBurst ax = some b ↔ x.Needs ax b := by
  unfold AxisRec.nextBurst AxisRec.Needs
  cases x.haltOwed with
  | true => simp
  | false =>
    cases x.mode with
    | idle => simp
    | error c => simp
    | homing p => cases p <;> simp [burstMax, eq_comm]
    | moving p => cases p <;> cases x.legGoal <;> simp [burstMax, eq_comm]

theorem AxisRec.nextBurst_eq_none (ax : Axis) : x.nextBurst ax = none ↔ ∀ b, ¬x.Needs ax b := by
  simp only [← AxisRec.nextBurst_eq_some]
  exact Option.eq_none_iff_forall_ne_some

theorem AxisRec.Needs.axis {x : AxisRec} {ax : Axis} {b : Burst} (h : x.Needs ax b) : b.axis = ax := by
  obtain ⟨-, ⟨-, rfl⟩ | ⟨-, rfl⟩ | ⟨-, rfl⟩ | ⟨-, rfl⟩⟩ := h <;> rfl

end

/-! ## Updates of one lens -/

section
variable (s : State) (d : Drop)

theorem State.modLens_eq_self {s : State} {d : Drop} {f : Lens → Lens} (h : f (s.lens.get d) = s.lens.get d) :
    s.modLens d f = s := by
  unfold State.modLens
  rw [h, PerDrop.set_get]

/-- A sweep's end: its record, and SWEEP_DONE with the position that FOCUS stands at (09 R172). -/
theorem State.endSweep_eq (o : SweepOutcome) (v : Option Nat) :
    s.endSweep d o v = (s.modSweep d (Sweep.ended o)).queueEvent (.sweepDone d o (s.lens.get d).focus.position v) := by
  show (s.modSweep d (Sweep.ended o)).queueEvent (.sweepDone d o ((s.modSweep d _).axis d .focus).position v) = _
  simp [State.modSweep, State.axis, Lens.axis]

/-- FOCUS that leaves its operation outside a sweep reports LENS_DONE, and lets a waiting IRIS start (08 R160). -/
theorem State.axisLeft_focus (o : LensOutcome) (h : (s.lens.get d).sweep.phase = none) :
    s.axisLeft d .focus o =
      (s.queueEvent (.lensDone d .focus o (s.lens.get d).focus.position)).releaseTurn d :=
  if_neg fun k => (s.sweep_running_iff d).mp k h

/-- FOCUS that leaves its operation in a sweep leaves the rest to the sweep (09 R172). -/
theorem State.axisLeft_sweep (o : LensOutcome) (h : (s.lens.get d).sweep.phase ≠ none) :
    s.axisLeft d .focus o = s.sweepFocusEnded d o := if_pos ((s.sweep_running_iff d).mpr h)

end

/-- IRIS leaves TURN for PROBE or for its first leg (08 R147, R159). -/
theorem Lens.releaseTurn_eq (backlash : Nat) (l : Lens) :
    l.releaseTurn backlash =
      if l.iris.mode = .homing .turn ∧ l.focus.mode.isHoming = false then
        { l with iris := { l.iris with mode := .homing .probe } }
      else if l.iris.mode = .moving .turn ∧ l.focus.mode.isMoving = false then
        { l with iris := l.iris.movedTo backlash l.iris.target l.iris.verify }
      else l := by
  unfold Lens.releaseTurn
  rw [AxisRec.firstLeg_eq]
  cases hm : l.iris.mode with
  | idle => simp
  | error c => simp
  | homing p =>
    cases p with
    | turn => cases l.focus.mode.isHoming <;> simp
    | probe => simp
    | search => simp
  | moving p =>
    cases p with
    | turn => cases l.focus.mode.isMoving <;> simp
    | down => simp
    | up => simp

end Sys2Proof.Machine

/-! PROOF. Bursts as they are handed over, given up and answered (O38, O39). -/

namespace Sys2Proof.Machine

/-! ## The burst that is handed over -/

section
variable {l : Lens} {s : State} {d : Drop}

/-- Of two axes that ask, the one that did not have the last burst has the next, FOCUS first (08 R142). -/
theorem Lens.chooseBurst_eq_some {ax : Axis} {b : Burst} (needs : (l.axis ax).Needs ax b)
    (first : ∀ other c, other ≠ ax → (l.axis other).Needs other c →
      match l.lastBurst with | none => ax = .focus | some last => last.2 = other) : l.chooseBurst = some b := by
  have asks := (AxisRec.nextBurst_eq_some _ _ _).mpr needs
  unfold Lens.chooseBurst
  cases ax with
  | focus =>
    rw [show l.focus.nextBurst .focus = some b from asks]
    cases hi : l.iris.nextBurst .iris with
    | none => rfl
    | some c =>
      have turn := first .iris c nofun ((AxisRec.nextBurst_eq_some _ _ _).mp hi)
      cases hl : l.lastBurst with
      | none => rfl
      | some last =>
        obtain ⟨t, had⟩ := last
        rw [hl] at turn
        cases show had = .iris from turn
        rfl
  | iris =>
    rw [show l.iris.nextBurst .iris = some b from asks]
    cases hf : l.focus.nextBurst .focus with
    | none => rfl
    | some c =>
      have turn := first .focus c nofun ((AxisRec.nextBurst_eq_some _ _ _).mp hf)
      cases hl : l.lastBurst with
      | none => rw [hl] at turn; cases turn
      | some last =>
        obtain ⟨t, had⟩ := last
        rw [hl] at turn
        cases show had = .focus from turn
        rfl

theorem Lens.chooseBurst_eq_none (h : ∀ ax b, ¬(l.axis ax).Needs ax b) : l.chooseBurst = none := by
  unfold Lens.chooseBurst
  rw [(l.focus.nextBurst_eq_none .focus).mpr (h .focus), (l.iris.nextBurst_eq_none .iris).mpr (h .iris)]

theorem exec_burstHandover {b : Burst} (h : (s.lens.get d).burstDue = some b) :
    exec (.burstHandover d) s =
      .next ((s.modLens d (·.handOver s.now b)).handMark d (.burst b (s.lens.get d).burstSerial)) := by
  show execBurstHandover d s = _
  unfold execBurstHandover
  dsimp only
  rw [h]

theorem exec_burstHandover_none (h : (s.lens.get d).burstDue = none) : exec (.burstHandover d) s = .next s := by
  show execBurstHandover d s = _
  unfold execBurstHandover
  dsimp only
  rw [h]

/-! ## The burst that is given up -/

theorem exec_ackTimerExpiry {b : Burst} {n : Nat} (h : (s.lens.get d).slot = some (b, n))
    (running : (s.lens.get d).ackTimer.isRunning = true) :
    exec (.ackTimerExpiry d) s = .next (s.loseBurst d b) := by
  show execAckTimerExpiry d s = _
  unfold execAckTimerExpiry
  rw [h]
  exact congrArg Host.Outcome.next (if_pos running)

/-- Two updates of one lens, the second of one of its axes. -/
theorem State.modLens_modAxis (s : State) (d : Drop) (ax : Axis) (f : Lens → Lens) (g : AxisRec → AxisRec) :
    (s.modLens d f).modAxis d ax g =
      { s with lens := s.lens.set d ((f (s.lens.get d)).setAxis ax (g ((f (s.lens.get d)).axis ax))) } := by
  simp [State.modAxis, State.modLens]

/-! ## What the end of an operation brings about -/

/-- FOCUS has left its operation in a sweep that then ends: by its error, or with the outcome that a halt owes
(09 R172; log 11). -/
theorem State.sweepFocusEnded_ends {o : LensOutcome} {out : SweepOutcome}
    (h : (o = .noAck ∧ out = .noAck) ∨ (o = .verify ∧ out = .verify) ∨ (o = .link ∧ out = .link) ∨
      ((o = .done ∨ o = .halted) ∧ (s.lens.get d).sweep.endOwed = some out)) :
    s.sweepFocusEnded d o = s.endSweep d out none := by
  rcases h with ⟨rfl, rfl⟩ | ⟨rfl, rfl⟩ | ⟨rfl, rfl⟩ | ⟨rfl | rfl, owed⟩
  · rfl
  · rfl
  · rfl
  all_goals
    unfold State.sweepFocusEnded
    rw [show (s.sweep d).endOwed = some out from owed]

/-- LENS_DONE stands before the start of an IRIS in TURN (08 R147, R159, R160). -/
theorem State.releaseTurn_queueEvent (s : State) (d : Drop) (e : Event) :
    (s.queueEvent e).releaseTurn d =
      { s.queueEvent e with lens := s.lens.set d ((s.lens.get d).releaseTurn (s.dropCfg d).irisBacklash) } := by
  have frame := s.queueEvent_frame e
  show State.modLens _ d _ = _
  have lens : (s.queueEvent e).lens = s.lens := frame.get .lens (by decide)
  rw [State.dropCfg_of (frame.get .cfg (by decide)), State.modLens, lens]

end

/-- Settles O38: the axis whose turn it is, the burst given up, and the two ways FOCUS leaves its operation. -/
theorem burstsAreHandedOverOrGivenUp : Obligations.BurstsAreHandedOverOrGivenUp := by
  intro d s l
  refine ⟨fun ax b free needs first => ?_, fun h => ?_, ?_, ?_, fun o out running h => ?_⟩
  · have due : l.burstDue = some b := by
      unfold Lens.burstDue
      rw [free]
      exact Lens.chooseBurst_eq_some needs first
    refine ⟨_, exec_burstHandover due, ((s.modLens_frame d _).mono (by decide) fun _ h => h).step
      (State.handMark_frame _ d _) (by decide) fun _ h => h, ?_, ?_⟩
    · simp [State.handMark, Lens.handOver, needs.axis, l]
    · simp [State.handMark, l]
  · refine exec_burstHandover_none ?_
    unfold Lens.burstDue
    rcases h with filled | h
    · exact if_neg fun k => filled (Option.isNone_iff_eq_none.mp k)
    · rw [Lens.chooseBurst_eq_none h, ite_self]
  · intro b n hs running emptied
    rw [exec_ackTimerExpiry hs running]
    unfold State.loseBurst
    rw [State.modLens_modAxis]
    cases b.axis <;> rfl
  · intro ax o h told
    cases ax with
    | iris => rfl
    | focus =>
      have resting : l.sweep.phase = none := h.resolve_left nofun
      rw [s.axisLeft_focus d o resting, State.releaseTurn_queueEvent, Lens.releaseTurn_eq]
      dsimp only [told, l]
      simp only [reduceCtorEq, if_false]
      split_ifs
      · rfl
      · rfl
      · rw [PerDrop.set_get]
        exact congrArg (fun x => { told with lens := x }) ((s.queueEvent_frame _).get .lens (by decide)).symm
  · rw [s.axisLeft_sweep d o running, State.sweepFocusEnded_ends h, State.endSweep_eq]
    rfl

end Sys2Proof.Machine

/-! PROOF. The acknowledgement of a burst (O39): its effect on an axis in HOMING and on one in MOVING, and the three ways it
ends. -/

namespace Sys2Proof.Machine

/-! ## The axis -/

section
variable (x : AxisRec) (range : Nat) (b : Burst) (a : LensAck)

/-- An axis in HOMING after one more burst of the search (08 R148, R149). -/
def AxisRec.searched : AxisRec := { x with searchCount := min 65535 (x.searchCount + b.steps) }

/-- An axis in MOVING after the steps that the acknowledgement reports, at most those of the burst (08 R153). -/
def AxisRec.stepped : AxisRec :=
  { x with
    position :=
      if b.up then x.position + min a.stepsDone b.steps else x.position - min a.stepsDone b.steps }

theorem AxisRec.stepped_position :
    (x.stepped b a).position =
      if b.up then x.position + min a.stepsDone b.steps else x.position - min a.stepsDone b.steps := rfl

/-- The three outcomes of an acknowledgement in HOMING, and the search that goes on (08 R150). -/
theorem AxisRec.ackHoming_eq :
    x.ackHoming range b a =
      if a.homeActive = true then ({ x.idled with position := 0, target := 0, homed := true }, some .done)
      else if range + 64 < (x.searched b).searchCount then ((x.searched b).failedBy .homeFail, some .homeFail)
      else if x.haltOwed = true then ((x.searched b).idled, some .halted)
      else ({ x.searched b with mode := .homing .search }, none) := rfl

/-- The ends of a move, and the move that goes on or turns to its second leg (08 R153, R154). -/
theorem AxisRec.ackMoving_eq :
    let y := x.stepped b a
    let failed : AxisRec × Option LensOutcome := ({ y.failedBy .verify with verify := false }, some .verify)
    x.ackMoving b a =
      if a.stepsDone ≠ b.steps then failed
      else if x.legGoal = some y.position ∧ y.position = x.target then
        if x.verify = true ∧ a.headCount.toNat ≠ y.position then failed else (y.idled, some .done)
      else if x.haltOwed = true then (y.idled, some .halted)
      else if x.legGoal = some y.position then ({ y with mode := .moving .up, legGoal := some x.target }, none)
      else (y, none) := by
  intro y failed
  unfold AxisRec.ackMoving
  by_cases short : a.stepsDone ≠ b.steps
  · rw [if_pos short, if_pos short]; rfl
  have step : b.advance b.steps x.position = y.position := by
    simp only [y, AxisRec.stepped_position, Burst.advance, not_not.mp short, min_self]
  rw [if_neg short, if_neg short]
  dsimp only
  rw [step]
  by_cases leg : x.legGoal = some y.position
  · by_cases target : y.position = x.target
    · have arrived : x.legGoal = some y.position ∧ y.position = x.target := ⟨leg, target⟩
      rw [if_pos arrived, if_pos leg, if_pos target]; rfl
    · have onward : ¬(x.legGoal = some y.position ∧ y.position = x.target) := fun h => target h.2
      rw [if_neg onward, if_pos leg, if_neg target, if_pos leg]; rfl
  · have onward : ¬(x.legGoal = some y.position ∧ y.position = x.target) := fun h => leg h.1
    rw [if_neg onward, if_neg leg, if_neg leg]; rfl

variable {x}

theorem AxisRec.ack_atRest (h : x.mode.busy = false ∨ x.mode = .homing .turn ∨ x.mode = .moving .turn) :
    x.ack range b a = none := by
  unfold AxisRec.ack
  rcases h with rest | turn | turn
  · cases hm : x.mode with
    | idle => rfl
    | error c => rfl
    | homing p => rw [hm] at rest; cases rest
    | moving p => rw [hm] at rest; cases rest
  · rw [turn]
  · rw [turn]

theorem AxisRec.ack_homing (h : x.mode = .homing .probe ∨ x.mode = .homing .search) :
    x.ack range b a = some (x.ackHoming range b a) := by
  unfold AxisRec.ack
  rcases h with h | h <;> rw [h]

theorem AxisRec.ack_moving (h : x.mode = .moving .down ∨ x.mode = .moving .up) :
    x.ack range b a = some (x.ackMoving b a) := by
  unfold AxisRec.ack
  rcases h with h | h <;> rw [h]

end

/-! ## The command -/

/-- A lens whose burst in the slot has been answered (08 R143). -/
def Lens.answered (l : Lens) : Lens := { l with slot := none, ackTimer := .stopped, acks := bump l.acks }

/-- An item of a drop's forward stream has been heard, and has left its lens as `x` (01 R14). -/
def State.heardLens (s : State) (d : Drop) (x : Lens) : State :=
  { s with
    links := s.links.set d { s.links.get d with silence := .running s.now 4000 }
    lens := s.lens.set d x }

section
variable {s : State} {d : Drop} {a : LensAck} {b : Burst} {n : Nat} {y : AxisRec}

theorem exec_lensAck_empty (lock : s.Locked d) (hs : (s.lens.get d).slot = none) :
    exec (.lensAck d a) s = .next (s.heardLens d (s.lens.get d).stray) := by
  refine congrArg Host.Outcome.next ((if_pos lock).trans ?_)
  unfold State.takeAck
  rw [show ((s.heardItem d).lens.get d).slot = none from hs]
  rfl

/-- An acknowledgement that finds a burst in the slot is applied to the lens it leaves answered (08 R143). -/
theorem exec_lensAck (lock : s.Locked d) (hs : (s.lens.get d).slot = some (b, n)) :
    exec (.lensAck d a) s = .next ((s.heardLens d (s.lens.get d).answered).applyAck d b a) := by
  refine congrArg Host.Outcome.next ((if_pos lock).trans ?_)
  unfold State.takeAck
  rw [show ((s.heardItem d).lens.get d).slot = some (b, n) from hs]
  rfl

theorem State.heardLens_lens (x : Lens) : (s.heardLens d x).lens = s.lens.set d x := rfl

theorem State.heardLens_axis (x : Lens) (ax : Axis) : (s.heardLens d x).axis d ax = x.axis ax := by
  show ((s.heardLens d x).lens.get d).axis ax = _
  rw [State.heardLens_lens, PerDrop.get_set_same]

theorem State.heardLens_modLens (x : Lens) (f : Lens → Lens) : (s.heardLens d x).modLens d f = s.heardLens d (f x) := by
  unfold State.modLens
  rw [State.heardLens_lens, PerDrop.get_set_same, PerDrop.set_set]; rfl

theorem State.heardLens_modAxis (x : Lens) (ax : Axis) (f : AxisRec → AxisRec) :
    (s.heardLens d x).modAxis d ax f = s.heardLens d (x.setAxis ax (f (x.axis ax))) := State.heardLens_modLens x _

theorem Lens.answered_axis (l : Lens) (ax : Axis) : l.answered.axis ax = l.axis ax := by cases ax <;> rfl

/-- What the acknowledgement finds at the axis of its burst. -/
theorem State.heardLens_ack (l : Lens) :
    ((s.heardLens d l.answered).axis d b.axis).ack (((s.heardLens d l.answered).dropCfg d).range b.axis) b a =
      (l.axis b.axis).ack ((s.dropCfg d).range b.axis) b a := by
  rw [State.heardLens_axis, Lens.answered_axis]; rfl

theorem State.applyAck_stray (ack : (s.axis d b.axis).ack ((s.dropCfg d).range b.axis) b a = none) :
    s.applyAck d b a = s.modLens d Lens.stray := by
  unfold State.applyAck; dsimp only; rw [ack]

theorem State.applyAck_goesOn (ack : (s.axis d b.axis).ack ((s.dropCfg d).range b.axis) b a = some (y, none)) :
    s.applyAck d b a = s.modAxis d b.axis fun _ => y := by
  unfold State.applyAck; dsimp only; rw [ack]

theorem State.applyAck_ends {o : LensOutcome}
    (ack : (s.axis d b.axis).ack ((s.dropCfg d).range b.axis) b a = some (y, some o)) :
    s.applyAck d b a =
      ((s.modAxis d b.axis fun _ => y).modLens d (Lens.countEnd · (s.axis d b.axis).mode.isHoming o)).axisLeft d
        b.axis o := by
  unfold State.applyAck; dsimp only; rw [ack]

theorem exec_lensAck_stray (lock : s.Locked d) (hs : (s.lens.get d).slot = some (b, n))
    (ack : ((s.lens.get d).axis b.axis).ack ((s.dropCfg d).range b.axis) b a = none) :
    exec (.lensAck d a) s = .next (s.heardLens d (s.lens.get d).answered.stray) := by
  rw [exec_lensAck lock hs, State.applyAck_stray ((State.heardLens_ack _).trans ack), State.heardLens_modLens]

theorem exec_lensAck_goesOn (lock : s.Locked d) (hs : (s.lens.get d).slot = some (b, n))
    (ack : ((s.lens.get d).axis b.axis).ack ((s.dropCfg d).range b.axis) b a = some (y, none)) :
    exec (.lensAck d a) s = .next (s.heardLens d ((s.lens.get d).answered.setAxis b.axis y)) := by
  rw [exec_lensAck lock hs, State.applyAck_goesOn ((State.heardLens_ack _).trans ack), State.heardLens_modAxis]

theorem exec_lensAck_ends {o : LensOutcome} {count : Lens → Lens} (lock : s.Locked d)
    (hs : (s.lens.get d).slot = some (b, n))
    (ack : ((s.lens.get d).axis b.axis).ack ((s.dropCfg d).range b.axis) b a = some (y, some o))
    (counts : ∀ l : Lens, l.countEnd ((s.lens.get d).axis b.axis).mode.isHoming o = count l) :
    exec (.lensAck d a) s =
      .next ((s.heardLens d (count ((s.lens.get d).answered.setAxis b.axis y))).axisLeft d b.axis o) := by
  rw [exec_lensAck lock hs, State.applyAck_ends ((State.heardLens_ack _).trans ack), State.heardLens_modAxis,
    State.heardLens_modLens, State.heardLens_axis, Lens.answered_axis, counts]

end

/-- Settles O39: an acknowledgement at the slot, by what it does to the axis of its burst. -/
theorem acknowledgementsReachTheirAxis : Obligations.AcknowledgementsReachTheirAxis := by
  intro d a s lock l heard
  refine ⟨fun hs => exec_lensAck_empty lock hs, fun b n hs => ?_⟩
  intro x range l' goesOn ends
  have ended {y o} (count : Lens → Lens) (ack : x.ack range b a = some (y, some o))
      (counts : ∀ l : Lens, l.countEnd x.mode.isHoming o = count l) : ends y o count :=
    exec_lensAck_ends lock hs ack counts
  refine ⟨fun rest => exec_lensAck_stray lock hs (AxisRec.ack_atRest _ b a rest), fun homing => ?_, fun moving => ?_⟩
  · intro counted
    have ack := (AxisRec.ack_homing range b a homing).trans (congrArg some (x.ackHoming_eq range b a))
    rw [show x.searched b = counted from rfl] at ack
    have homes : x.mode.isHoming = true := by rcases homing with h | h <;> rw [h] <;> rfl
    split_ifs with switch far halt
    · rw [if_pos switch] at ack
      exact ended (fun l => { l with homings := bump l.homings }) ack fun _ => if_pos homes
    · rw [if_neg switch, if_pos far] at ack
      exact ended (fun l => { l with homeFailures := bump l.homeFailures }) ack fun _ => rfl
    · rw [if_neg switch, if_neg far, if_pos halt] at ack
      exact ended id ack fun _ => rfl
    · rw [if_neg switch, if_neg far, if_neg halt] at ack
      exact exec_lensAck_goesOn lock hs ack
  · intro steps y failed
    have ack := (AxisRec.ack_moving range b a moving).trans (congrArg some (x.ackMoving_eq b a))
    rw [show x.stepped b a = y from rfl] at ack
    have moves : ¬x.mode.isHoming = true := by rcases moving with h | h <;> rw [h] <;> decide
    have fails (h : x.ack range b a = some ({ y.failedBy .verify with verify := false }, some .verify)) : failed :=
      ended (fun l => { l with verifyFailures := bump l.verifyFailures }) h fun _ => rfl
    split_ifs with short target wrong halt leg
    · rw [if_pos short] at ack
      exact fails ack
    · rw [if_neg short, if_pos target, if_pos wrong] at ack
      exact fails ack
    · rw [if_neg short, if_pos target, if_neg wrong] at ack
      exact ended (fun l => { l with moves := bump l.moves }) ack fun _ => if_neg moves
    · rw [if_neg short, if_neg target, if_pos halt] at ack
      exact ended id ack fun _ => rfl
    · rw [if_neg short, if_neg target, if_neg halt, if_pos leg] at ack
      exact exec_lensAck_goesOn lock hs ack
    · rw [if_neg short, if_neg target, if_neg halt, if_neg leg] at ack
      exact exec_lensAck_goesOn lock hs ack

end Sys2Proof.Machine

/-! PROOF. LENS_HOME, LENS_MOVE and LENS_NUDGE (O40, O41): the checks common to the lens requests, the homing that begins, and
the target that is clamped. -/

namespace Sys2Proof.Machine

/-! ## The common checks -/

section
variable {s : State} {r : Request} {d : Drop}

/-- A lens request taken here passes the checks of LOADING, locate_hold and the sweep in turn (08 R140, R146). -/
theorem State.takeLensRequest_taken (h : s.TakesDrop .controller r d) (k : RequestKind) (needsFocus : Bool)
    (act : Drop → State → State) :
    s.takeLensRequest k r needsFocus act =
      if s.loader = .loading ∨ (s.drops.get d).locateHold = true then
        s.countHeard.answer k.value r .refusedState .noValue
      else if needsFocus = true ∧ (s.lens.get d).sweep.phase ≠ none then s.countHeard.answer k.value r .busy .noValue
      else act d s.countHeard := by
  have sweeps : (needsFocus && (s.sweep d).running) = true ↔ needsFocus = true ∧ (s.lens.get d).sweep.phase ≠ none := by
    rw [Bool.and_eq_true, State.sweep_running_iff]
  refine (State.takeDropRequest_taken h k _).trans ?_
  by_cases loading : s.loader = .loading
  · exact (if_pos loading).trans (if_pos (.inl loading)).symm
  refine (if_neg loading).trans ?_
  by_cases hold : (s.drops.get d).locateHold = true
  · exact (if_pos hold).trans (if_pos (.inr hold)).symm
  refine (if_neg hold).trans (Eq.trans ?_ (if_neg (not_or.mpr ⟨loading, hold⟩)).symm)
  exact if_congr sweeps rfl rfl

/-- A command that takes one of two courses by a condition, and what each of them means. -/
theorem ite_of_next {c p q : Prop} {i j : Decidable c} {o : Host.Outcome State Fault Refusal}
    {t u : State} (run : o = .next (@ite _ c i t u)) (hp : o = .next t → p) (hq : o = .next u → q) :
    @ite _ c j p q := by
  by_cases h : c
  · rw [if_pos h] at run ⊢; exact hp run
  · rw [if_neg h] at run ⊢; exact hq run

theorem State.not_isReady_iff : (!s.isReady d) = true ↔ (s.drops.get d).state ≠ .ready := by
  simp [State.isReady]

/-! ## Homing -/

/-- The axes that the argument of LENS_HOME names (12 section 12.5). -/
def namedAxes (arg : Byte) : List Axis :=
  if arg = 0 then [.focus] else if arg = 1 then [.iris] else if arg = 2 then [.focus, .iris] else []

/-- An argument byte is one of its small values or lies above them. -/
theorem argByte_cases (arg : Byte) : arg = 0 ∨ arg = 1 ∨ arg = 2 ∨ ∃ n, arg.toNat = n + 3 := by
  by_cases h : arg.toNat < 3
  · have small : arg.toNat = 0 ∨ arg.toNat = 1 ∨ arg.toNat = 2 := by omega
    rcases small with h | h | h
    · exact .inl (BitVec.eq_of_toNat_eq h)
    · exact .inr (.inl (BitVec.eq_of_toNat_eq h))
    · exact .inr (.inr (.inl (BitVec.eq_of_toNat_eq h)))
  · exact .inr (.inr (.inr ⟨arg.toNat - 3, by omega⟩))

theorem namedAxes_above {arg : Byte} {n : Nat} (h : arg.toNat = n + 3) : namedAxes arg = [] := by
  have ne (c : Byte) (hc : c.toNat < 3) : arg ≠ c := fun k => by rw [k] at h; omega
  exact (if_neg (ne 0 (by decide))).trans ((if_neg (ne 1 (by decide))).trans (if_neg (ne 2 (by decide))))

theorem homeAxesOf_eq (arg : Byte) : homeAxesOf arg.toNat = if namedAxes arg = [] then none else some (namedAxes arg) := by
  rcases argByte_cases arg with rfl | rfl | rfl | ⟨n, h⟩
  · rfl
  · rfl
  · rfl
  · rw [namedAxes_above h, h]; rfl

theorem homesFocus_iff : homesFocus r = true ↔ .focus ∈ namedAxes (r.args.getD 0 0) := by
  unfold homesFocus argOne argByte
  rw [decide_eq_true_iff]
  generalize r.args.getD 0 0 = arg
  rcases argByte_cases arg with rfl | rfl | rfl | ⟨n, h⟩
  · decide
  · decide
  · decide
  · simp [namedAxes_above h, h]

/-- FOCUS is homed with PROBE first, and IRIS in TURN behind it (08 R147). -/
theorem State.startHoming_eq (s : State) (d : Drop) (arg : Byte) :
    s.startHoming d (namedAxes arg) =
      s.modLens d fun l =>
        { l with
          focus := if .focus ∈ namedAxes arg then l.focus.startHoming .probe else l.focus
          iris :=
            if .iris ∈ namedAxes arg then
              l.iris.startHoming (if .focus ∈ namedAxes arg then .turn else .probe)
            else l.iris } := by
  rcases argByte_cases arg with rfl | rfl | rfl | ⟨n, h⟩
  · rfl
  · rfl
  · exact State.modLens_modLens s d (fun l => l.setAxis .focus ((l.axis .focus).startHoming .probe))
      fun l => l.setAxis .iris ((l.axis .iris).startHoming .turn)
  · rw [namedAxes_above h]
    exact (State.modLens_eq_self rfl).symm

/-- LENS_HOME on a drop: its state, the busy axes, then the homing (08 R147). -/
theorem State.homeDrop_eq (s : State) (r : Request) (d : Drop) (axes : List Axis) :
    s.homeDrop r d axes =
      if (s.drops.get d).state ≠ .ready then s.answer RequestKind.lensHome.value r .refusedState .noValue
      else if ∃ ax ∈ axes, ((s.lens.get d).axis ax).mode.busy = true then
        s.answer RequestKind.lensHome.value r .busy .noValue
      else (s.startHoming d axes).answer RequestKind.lensHome.value r .accepted .noValue :=
  if_congr State.not_isReady_iff rfl (if_congr List.any_eq_true rfl rfl)

theorem exec_lensHome (h : s.TakesDrop .controller r d) :
    exec (.lensHome r) s = .next (
      let axes := namedAxes (r.args.getD 0 0)
      if s.loader = .loading ∨ (s.drops.get d).locateHold = true then
        s.countHeard.answer RequestKind.lensHome.value r .refusedState .noValue
      else if .focus ∈ axes ∧ (s.lens.get d).sweep.phase ≠ none then
        s.countHeard.answer RequestKind.lensHome.value r .busy .noValue
      else if axes = [] then s.countHeard.answer RequestKind.lensHome.value r .unknown .noValue
      else s.countHeard.homeDrop r d axes) := by
  refine congrArg Host.Outcome.next ((State.takeLensRequest_taken h _ _ _).trans ?_)
  refine if_congr Iff.rfl rfl (if_congr (and_congr_left' homesFocus_iff) rfl ?_)
  rw [show argOne r 0 = (r.args.getD 0 0).toNat from rfl, homeAxesOf_eq]
  by_cases none : namedAxes (r.args.getD 0 0) = []
  · rw [if_pos none, if_pos none]
  · rw [if_neg none, if_neg none]

end

/-- Settles O40: the checks in order, and the homing of the named axes. -/
theorem homesBeginWithTheProbe : Obligations.HomesBeginWithTheProbe := by
  intro r d s h l arg axes homing reply
  have run := exec_lensHome h
  dsimp only at run
  rw [State.homeDrop_eq, State.startHoming_eq] at run
  exact ite_of_next run id fun run => ite_of_next run id fun run => ite_of_next run id fun run =>
    ite_of_next run id fun run => ite_of_next run id id

/-! ## The target of a move -/

section
variable {s : State} {r : Request} {d : Drop}

theorem argTwo_eq (r : Request) (i : Nat) : argTwo r i = (r.args.getD i 0 ++ r.args.getD (i + 1) 0).toNat := by
  unfold argTwo natOfBytes argByte
  generalize r.args.getD i 0 = high, r.args.getD (i + 1) 0 = low
  rw [BitVec.toNat_append, ← Nat.shiftLeft_add_eq_or_of_lt low.isLt, Nat.shiftLeft_eq]
  simp

theorem argSigned_eq (r : Request) (i : Nat) : argSigned r i = (r.args.getD i 0 ++ r.args.getD (i + 1) 0).toInt := by
  unfold argSigned
  rw [argTwo_eq, BitVec.ofNat_toNat, BitVec.setWidth_eq]

/-- The axis that an argument byte names (08 R146). -/
theorem axisOf_eq (arg : Byte) :
    axisOf arg.toNat = if 1 < arg then none else some (if arg = 0 then .focus else .iris) := by
  rcases argByte_cases arg with rfl | rfl | rfl | ⟨n, h⟩
  · rfl
  · rfl
  · rfl
  · rw [if_pos (by rw [BitVec.lt_def, h]; simp), h]; rfl

theorem axisOf_focus_iff (arg : Byte) : decide (axisOf arg.toNat = some .focus) = true ↔ arg = 0 := by
  rw [decide_eq_true_iff]
  rcases argByte_cases arg with rfl | rfl | rfl | ⟨n, h⟩
  · decide
  · decide
  · decide
  · rw [h]
    exact ⟨nofun, fun zero => by rw [zero] at h; cases h⟩

/-- The checks of a move on a drop in order, and the first leg to the clamped target (08 R151, R152, R155). -/
theorem State.moveDrop_eq (s : State) (k : RequestKind) (r : Request) (d : Drop) (ax : Axis) (asked : Int)
    (verify : Bool) :
    let x := (s.lens.get d).axis ax
    let t := min ((s.dropCfg d).range ax) asked.toNat
    let code : AnswerCode := if asked ≠ t then .clamped else if t = x.position then .done else .accepted
    s.moveDrop k r d ax asked verify =
      if (s.drops.get d).state ≠ .ready then s.answer k.value r .refusedState .noValue
      else if x.homed = false then s.answer k.value r .notHomed .noValue
      else if x.mode ≠ .idle then s.answer k.value r .busy .noValue
      else if t = x.position then s.answer k.value r code (.target t)
      else
        (s.modLens d fun l => l.setAxis ax (x.movedTo ((s.dropCfg d).backlash ax) t verify)).answer k.value r code
          (.target t) := by
  intro x t code
  have codes : moveCode (decide ((t : Int) ≠ asked)) (decide (t ≠ x.position)) = code := by
    unfold moveCode
    simp only [code, decide_eq_true_iff, ne_eq, ite_not, eq_comm (a := asked)]
  have moved : s.modAxis d ax (AxisRec.startMove ((s.dropCfg d).backlash ax) t verify) =
      s.modLens d fun l => l.setAxis ax (x.movedTo ((s.dropCfg d).backlash ax) t verify) := by
    unfold State.modAxis State.modLens
    dsimp only
    rw [AxisRec.startMove_eq]
  rw [← codes, ← moved]
  exact if_congr State.not_isReady_iff rfl (if_congr (by rw [Bool.not_eq_true']; exact Iff.rfl) rfl rfl)

/-- LENS_MOVE and LENS_NUDGE make the same checks; they differ in the position they ask for and in the verification
(08 R151, R155). -/
theorem State.takeMove_eq (h : s.TakesDrop .controller r d) (k : RequestKind) (asked : AxisRec → Int) (verify : Bool) :
    let arg := r.args.getD 0 0
    (s.takeLensRequest k r (decide (axisOf (argOne r 0) = some .focus)) fun d s =>
      match axisOf (argOne r 0) with
      | some ax => s.moveDrop k r d ax (asked (s.axis d ax)) verify
      | none => s.answer k.value r .unknown .noValue) =
      if s.loader = .loading ∨ (s.drops.get d).locateHold = true then
        s.countHeard.answer k.value r .refusedState .noValue
      else if arg = 0 ∧ (s.lens.get d).sweep.phase ≠ none then s.countHeard.answer k.value r .busy .noValue
      else if 1 < arg then s.countHeard.answer k.value r .unknown .noValue
      else
        let ax : Axis := if arg = 0 then .focus else .iris
        s.countHeard.moveDrop k r d ax (asked ((s.lens.get d).axis ax)) verify := by
  intro arg
  refine (State.takeLensRequest_taken h _ _ _).trans ?_
  refine if_congr Iff.rfl rfl (if_congr (and_congr_left' (axisOf_focus_iff arg)) rfl ?_)
  rw [show argOne r 0 = arg.toNat from rfl, axisOf_eq]
  by_cases above : 1 < arg
  · rw [if_pos above, if_pos above]
  · rw [if_neg above, if_neg above]; rfl

end

/-- Settles O41: both commands are `State.takeMove_eq`, on a drop `State.moveDrop_eq`. -/
theorem movesAndNudgesTakeTheirTarget : Obligations.MovesAndNudgesTakeTheirTarget := by
  intro r d s h l g arg two outcome
  have taken (k : RequestKind) (o : Host.Outcome State Fault Refusal) (asked : AxisRec → Int) (verify : Bool)
      (run : o = .next (s.takeLensRequest k r (decide (axisOf (argOne r 0) = some .focus)) fun d s =>
        match axisOf (argOne r 0) with
        | some ax => s.moveDrop k r d ax (asked (s.axis d ax)) verify
        | none => s.answer k.value r .unknown .noValue)) : outcome k o asked verify := by
    have range : (s.countHeard.dropCfg d).range (if arg = 0 then .focus else .iris) =
        if arg = 0 then g.focusRange else g.irisRange := by split_ifs <;> rfl
    have backlash : (s.countHeard.dropCfg d).backlash (if arg = 0 then .focus else .iris) =
        if arg = 0 then g.focusBacklash else g.irisBacklash := by split_ifs <;> rfl
    have run := run.trans (congrArg Host.Outcome.next (State.takeMove_eq h k asked verify))
    dsimp only at run
    rw [State.moveDrop_eq, range, backlash] at run
    exact ite_of_next run id fun run => ite_of_next run id fun run => ite_of_next run id fun run =>
      ite_of_next run id fun run => ite_of_next run id fun run => ite_of_next run id fun run => ite_of_next run id id
  have checked : decide (argOne r 3 ≠ 0) = decide (r.args.getD 3 0 ≠ 0) :=
    decide_eq_decide.mpr (not_congr ⟨fun h => BitVec.eq_of_toNat_eq h, fun h => congrArg BitVec.toNat h⟩)
  constructor
  · have move := taken .lensMove (exec (.lensMove r) s) (fun _ => (argTwo r 1 : Int)) (decide (argOne r 3 ≠ 0)) rfl
    rw [argTwo_eq, checked] at move
    exact move
  · have nudge := taken .lensNudge (exec (.lensNudge r) s) (fun x => x.position + argSigned r 1) false rfl
    rw [argSigned_eq] at nudge
    exact nudge

end Sys2Proof.Machine

/-! PROOF. The setting stack (O43): what LENS_PUSH keeps, and how LENS_POP goes back to it. -/

namespace Sys2Proof.Machine

/-- The common checks of a lens request that moves FOCUS or changes the stack: no sweep may run (08 R146). -/
theorem State.takeLensRequest_focus {s : State} {r : Request} {d : Drop} (h : s.TakesDrop .controller r d)
    (k : RequestKind) (act : Drop → State → State) :
    s.takeLensRequest k r true act =
      if s.loader = .loading ∨ (s.drops.get d).locateHold = true then
        s.countHeard.answer k.value r .refusedState .noValue
      else if (s.lens.get d).sweep.phase ≠ none then s.countHeard.answer k.value r .busy .noValue
      else act d s.countHeard :=
  (State.takeLensRequest_taken h k true act).trans
    (if_congr Iff.rfl rfl (if_congr (and_iff_right rfl) rfl rfl))

/-! ## The setting stack -/

section
variable (x : AxisRec) (v : Option Nat)

theorem AxisRec.pushed_eq :
    x.pushed =
      if x.mode.isMoving = true then some x.target
      else if x.mode = .idle ∧ x.homed = true then some x.position
      else none := by
  unfold AxisRec.pushed
  cases x.mode <;> simp [AxisMode.isMoving]

theorem AxisRec.movedBy_eq : x.movedBy v = v.filter fun t => decide (t ≠ x.position) := by
  cases v with
  | none => rfl
  | some t => simp [AxisRec.movedBy, Option.filter]

theorem AxisRec.not_accepts_iff : ¬x.accepts v = true ↔ v ≠ none ∧ x.homed = false := by
  unfold AxisRec.accepts
  rw [Bool.or_eq_true, not_or, Option.isNone_iff_eq_none, Bool.not_eq_true]

end

/-- What LENS_POP does with the entries of the stack, the top one first (08 R159). -/
def State.popTop (s : State) (r : Request) (d : Drop) : List Setting → State
  | [] => s.answer RequestKind.lensPop.value r .empty .noValue
  | v :: rest =>
    let l := s.lens.get d
    let f := l.focus.movedBy v.focus
    let i := l.iris.movedBy v.iris
    if (v.focus ≠ none ∧ l.focus.homed = false) ∨ (v.iris ≠ none ∧ l.iris.homed = false) then
      s.answer RequestKind.lensPop.value r .notHomed .noValue
    else
      (s.modLens d fun l => { l with stack := rest }.applySetting (s.dropCfg d) v).answer RequestKind.lensPop.value r
        (if f = none ∧ i = none then .done else .accepted) (.count rest.length)

theorem State.popDrop_eq (s : State) (r : Request) (d : Drop) :
    s.popDrop r d =
      if (s.drops.get d).state ≠ .ready then s.answer RequestKind.lensPop.value r .refusedState .noValue
      else if (s.lens.get d).focus.mode ≠ .idle ∨ (s.lens.get d).iris.mode ≠ .idle then
        s.answer RequestKind.lensPop.value r .busy .noValue
      else s.popTop r d (s.lens.get d).stack := by
  unfold State.popDrop
  dsimp only
  refine if_congr State.not_isReady_iff rfl (if_congr Iff.rfl rfl ?_)
  cases (s.lens.get d).stack with
  | nil => rfl
  | cons v rest =>
    have refused : (!((s.lens.get d).focus.accepts v.focus && (s.lens.get d).iris.accepts v.iris)) = true ↔
        (v.focus ≠ none ∧ (s.lens.get d).focus.homed = false) ∨ (v.iris ≠ none ∧ (s.lens.get d).iris.homed = false) := by
      rw [← AxisRec.not_accepts_iff, ← AxisRec.not_accepts_iff, Bool.not_eq_true', ← Bool.not_eq_true, Bool.and_eq_true,
        not_and_or]
    have code : (if ((s.lens.get d).focus.movedBy v.focus).isSome || ((s.lens.get d).iris.movedBy v.iris).isSome then
        AnswerCode.accepted else .done) =
        if (s.lens.get d).focus.movedBy v.focus = none ∧ (s.lens.get d).iris.movedBy v.iris = none then .done
        else .accepted := by
      cases (s.lens.get d).focus.movedBy v.focus <;> cases (s.lens.get d).iris.movedBy v.iris <;> rfl
    exact if_congr refused rfl (congrArg (State.answer _ _ r · _) code)

/-- A popped setting: FOCUS takes its first leg, and IRIS its own or the wait in TURN behind FOCUS (08 R159). -/
theorem Lens.applySetting_eq (g : DropCfg) (v : Setting) (l : Lens) :
    let f := v.focus.filter fun t => decide (t ≠ l.focus.position)
    let i := v.iris.filter fun t => decide (t ≠ l.iris.position)
    l.applySetting g v =
      { l with
        focus := match f with | none => l.focus | some t => l.focus.movedTo g.focusBacklash t false
        iris :=
          match i with
          | none => l.iris
          | some t =>
            if f = none then l.iris.movedTo g.irisBacklash t false
            else { l.iris with mode := .moving .turn, target := t, legGoal := none, verify := false } } := by
  unfold Lens.applySetting
  rw [AxisRec.movedBy_eq, AxisRec.movedBy_eq]
  simp only [AxisRec.startMove_eq]
  generalize (v.focus.filter fun t => decide (t ≠ l.focus.position)) = f
  generalize (v.iris.filter fun t => decide (t ≠ l.iris.position)) = i
  cases f with
  | none => cases i <;> rfl
  | some t => cases i <;> rfl

/-- Settles O43: the checks in order, then the setting kept or taken off. -/
theorem settingsArePushedAndPopped : Obligations.SettingsArePushedAndPopped := by
  intro r d s h l g hold reply pushed
  constructor
  · have run : exec (.lensPush r) s = _ :=
      congrArg Host.Outcome.next (State.takeLensRequest_focus h .lensPush _)
    refine ite_of_next run id fun run => ite_of_next run id fun run => ite_of_next run id fun run => ?_
    rw [State.modLens, Lens.push, AxisRec.pushed_eq, AxisRec.pushed_eq] at run
    exact run
  · have run : exec (.lensPop r) s = _ :=
      congrArg Host.Outcome.next (State.takeLensRequest_focus h .lensPop _)
    rw [State.popDrop_eq] at run
    refine ite_of_next run id fun run => ite_of_next run id fun run => ite_of_next run id fun run =>
      ite_of_next run id fun run => ?_
    have stack : s.countHeard.lens.get d = l := rfl
    rw [stack] at run
    cases hs : l.stack with
    | nil => rw [hs] at run; exact run
    | cons v rest =>
      rw [hs] at run
      refine ite_of_next run id fun run => ?_
      rw [AxisRec.movedBy_eq, AxisRec.movedBy_eq, State.modLens, Lens.applySetting_eq] at run
      exact run

end Sys2Proof.Machine

/-! PROOF. The beginning of a sweep at its first point, and its stall (O44). -/

namespace Sys2Proof.Machine

section
variable (s : State) (d : Drop)

/-- A sweep record that changes as FOCUS is set going to a position (09 R168). -/
theorem State.modSweep_sweepGoto (f : Sweep → Sweep) (t : Nat) :
    (s.modSweep d f).sweepGoto d t =
      { s with
        lens :=
          s.lens.set d
            { s.lens.get d with
              focus := (s.lens.get d).focus.movedTo (s.dropCfg d).focusBacklash t false
              sweep := f (s.lens.get d).sweep } } := by
  have cfg : (s.modSweep d f).dropCfg d = s.dropCfg d := State.dropCfg_of rfl d
  unfold State.sweepGoto State.modAxis
  rw [State.modSweep, State.modLens_modLens, State.modLens, ← AxisRec.startMove_eq, ← cfg]
  rfl

/-- A point that a sweep set up to move begins: FOCUS goes there, or the sweep waits there at once (09 R168; log 26). -/
theorem State.modSweep_beginPoint (f : Sweep → Sweep) {w : Sweep} (hw : f (s.lens.get d).sweep = w)
    (moving : w.phase = some .move) :
    (s.modSweep d f).beginPoint d =
      s.sweepGoes d w.point w
        { s with
          lens :=
            s.lens.set d
              { s.lens.get d with sweep := { w with phase := some .wait, pointTimer := .running s.now 2000000 } } } := by
  have set : (s.modSweep d f).sweep d = w := by rw [← hw]; simp [State.sweep, State.modSweep]
  have stands : ((s.modSweep d f).axis d .focus).position = (s.lens.get d).focus.position := by
    simp [State.axis, State.modSweep, Lens.axis]
  have still : { w with phase := some .move } = w := by rw [← moving]
  unfold State.beginPoint State.sweepGoes
  dsimp only
  rw [set, stands]
  refine if_congr Iff.rfl ?_ ?_
  · subst hw
    simp [State.sweepWait, State.modSweep, State.modLens, State.timer, Config.pointTimerUs]
  · have both : (s.modSweep d f).modSweep d (fun w => { w with phase := some .move }) =
        s.modSweep d fun v => { f v with phase := some .move } := State.modLens_modLens s d _ _
    rw [both, State.modSweep_sweepGoto, hw, still]

/-- FOCUS goes back to where it stood before the sweep, or the sweep ends STALLED there (09 R170). -/
theorem State.beginReturn_eq :
    let l := s.lens.get d
    s.beginReturn d =
      s.sweepGoes d l.sweep.preSweep { l.sweep with phase := some .return, pointTimer := .stopped }
        (State.queueEvent { s with lens := s.lens.set d { l with sweep := l.sweep.ended .stalled } }
          (.sweepDone d .stalled l.focus.position none)) := by
  intro l
  unfold State.beginReturn State.sweepGoes
  refine if_congr Iff.rfl ?_ (s.modSweep_sweepGoto d _ _)
  rw [State.endSweep_eq, State.modSweep, State.modSweep, State.modLens_modLens]
  simp [State.modLens, Sweep.ended, l]

end

/-! ## LENS_SWEEP -/

theorem max_one_ne_iff (b : Byte) : max 1 b.toNat ≠ b.toNat ↔ b = 0 := by
  have zero : b = 0 ↔ b.toNat = 0 := ⟨fun h => congrArg BitVec.toNat h, fun h => BitVec.eq_of_toNat_eq h⟩
  rw [zero]
  omega

/-- However a sweep begins its first point, the count of its points stands. -/
theorem State.sweepGoes_pointCount (s : State) (d : Drop) (t : Nat) {w : Sweep} {u : State}
    (there : (u.sweep d).pointCount = w.pointCount) : ((s.sweepGoes d t w u).sweep d).pointCount = w.pointCount := by
  unfold State.sweepGoes
  dsimp only
  split_ifs
  · exact there
  · simp [State.sweep]

/-- LENS_SWEEP on a drop: its checks in order, and the sweep set up at its first point (09 R167, R168). -/
theorem State.sweepDrop_eq (s : State) (r : Request) (d : Drop) :
    let l := s.lens.get d
    let g := s.dropCfg d
    let start := min g.focusRange (argTwo r 0)
    let stop := min g.focusRange (argTwo r 2)
    let stride := max 1 (argOne r 4)
    let planned := plannedPoints start stop stride
    let w := l.sweep.setUp start stop stride l.focus.position
    s.sweepDrop r d =
      if (s.drops.get d).state ≠ .ready ∨ g.scoring = false then
        s.answer RequestKind.lensSweep.value r .refusedState .noValue
      else if l.focus.homed = false then s.answer RequestKind.lensSweep.value r .notHomed .noValue
      else if l.focus.mode ≠ .idle then s.answer RequestKind.lensSweep.value r .busy .noValue
      else
        (s.sweepGoes d start w
          { s with
            lens :=
              s.lens.set d
                { l with sweep := { w with phase := some .wait, pointTimer := .running s.now 2000000 } } }).answer
          RequestKind.lensSweep.value r
          (if start ≠ argTwo r 0 ∨ stop ≠ argTwo r 2 ∨ r.args.getD 4 0 = 0 ∨ 32 < planned then .clamped else .accepted)
          (.count (min 32 planned)) := by
  intro l g start stop stride planned w
  have first : w.point = start := by simp [w, Sweep.point, Sweep.setUp]
  have begun := s.modSweep_beginPoint d (Sweep.setUp start stop stride l.focus.position) (w := w) rfl rfl
  rw [first] at begun
  have count := s.sweepGoes_pointCount d start (w := w)
    (u := { s with
      lens :=
        s.lens.set d
          { l with sweep := { w with phase := some .wait, pointTimer := .running s.now 2000000 } } })
    (by simp [State.sweep])
  rw [← begun] at count ⊢
  have clamps : (decide (start ≠ argTwo r 0 ∨ stop ≠ argTwo r 2 ∨ stride ≠ argOne r 4) ||
      decide (Config.maxPoints < planned)) = true ↔
      start ≠ argTwo r 0 ∨ stop ≠ argTwo r 2 ∨ r.args.getD 4 0 = 0 ∨ 32 < planned := by
    rw [Bool.or_eq_true, decide_eq_true_iff, decide_eq_true_iff, or_assoc, or_assoc,
      show stride ≠ argOne r 4 ↔ r.args.getD 4 0 = 0 from max_one_ne_iff _]
    rfl
  rw [← if_congr clamps rfl rfl, show min 32 planned = _ from count.symm]
  have homes : (!(s.axis d .focus).homed) = true ↔ l.focus.homed = false := by rw [Bool.not_eq_true']; rfl
  by_cases resting : (s.drops.get d).state ≠ .ready
  · exact (if_pos (State.not_isReady_iff.mpr resting)).trans (if_pos (.inl resting)).symm
  refine (if_neg (mt State.not_isReady_iff.mp resting)).trans ?_
  by_cases scores : g.scoring = false
  · exact (if_pos (by rw [Bool.not_eq_true']; exact scores)).trans (if_pos (.inr scores)).symm
  refine (if_neg (by rw [Bool.not_eq_true']; exact scores)).trans (Eq.trans ?_ (if_neg (not_or.mpr ⟨resting, scores⟩)).symm)
  exact if_congr homes rfl rfl

/-- Settles O44: the checks in order with the sweep that is set up, and the return of a stalled one. -/
theorem sweepsBeginAndStall : Obligations.SweepsBeginAndStall := by
  intro d s l g
  refine ⟨fun r h => ?_, fun waits runs => ?_⟩
  · intro first last start stop stride planned clamped w reply
    have run : exec (.lensSweep r) s = _ :=
      congrArg Host.Outcome.next (State.takeLensRequest_focus h .lensSweep _)
    rw [State.sweepDrop_eq, argTwo_eq, argTwo_eq] at run
    exact ite_of_next run id fun run => ite_of_next run id fun run => ite_of_next run id fun run =>
      ite_of_next run id fun run => ite_of_next run id id
  · exact congrArg Host.Outcome.next ((if_pos ⟨waits, runs⟩).trans (s.beginReturn_eq d))

end Sys2Proof.Machine

/-! PROOF. LENS_HALT (O42): an axis and a sweep that are stopped, at once or after the burst in the slot. -/

namespace Sys2Proof.Machine

/-! ## What a halt does to a lens, and what it reports -/

/-- An axis that is halted: in operation it owes the halt while its burst is in the slot, and stops at once without
(08 R156). -/
def Lens.haltedAxis (l : Lens) (ax : Axis) : AxisRec :=
  if (l.axis ax).mode.busy = true then
    if l.slotAxis = some ax then { l.axis ax with haltOwed := true } else (l.axis ax).idled
  else l.axis ax

/-- The LENS_DONE of an axis that a halt stops at once (08 R156). -/
def Lens.haltNotes (l : Lens) (d : Drop) (ax : Axis) : List NoteBody :=
  if (l.axis ax).mode.busy = true ∧ ¬l.slotAxis = some ax then
    [.event (.lensDone d ax .halted (l.axis ax).position)]
  else []

/-- A running sweep that is stopped: it owes its outcome, or ends with it (09 R172; log 11). -/
def Lens.stoppedSweep (l : Lens) (o : SweepOutcome) : Sweep :=
  if l.focus.mode.busy = true ∧ l.slotAxis = some .focus then
    { l.sweep with endOwed := some (l.sweep.endOwed.getD o) }
  else l.sweep.ended o

/-- The SWEEP_DONE of a sweep that is stopped at once (09 R172). -/
def Lens.stopNotes (l : Lens) (d : Drop) (o : SweepOutcome) : List NoteBody :=
  if l.focus.mode.busy = true ∧ l.slotAxis = some .focus then []
  else [.event (.sweepDone d o l.focus.position none)]

/-- FOCUS and a running sweep, stopped by LENS_HALT (08 R156, 09 R172). -/
def Lens.focusHalted (l : Lens) : Lens :=
  { l with
    focus := l.haltedAxis .focus
    sweep := if l.sweep.phase = none then l.sweep else l.stoppedSweep .halted }

/-- The events of FOCUS or of the sweep that moves it, stopped by LENS_HALT (08 R156, 09 R172). -/
def Lens.focusNotes (l : Lens) (d : Drop) : List NoteBody :=
  if l.sweep.phase = none then l.haltNotes d .focus else l.stopNotes d .halted

/-- A lens that LENS_HALT stops (08 R156, 09 R172). -/
def Lens.halted (l : Lens) : Lens := { l.focusHalted with iris := l.haltedAxis .iris }

/-- The events of a lens that LENS_HALT stops, in order (08 R156, 09 R172). -/
def Lens.haltedNotes (l : Lens) (d : Drop) : List NoteBody := l.focusNotes d ++ l.haltNotes d .iris

section
variable {l : Lens} {ax : Axis}

theorem Lens.haltedAxis_owes (busy : (l.axis ax).mode.busy = true) (slot : l.slotAxis = some ax) :
    l.haltedAxis ax = { l.axis ax with haltOwed := true } := (if_pos busy).trans (if_pos slot)

theorem Lens.haltedAxis_stops (busy : (l.axis ax).mode.busy = true) (slot : ¬l.slotAxis = some ax) :
    l.haltedAxis ax = (l.axis ax).idled := (if_pos busy).trans (if_neg slot)

theorem Lens.haltedAxis_resting (busy : ¬(l.axis ax).mode.busy = true) : l.haltedAxis ax = l.axis ax := if_neg busy

theorem Lens.haltNotes_stops (d : Drop) (h : (l.axis ax).mode.busy = true ∧ ¬l.slotAxis = some ax) :
    l.haltNotes d ax = [.event (.lensDone d ax .halted (l.axis ax).position)] := if_pos h

theorem Lens.haltNotes_none (d : Drop) (h : ¬((l.axis ax).mode.busy = true ∧ ¬l.slotAxis = some ax)) :
    l.haltNotes d ax = [] := if_neg h

variable {o : SweepOutcome}

theorem Lens.stoppedSweep_owes (h : l.focus.mode.busy = true ∧ l.slotAxis = some .focus) :
    l.stoppedSweep o = { l.sweep with endOwed := some (l.sweep.endOwed.getD o) } := if_pos h

theorem Lens.stoppedSweep_ends (h : ¬(l.focus.mode.busy = true ∧ l.slotAxis = some .focus)) :
    l.stoppedSweep o = l.sweep.ended o := if_neg h

theorem Lens.stopNotes_owes (d : Drop) (h : l.focus.mode.busy = true ∧ l.slotAxis = some .focus) :
    l.stopNotes d o = [] := if_pos h

theorem Lens.stopNotes_ends (d : Drop) (h : ¬(l.focus.mode.busy = true ∧ l.slotAxis = some .focus)) :
    l.stopNotes d o = [.event (.sweepDone d o l.focus.position none)] := if_neg h

theorem Lens.focusHalted_resting (h : l.sweep.phase = none) :
    l.focusHalted = { l with focus := l.haltedAxis .focus } :=
  congrArg (fun w => { l with focus := l.haltedAxis .focus, sweep := w }) (if_pos h)

theorem Lens.focusHalted_sweeping (h : ¬l.sweep.phase = none) :
    l.focusHalted = { l with focus := l.haltedAxis .focus, sweep := l.stoppedSweep .halted } :=
  congrArg (fun w => { l with focus := l.haltedAxis .focus, sweep := w }) (if_neg h)

theorem Lens.focusNotes_resting (d : Drop) (h : l.sweep.phase = none) : l.focusNotes d = l.haltNotes d .focus := if_pos h

theorem Lens.focusNotes_sweeping (d : Drop) (h : ¬l.sweep.phase = none) : l.focusNotes d = l.stopNotes d .halted :=
  if_neg h

end

section
variable (s : State) (d : Drop)

theorem State.haltAxis_eq (ax : Axis) :
    s.haltAxis d ax =
      ((s.lens.get d).haltNotes d ax).foldl State.queueNote
        (s.modLens d fun l => l.setAxis ax (l.haltedAxis ax)) := by
  unfold State.haltAxis
  by_cases busy : ((s.lens.get d).axis ax).mode.busy = true
  · refine (if_pos busy).trans ?_
    by_cases slot : (s.lens.get d).slotAxis = some ax
    · rw [if_pos slot, Lens.haltNotes_none d fun h => h.2 slot]
      exact State.modLens_congr rfl (by rw [Lens.haltedAxis_owes busy slot])
    · rw [if_neg slot, Lens.haltNotes_stops d ⟨busy, slot⟩]
      have halted : s.modAxis d ax AxisRec.rest = s.modLens d fun l => l.setAxis ax (l.haltedAxis ax) :=
        State.modLens_congr rfl (by rw [Lens.haltedAxis_stops busy slot]; rfl)
      have stands : ((s.modAxis d ax AxisRec.rest).axis d ax).position = ((s.lens.get d).axis ax).position := by
        simp [State.axis, State.modAxis, AxisRec.rest]
      rw [State.queueLensDone, stands, halted]; rfl
  · refine (if_neg busy).trans ?_
    rw [Lens.haltNotes_none d fun h => busy h.1]
    refine (State.modLens_eq_self ?_).symm
    rw [Lens.haltedAxis_resting busy, Lens.setAxis_axis]

/-- A running sweep that is stopped, with FOCUS (09 R172; log 11). -/
theorem State.stopSweep_eq (o : SweepOutcome) :
    s.stopSweep d o =
      ((s.lens.get d).stopNotes d o).foldl State.queueNote
        (s.modLens d fun l => { l with focus := l.haltedAxis .focus, sweep := l.stoppedSweep o }) := by
  unfold State.stopSweep
  by_cases busy : (s.lens.get d).focus.mode.busy = true
  · have focusBusy : ((s.lens.get d).axis .focus).mode.busy = true := busy
    refine (if_pos busy).trans ?_
    by_cases slot : (s.lens.get d).slotAxis = some .focus
    · have owed : (s.lens.get d).focus.mode.busy = true ∧ (s.lens.get d).slotAxis = some .focus := ⟨busy, slot⟩
      rw [if_pos slot, Lens.stopNotes_owes d owed, State.modAxis, State.modSweep, State.modLens_modLens]
      refine State.modLens_congr rfl ?_
      rw [Lens.haltedAxis_owes focusBusy slot, Lens.stoppedSweep_owes owed]
      cases he : (s.lens.get d).sweep.endOwed <;> simp [Lens.setAxis, Lens.axis, he]
    · have free : ¬((s.lens.get d).focus.mode.busy = true ∧ (s.lens.get d).slotAxis = some .focus) := fun h => slot h.2
      have stands : ((s.modAxis d .focus AxisRec.rest).lens.get d).focus.position = (s.lens.get d).focus.position := by
        simp [State.modAxis, Lens.setAxis, Lens.axis, AxisRec.rest]
      have stopped : (s.modAxis d .focus AxisRec.rest).modSweep d (Sweep.ended o) =
          s.modLens d fun l => { l with focus := l.haltedAxis .focus, sweep := l.stoppedSweep o } := by
        refine (State.modLens_modLens s d _ _).trans (State.modLens_congr rfl ?_)
        rw [Lens.haltedAxis_stops focusBusy slot, Lens.stoppedSweep_ends free]; rfl
      rw [if_neg slot, Lens.stopNotes_ends d free, State.endSweep_eq, stands, stopped]; rfl
  · have free : ¬((s.lens.get d).focus.mode.busy = true ∧ (s.lens.get d).slotAxis = some .focus) := fun h => busy h.1
    have focusRests : ¬((s.lens.get d).axis .focus).mode.busy = true := busy
    have stopped : s.modSweep d (Sweep.ended o) =
        s.modLens d fun l => { l with focus := l.haltedAxis .focus, sweep := l.stoppedSweep o } := by
      refine State.modLens_congr rfl ?_
      rw [Lens.haltedAxis_resting focusRests, Lens.stoppedSweep_ends free]; rfl
    refine (if_neg busy).trans ?_
    rw [Lens.stopNotes_ends d free, State.endSweep_eq, stopped]; rfl

theorem State.haltLens_eq :
    s.haltLens d = ((s.lens.get d).haltedNotes d).foldl State.queueNote (s.modLens d Lens.halted) := by
  have first : (if (s.sweep d).running then s.stopSweep d .halted else s.haltAxis d .focus) =
      ((s.lens.get d).focusNotes d).foldl State.queueNote (s.modLens d Lens.focusHalted) := by
    by_cases rests : (s.lens.get d).sweep.phase = none
    · rw [if_neg fun k => (s.sweep_running_iff d).mp k rests, Lens.focusNotes_resting d rests, State.haltAxis_eq]
      refine congrArg (List.foldl State.queueNote · _) (State.modLens_congr rfl ?_)
      rw [Lens.focusHalted_resting rests]; rfl
    · rw [if_pos ((s.sweep_running_iff d).mpr rests), Lens.focusNotes_sweeping d rests, State.stopSweep_eq]
      refine congrArg (List.foldl State.queueNote · _) (State.modLens_congr rfl ?_)
      rw [Lens.focusHalted_sweeping rests]
  have lens : (((s.lens.get d).focusNotes d).foldl State.queueNote (s.modLens d Lens.focusHalted)).lens.get d =
      (s.lens.get d).focusHalted := by
    rw [State.queueNotes_lens, State.modLens_lens, PerDrop.get_set_same]
  unfold State.haltLens
  rw [first, State.haltAxis_eq, lens, ← State.queueNotes_modLens, State.modLens_modLens, ← List.foldl_append]
  rfl

end

theorem exec_lensHalt {s : State} {r : Request} {d : Drop} (h : s.TakesDrop .controller r d) :
    exec (.lensHalt r) s = .next (
      if s.loader = .loading ∨ (s.drops.get d).locateHold = true then
        s.countHeard.answer RequestKind.lensHalt.value r .refusedState .noValue
      else
        (s.countHeard.answer RequestKind.lensHalt.value r (if (s.lens.get d).busy then .accepted else .done)
          .noValue).haltLens d) :=
  congrArg Host.Outcome.next ((State.takeLensRequest_taken h _ _ _).trans
    (if_congr Iff.rfl rfl (if_neg fun k => Bool.false_ne_true k.1)))

/-- Settles O42: the answer, then the stops with their events. -/
theorem haltsStopTheLens : Obligations.HaltsStopTheLens := by
  intro r d s h l inSlot busy halted answer lensDone owed
  have run := exec_lensHalt h
  by_cases held : s.loader = .loading ∨ (s.drops.get d).locateHold = true
  · refine ⟨_, run.trans (congrArg Host.Outcome.next (if_pos held)), ?_⟩
    rw [if_pos held]
    exact State.queueNotes_of h.toTakes.stray [answer .refusedState]
  refine ⟨_, run.trans (congrArg Host.Outcome.next (if_neg held)), ?_⟩
  rw [if_neg held]
  have codes : (if (s.lens.get d).busy then AnswerCode.accepted else .done) =
      if busy .focus ∨ busy .iris then .accepted else .done := if_congr (Bool.or_eq_true _ _ ▸ Iff.rfl) rfl rfl
  rw [codes]
  generalize (if busy .focus ∨ busy .iris then AnswerCode.accepted else .done) = code
  have stopped : (s.countHeard.answer RequestKind.lensHalt.value r code .noValue).haltLens d =
      ((answer code :: l.haltedNotes d).foldl State.queueNote s.countHeard).modLens d Lens.halted := by
    have lens : (s.countHeard.queueNote (answer code)).lens = s.lens := (State.queueNote_frame _ _).get .lens (by decide)
    refine (State.haltLens_eq _ d).trans ?_
    rw [show (s.countHeard.answer _ r code .noValue) = s.countHeard.queueNote (answer code) from rfl, lens,
      State.queueNotes_modLens]
    rfl
  rw [stopped, State.queueNotes_of h.toTakes.stray]
  have axis (ax : Axis) : halted ax (l.haltedAxis ax) := (ite_not (busy ax) _ _).symm
  have lens : ((State.modLens { s.countHeard with
      cli := (answer code :: l.haltedNotes d).foldl Cli.enqueue s.countHeard.cli } d Lens.halted).lens.get d) =
      l.halted := by
    rw [State.modLens_lens, PerDrop.get_set_same]; rfl
  rw [lens]
  have noted : s.ChangesOnly (s.countHeard.modCli fun _ => (answer code :: l.haltedNotes d).foldl Cli.enqueue s.countHeard.cli)
      [.cli] [] := (s.modCounters_frame _).trans (State.modCli_frame _ _)
  exact ⟨(noted.mono (by decide) (by simp)).step (State.modLens_frame _ d _) (by decide) (by simp), axis .focus,
    axis .iris, rfl, rfl, rfl⟩

end Sys2Proof.Machine

/-! PROOF. The phases of a request (O48): the hold and its bundle phase, the quiesce, the launch and the settle wait. -/

namespace Sys2Proof.Machine

/-! ## The active request -/

section
variable {s : State} {a : ActiveRequest}

/-- The active request replaced. -/
def State.withActive (s : State) (x : ActiveRequest) : State :=
  { s with locator := { s.locator with active := some x } }

theorem State.modActive_eq (ha : s.locator.active = some a) (f : ActiveRequest → ActiveRequest) :
    s.modActive f = s.withActive (f a) := by
  unfold State.modActive State.modLocator
  dsimp only
  rw [ha, Option.map_some]; rfl

theorem State.queueNote_locator (s : State) (l : Locator) (b : NoteBody) :
    State.queueNote { s with locator := l } b = { s.queueNote b with locator := l } := by
  unfold State.queueNote
  show (if s.stray = true then _ else _) = _
  split_ifs <;> rfl

theorem State.queueNote_withActive (s : State) (x : ActiveRequest) (b : NoteBody) :
    (s.withActive x).queueNote b = { s.queueNote b with locator := { s.locator with active := some x } } :=
  s.queueNote_locator _ b

/-- A deferral below the limit is counted, and the ninth ends the request (10 R181). -/
theorem State.defer_eq (ha : s.locator.active = some a) : s.defer a = s.deferred a := by
  unfold State.defer State.deferred
  by_cases more : a.deferrals < 8
  · rw [if_pos more]
    refine (if_neg (Nat.not_le.mpr more)).trans ?_
    rw [State.modActive_eq ha]; rfl
  · rw [if_neg more]
    exact if_pos (Nat.not_lt.mp more)

theorem State.lookBundle_free (ha : s.locator.active = some a)
    (free : s.locator.holder (s.dropCfg a.drop).bundle = none) :
    s.lookBundle a =
      { s.queueNote (.locateStart (s.dropCfg a.drop).bundle a.drop) with
        locator := { s.locator with active := some { a with bundleState := .queued } } } := by
  have noted : (s.queueNote (.locateStart (s.dropCfg a.drop).bundle a.drop)).locator = s.locator :=
    (s.queueNote_frame _).get .locator (by decide)
  refine (if_pos (by rw [State.bundle, free]; rfl)).trans ?_
  rw [State.modActive_eq (a := a) (by rw [← ha]; exact congrArg Locator.active noted)]
  exact congrArg (fun l : Locator => ({ s.queueNote (.locateStart (s.dropCfg a.drop).bundle a.drop) with
    locator := ({ l with active := some { a with bundleState := .queued } } : Locator) } : State)) noted

theorem State.lookBundle_held {h : Holder} (ha : s.locator.active = some a)
    (held : s.locator.holder (s.dropCfg a.drop).bundle = some h) :
    s.lookBundle a = if h.station.val = s.station then s else s.deferred a := by
  have own : s.ownHolds (s.bundle a.drop) = true ↔ h.station.val = s.station := by
    unfold State.ownHolds State.bundle
    rw [held]; exact beq_iff_eq
  refine (if_neg (by rw [State.bundle, held]; exact Bool.false_ne_true)).trans ?_
  exact if_congr own rfl (State.defer_eq ha)

theorem State.contends_launch (zero : (s.dropCfg a.drop).bundle = 0) :
    s.contends a = s.withActive { a with phase := .launch } := if_pos zero

theorem State.contends_free (shared : (s.dropCfg a.drop).bundle ≠ 0)
    (free : s.locator.holder (s.dropCfg a.drop).bundle = none) :
    s.contends a =
      { s.queueNote (.locateStart (s.dropCfg a.drop).bundle a.drop) with
        locator := { s.locator with active := some { a with phase := .bundle, bundleState := .queued } } } := by
  refine (if_neg shared).trans ?_
  rw [free]

theorem State.contends_held {h : Holder} (shared : (s.dropCfg a.drop).bundle ≠ 0)
    (held : s.locator.holder (s.dropCfg a.drop).bundle = some h) :
    let x : ActiveRequest := { a with phase := .bundle }
    s.contends a = if h.station.val = s.station then s.withActive x else (s.withActive x).deferred x := by
  refine (if_neg shared).trans ?_
  rw [held]; rfl

/-- The bundle phase: LAUNCH at once, the own START, the wait for the own END, or a deferral (10 R181). -/
theorem State.enterBundle_eq (ha : s.locator.active = some a) (type : CaptureType) :
    s.enterBundle a type = s.contends { a with type := type } := by
  unfold State.enterBundle
  rw [State.modActive_eq ha, State.modActive_eq ha]
  by_cases zero : (s.dropCfg a.drop).bundle = 0
  · exact (if_pos zero).trans (State.contends_launch (a := { a with type := type }) zero).symm
  refine (if_neg zero).trans ?_
  cases hh : s.locator.holder (s.dropCfg a.drop).bundle with
  | none =>
    rw [State.contends_free (a := { a with type := type }) zero hh,
      State.lookBundle_free (s := s.withActive { a with type := type, phase := .bundle }) rfl hh]
    rw [State.queueNote_withActive]; rfl
  | some h =>
    rw [State.contends_held (a := { a with type := type }) zero hh,
      State.lookBundle_held (s := s.withActive { a with type := type, phase := .bundle }) rfl hh]
    rfl

end

/-! ## The hold -/

/-- An axis as a halt leaves it where it owes nothing: idle where it was in operation (08 R156). -/
theorem Lens.haltedAxis_free {l : Lens} {ax : Axis} (free : ¬((l.axis ax).mode.busy = true ∧ l.slotAxis = some ax)) :
    l.haltedAxis ax = if (l.axis ax).mode.busy = true then (l.axis ax).idled else l.axis ax := by
  by_cases busy : (l.axis ax).mode.busy = true
  · rw [if_pos busy, Lens.haltedAxis_stops busy fun slot => free ⟨busy, slot⟩]
  · rw [if_neg busy, Lens.haltedAxis_resting busy]

/-- locate_hold set, and a running sweep stopped with outcome LOCATE, at once or when FOCUS's burst has been answered
(10 R179; 09 R172; log 11). -/
theorem State.setHold_cases (s : State) (d : Drop) :
    let x := s.lens.get d
    let held : State := { s with drops := s.drops.set d { s.drops.get d with locateHold := true } }
    s.setHold d =
      if x.sweep.phase = none then held
      else if x.focus.mode.busy = true ∧ x.slotAxis = some .focus then
        { held with
          lens :=
            s.lens.set d
              { x with
                focus := { x.focus with haltOwed := true }
                sweep := { x.sweep with endOwed := some (x.sweep.endOwed.getD .locate) } } }
      else
        State.queueEvent
          { held with
            lens :=
              s.lens.set d
                { x with
                  focus := if x.focus.mode.busy = true then x.focus.idled else x.focus
                  sweep := x.sweep.ended .locate } }
          (.sweepDone d .locate x.focus.position none) := by
  intro x held
  by_cases rests : x.sweep.phase = none
  · exact (if_neg fun k => (held.sweep_running_iff d).mp k rests).trans (if_pos rests).symm
  refine (if_pos ((held.sweep_running_iff d).mpr rests)).trans (Eq.trans ?_ (if_neg rests).symm)
  refine (held.stopSweep_eq d .locate).trans ?_
  by_cases owed : x.focus.mode.busy = true ∧ x.slotAxis = some .focus
  · have focus : x.haltedAxis .focus = { x.focus with haltOwed := true } := Lens.haltedAxis_owes (l := x) owed.1 owed.2
    have sweep : x.stoppedSweep .locate = _ := if_pos owed
    have notes : x.stopNotes d .locate = [] := if_pos owed
    rw [if_pos owed, show (held.lens.get d).stopNotes d .locate = [] from notes, ← focus, ← sweep]
    rfl
  · have focus : x.haltedAxis .focus = _ := Lens.haltedAxis_free (l := x) (ax := .focus) owed
    have sweep : x.stoppedSweep .locate = _ := if_neg owed
    have notes : x.stopNotes d .locate = _ := if_neg owed
    rw [if_neg owed, show (held.lens.get d).stopNotes d .locate = _ from notes, ← sweep,
      show (if x.focus.mode.busy = true then x.focus.idled else x.focus) = _ from focus.symm]
    rfl

/-! ## The commands -/

section
variable {s : State} {a : ActiveRequest}

theorem exec_requestActivate {e : RequestEntry} {rest : List RequestEntry} (idle : s.locator.active = none)
    (first : s.locator.requests = e :: rest) :
    exec .requestActivate s = .next (
      if (s.drops.get e.drop).state = .ready ∨ (s.drops.get e.drop).state.powered = false then s.activate e rest
      else s) := by
  show execRequestActivate s = _
  unfold execRequestActivate
  rw [idle, first]

theorem State.activate_eq (s : State) (e : RequestEntry) (rest : List RequestEntry) :
    let st := (s.drops.get e.drop).state
    let a := e.activate (if st = .ready then .quiet else .dark)
    let taken := State.setHold { s with locator := { s.locator with requests := rest, active := some a } } e.drop
    s.activate e rest = if st = .ready then taken else taken.enterBundle a .dark := by
  unfold State.activate State.isReady
  simp only [decide_eq_true_eq]
  rfl

theorem exec_quiesceEnd (ha : s.locator.active = some a) (hp : a.phase = .quiesce) :
    exec .quiesceEnd s = .next (
      if s.quiesced a.drop then s.contends { a with type := .quiet }
      else if (s.drops.get a.drop).state.powered then s
      else s.contends { a with type := .dark }) := by
  show execQuiesceEnd s = _
  unfold execQuiesceEnd
  rw [ha]
  refine congrArg Host.Outcome.next ((if_neg (not_not.mpr hp)).trans ?_)
  rw [State.enterBundle_eq ha, State.enterBundle_eq ha]

theorem State.quiesced_iff (s : State) (d : Drop) :
    s.quiesced d = true ↔
      (s.drops.get d).state = .ready ∧ s.dropHasOpenPart d = false ∧ (s.lens.get d).busy = false := by
  unfold State.quiesced
  rw [Bool.and_eq_true, Bool.and_eq_true, decide_eq_true_iff, Bool.not_eq_true', Bool.not_eq_true', and_assoc]

theorem exec_launchStart (ha : s.locator.active = some a) (hp : a.phase = .launch) (free : s.locator.capture = none) :
    exec .launchStart s = .next (s.launch a) := by
  show execLaunchStart s = _
  unfold execLaunchStart
  rw [ha]
  exact congrArg Host.Outcome.next (if_pos ⟨hp, by rw [Locator.free, free]; rfl⟩)

theorem exec_settleEnd (ha : s.locator.active = some a) (hp : a.phase = .settle)
    (ended : s.locator.settle.isRunning = true ∨ s.locator.capture.map Capture.type = some .dark) :
    exec .settleEnd s = .next
      { s with locator := { s.locator with settle := .stopped, active := some { a with phase := .capture } } } := by
  have settling : s.locator.inPhase .settle = true := by
    unfold Locator.inPhase
    rw [ha]; exact decide_eq_true hp
  have settled : s.locator.settled = true := by
    unfold Locator.settled
    rw [Bool.or_eq_true]
    refine ended.imp_right fun dark => ?_
    obtain ⟨c, hc, type⟩ := Option.map_eq_some_iff.mp dark
    rw [hc]; exact decide_eq_true type
  refine congrArg Host.Outcome.next ((if_pos (by rw [settling, settled]; rfl)).trans ?_)
  unfold State.modLocator
  dsimp only
  rw [ha, Option.map_some]

/-! ## The launch -/

/-- A hushed drop's record and its HUSH mark, before its lens leaves READY (01 R19). -/
def State.hushMarked (s : State) (d : Drop) : State :=
  (s.modDrop d fun r => { r with state := .hushed, stableTimer := .stopped, napTimer := .stopped }).handMark d .hush

theorem State.hushMarked_drops (s : State) (d : Drop) :
    (s.hushMarked d).drops =
      s.drops.set d { s.drops.get d with state := .hushed, stableTimer := .stopped, napTimer := .stopped } := rfl

theorem State.hushMarked_links (s : State) (d : Drop) :
    (s.hushMarked d).links = s.links.set d ((s.links.get d).hand s.now .hush) := rfl

/-- A READY drop is hushed: its record and its mark, and the lens that leaves READY with its events (10 R182; 08 R145). -/
theorem State.launchQuiet_spec (ha : s.locator.active = some a) :
    let t := s.launchQuiet a
    let r := s.drops.get a.drop
    s.ChangesOnly t [.drops, .links, .lens, .cli, .locator] [a.drop] ∧
      t.drops.get a.drop = { r with state := .hushed, stableTimer := .stopped, napTimer := .stopped } ∧
      t.links.get a.drop = (s.links.get a.drop).hand s.now .hush ∧
      t.lens.get a.drop = (s.lens.get a.drop).leftReady ∧
      t.cli = (((s.lens.get a.drop).leavingNotes a.drop).foldl State.queueNote s).cli ∧
      t.locator =
        { s.locator with
          capture := some (newCapture .quiet a.drop a.k false none), active := some { a with phase := .settle } } := by
  intro t r
  have hushed := s.hush_frame a.drop
  have noted := State.queueNotes_cli (s := s.hushMarked a.drop) (t := s) rfl rfl
    ((s.lens.get a.drop).leavingNotes a.drop)
  have left := (s.hushMarked a.drop).lensLeaveReady_frame a.drop
  refine ⟨(hushed.mono (by decide) fun _ h => h).step (State.modLocator_frame _ _) (by decide) (by simp), ?_, ?_,
    State.lensLeaveReady_lens _ _, ?_, ?_⟩
  · refine (congrArg (PerDrop.get · a.drop) (left.get .drops (by decide))).trans ?_
    rw [State.hushMarked_drops, PerDrop.get_set_same]
  · refine (congrArg (PerDrop.get · a.drop) (left.get .links (by decide))).trans ?_
    rw [State.hushMarked_links, PerDrop.get_set_same]
  · exact ((s.hushMarked a.drop).lensLeaveReady_cli a.drop).trans noted
  · have kept : (s.hush a.drop).locator = s.locator := hushed.get .locator (by decide)
    simp only [t, State.launchQuiet, State.modLocator_locator, kept, ha, Option.map_some]

/-- A request in LAUNCH whose drop is LOST gives its hold up and goes back to QUIESCE (10 R182). -/
theorem State.launchLost_eq (ha : s.locator.active = some a) :
    s.launchLost a =
      { s.queueLocateEnd a with locator := { s.locator with active := some { a with phase := .quiesce } } } := by
  have kept : (s.queueLocateEnd a).locator = s.locator := (s.queueLocateEnd_frame a).get .locator (by decide)
  unfold State.launchLost
  rw [State.modActive_eq (a := a) (by rw [kept, ha])]
  exact congrArg (fun l : Locator => ({ s.queueLocateEnd a with
    locator := ({ l with active := some { a with phase := .quiesce } } : Locator) } : State)) kept

theorem State.launchDark_eq (ha : s.locator.active = some a) :
    s.launchDark a =
      { s with
        locator :=
          { s.locator with
            capture := some (newCapture .dark a.drop a.k false none)
            active := some { a with type := .dark, phase := .capture } } } := by
  unfold State.launchDark State.modLocator
  dsimp only
  rw [ha, Option.map_some]

end

theorem DropState.ne_ready_of_unpowered {st : DropState} (h : st.powered = false) : st ≠ .ready := by
  rintro rfl
  cases h

/-- Settles O48: each phase by the lemma about its command, and the hold by `State.setHold_eq`. -/
theorem requestsGoThroughTheirPhases : Obligations.RequestsGoThroughTheirPhases := by
  intro s l
  refine ⟨fun e rest idle first => ?_, fun d => ?_, fun a ha hp => ?_, fun a ha hp free => ?_,
    fun a ha hp ended => exec_settleEnd ha hp ended⟩
  · intro st a taken
    have run := exec_requestActivate idle first
    have active : taken.locator.active = some a :=
      congrArg Locator.active ((State.setHold_frame _ e.drop).get .locator (by decide))
    refine ⟨fun ready => ?_, fun unpowered => ?_, fun powered notReady => ?_⟩
    · exact run.trans (congrArg Host.Outcome.next
        ((if_pos (.inl ready)).trans ((s.activate_eq e rest).trans (if_pos ready))))
    · have notReady : st ≠ .ready := DropState.ne_ready_of_unpowered unpowered
      have dark : { a with type := .dark } = a := by simp only [a, if_neg notReady]
      rw [← dark, ← State.enterBundle_eq active .dark]
      exact run.trans (congrArg Host.Outcome.next
        ((if_pos (.inr unpowered)).trans ((s.activate_eq e rest).trans (if_neg notReady))))
    · refine run.trans (congrArg Host.Outcome.next (if_neg fun k => k.elim notReady fun h => ?_))
      exact Bool.false_ne_true (h.symm.trans powered)
  · exact s.setHold_cases d
  · intro st
    have run := exec_quiesceEnd ha hp
    have moving (h : st ≠ .ready ∨ s.dropHasOpenPart a.drop = true ∨ (s.lens.get a.drop).busy = true) :
        ¬s.quiesced a.drop = true := by
      rw [State.quiesced_iff]
      rintro ⟨ready, closed, rests⟩
      rcases h with h | h | h
      · exact h ready
      · exact Bool.false_ne_true (closed.symm.trans h)
      · exact Bool.false_ne_true (rests.symm.trans h)
    refine ⟨fun ready closed rests => ?_, fun unpowered => ?_, fun powered waits => ?_⟩
    · exact run.trans (congrArg Host.Outcome.next (if_pos ((s.quiesced_iff _).mpr ⟨ready, closed, rests⟩)))
    · have off := moving (.inl (DropState.ne_ready_of_unpowered unpowered))
      refine run.trans (congrArg Host.Outcome.next ((if_neg off).trans (if_neg ?_)))
      exact fun powered => Bool.false_ne_true (unpowered.symm.trans powered)
    · exact run.trans (congrArg Host.Outcome.next ((if_neg (moving waits)).trans (if_pos powered)))
  · intro r b capture
    rw [exec_launchStart ha hp free]
    refine ⟨fun quiet ready => ?_, fun quiet lost => ?_, fun unpowered => ?_⟩
    · have on : ¬r.state.powered = false := by rw [ready]; decide
      exact ⟨_, congrArg Host.Outcome.next ((if_neg on).trans (if_pos ⟨quiet, ready⟩)), State.launchQuiet_spec ha⟩
    · have on : ¬r.state.powered = false := by rw [lost]; decide
      have notReady : ¬(a.type = .quiet ∧ r.state = .ready) := by rw [lost]; exact fun h => nomatch h.2
      refine congrArg Host.Outcome.next ((if_neg on).trans ((if_neg notReady).trans ((if_pos ⟨quiet, lost⟩).trans ?_)))
      exact State.launchLost_eq ha
    · exact congrArg Host.Outcome.next ((if_pos unpowered).trans (State.launchDark_eq ha))

end Sys2Proof.Machine

/-! PROOF. A sweep from point to point (O45): the parts it takes, the best entry of its table, and what follows a move of its
own that ends DONE. -/

namespace Sys2Proof.Machine

/-! ## The best point (09 R171) -/

/-- A table entry that is chosen over another: by its score, or at equal scores by its position (09 R171). -/
def PointBeats (a b : Nat × Nat) : Prop := b.2 < a.2 ∨ (b.2 = a.2 ∧ a.1 ≤ b.1)

section
variable {a b : Nat × Nat}

theorem betterPoint_of_beats (h : PointBeats a b) : betterPoint a b = a := by
  refine if_neg ?_
  unfold PointBeats at h
  omega

theorem betterPoint_of_beaten (h : PointBeats b a) : betterPoint a b = b := by
  unfold betterPoint
  split_ifs with better
  · rfl
  · unfold PointBeats at h
    exact Prod.ext (by omega) (by omega)

theorem betterPoint_mem (a b : Nat × Nat) : betterPoint a b = a ∨ betterPoint a b = b := by
  unfold betterPoint
  split_ifs
  · exact .inr rfl
  · exact .inl rfl

end

/-- The entry chosen over all others stays the better one of every comparison it comes to. -/
theorem foldl_betterPoint {best : Nat × Nat} (rest : List (Nat × Nat)) :
    ∀ p, best ∈ p :: rest → (∀ e ∈ p :: rest, PointBeats best e) → rest.foldl betterPoint p = best := by
  induction rest with
  | nil => exact fun p mem _ => (List.mem_singleton.mp mem).symm
  | cons q rest ih =>
    intro p mem beats
    have overP : PointBeats best p := beats p (by simp)
    have overQ : PointBeats best q := beats q (by simp)
    refine ih (betterPoint p q) ?_ ?_
    · rcases List.mem_cons.mp mem with rfl | mem
      · rw [betterPoint_of_beats overQ]; exact List.mem_cons_self
      rcases List.mem_cons.mp mem with rfl | mem
      · rw [betterPoint_of_beaten overP]; exact List.mem_cons_self
      · exact List.mem_cons_of_mem _ mem
    · intro e he
      rcases List.mem_cons.mp he with rfl | he
      · rcases betterPoint_mem p q with h | h
        · rwa [h]
        · rwa [h]
      · exact beats e (List.mem_cons_of_mem _ (List.mem_cons_of_mem _ he))

theorem bestPoint_eq_some {table : List (Nat × Nat)} {best : Nat × Nat} (mem : best ∈ table)
    (beats : ∀ e ∈ table, PointBeats best e) : bestPoint table = some best := by
  cases table with
  | nil => exact absurd mem List.not_mem_nil
  | cons p rest => exact congrArg some (foldl_betterPoint rest p mem beats)

/-! ## The part that is offered (09 R169) -/

theorem Sweep.takes_eq_some {w : Sweep} {p : Part} {score : Nat} :
    w.takes p = some score ↔
      w.phase = some .wait ∧ p.flags.moving = false ∧ p.focus = some w.point ∧ p.score = some score := by
  unfold Sweep.takes
  split_ifs with asked
  · obtain ⟨waits, still, there⟩ := asked
    simp [waits, still, there]
  · exact ⟨nofun, fun ⟨waits, still, there, _⟩ => absurd ⟨waits, still, there⟩ asked⟩

section
variable (s : State) (d : Drop)

theorem State.offerPart_resting (p : Part) (h : (s.lens.get d).sweep.phase = none) : s.offerPart d p = s := by
  have rests : (s.sweep d).running = false := Bool.eq_false_iff.mpr fun k => (s.sweep_running_iff d).mp k h
  unfold State.offerPart
  simp [rests]

theorem State.offerPart_passed {p : Part} (running : (s.lens.get d).sweep.phase ≠ none)
    (h : (s.lens.get d).sweep.takes p = none) : s.offerPart d p = s.modSweep d Sweep.passOver := by
  have runs : (s.sweep d).running = true := (s.sweep_running_iff d).mpr running
  have passed : (s.sweep d).takes p = none := h
  unfold State.offerPart
  simp [runs, passed]

/-- A part that is taken: its point is recorded, and the next point is begun, or the best one after the last. -/
theorem State.offerPart_taken {p : Part} {score : Nat} (h : (s.lens.get d).sweep.takes p = some score) :
    s.offerPart d p =
      if (s.lens.get d).sweep.pointIndex + 1 < (s.lens.get d).sweep.pointCount then
        ((s.modSweep d (·.record score)).modSweep d fun w => { w with pointIndex := w.pointIndex + 1 }).beginPoint d
      else (s.modSweep d (·.record score)).beginBest d := by
  have running : (s.lens.get d).sweep.phase ≠ none := by
    obtain ⟨waits, -⟩ := Sweep.takes_eq_some.mp h
    simp [waits]
  have runs : (s.sweep d).running = true := (s.sweep_running_iff d).mpr running
  have taken : (s.sweep d).takes p = some score := h
  unfold State.offerPart
  simp only [runs, taken]
  rfl

/-! ## The next point and the best one -/

theorem State.modSweep_modSweep (f g : Sweep → Sweep) :
    (s.modSweep d f).modSweep d g = s.modSweep d fun w => g (f w) := State.modLens_modLens s d _ _

@[simp] theorem State.modSweep_sweep (f : Sweep → Sweep) :
    (s.modSweep d f).sweep d = f (s.lens.get d).sweep := by
  simp [State.sweep, State.modSweep]

@[simp] theorem State.modSweep_focus (f : Sweep → Sweep) :
    ((s.modSweep d f).lens.get d).focus = (s.lens.get d).focus := by
  simp [State.modSweep]

/-- A point is begun alike from every phase (09 R168). -/
theorem State.beginPoint_of_move :
    (s.modSweep d fun w => { w with phase := some .move }).beginPoint d = s.beginPoint d := by
  unfold State.beginPoint
  refine if_congr ?_ ?_ ?_
  · rw [State.modSweep_sweep]
    simp [State.axis, Lens.axis, Sweep.point, State.sweep]
  · exact State.modSweep_modSweep s d _ _
  · rw [State.modSweep_modSweep, State.modSweep_sweep]; rfl

/-- The last point has been recorded: FOCUS goes to the best one, or the sweep ends DONE there (09 R171). -/
theorem State.modSweep_beginBest (f : Sweep → Sweep) {w : Sweep} {best : Nat × Nat}
    (hw : f (s.lens.get d).sweep = w) (hbest : bestPoint w.table = some best) :
    (s.modSweep d f).beginBest d =
      s.sweepGoes d best.1 { w with phase := some .best }
        (State.queueEvent
          { s with
            lens := s.lens.set d { s.lens.get d with sweep := { w with phase := some .best }.ended .done } }
          (.sweepDone d .done best.1 (some best.2))) := by
  subst hw
  unfold State.beginBest State.sweepGoes
  rw [State.modSweep_sweep, hbest, State.modSweep_modSweep]
  dsimp only
  rw [State.modSweep_sweepGoto]
  have stands : ((s.modSweep d f).axis d .focus).position = (s.lens.get d).focus.position :=
    congrArg AxisRec.position (s.modSweep_focus d f)
  rw [stands]
  split_ifs with there
  · rw [State.endSweepBest, State.endSweep_eq, State.modSweep_modSweep, State.modSweep_sweep, State.modSweep_focus,
      hbest, there]
    rfl
  · rfl

/-! ## A move of the sweep that ends DONE (09 R168, R170, R171) -/

/-- Without an outcome owed, what follows a move that ends DONE is by the phase alone. -/
theorem State.axisLeft_arrived {phase : SweepPhase} (running : (s.lens.get d).sweep.phase = some phase)
    (free : (s.lens.get d).sweep.endOwed = none) : s.axisLeft d .focus .done = s.sweepArrived d := by
  rw [s.axisLeft_sweep d .done (by rw [running]; exact Option.some_ne_none phase)]
  unfold State.sweepFocusEnded
  rw [show (s.sweep d).endOwed = none from free]

theorem State.sweepArrived_move (h : (s.lens.get d).sweep.phase = some .move) : s.sweepArrived d = s.sweepWait d := by
  unfold State.sweepArrived
  rw [show (s.sweep d).phase = some .move from h]

theorem State.sweepArrived_return (h : (s.lens.get d).sweep.phase = some .return) :
    s.sweepArrived d = s.endSweep d .stalled none := by
  unfold State.sweepArrived
  rw [show (s.sweep d).phase = some .return from h]

theorem State.sweepArrived_best {best : Nat × Nat} (h : (s.lens.get d).sweep.phase = some .best)
    (hbest : bestPoint (s.lens.get d).sweep.table = some best) :
    s.sweepArrived d = s.endSweep d .done (some best.2) := by
  unfold State.sweepArrived
  rw [show (s.sweep d).phase = some .best from h]
  exact congrArg (fun b => s.endSweep d .done (b.map Prod.snd)) hbest

end

/-- Settles O45: the part that is passed over or taken, and a move of the sweep that ends DONE, by its phase. -/
theorem sweepsTakeTheirPoints : Obligations.SweepsTakeTheirPoints := by
  intro d p s l w point withSweep usable
  refine ⟨s.offerPart_resting d p, fun running unusable => ?_, fun score used => ?_, fun free => ⟨?_, ?_, ?_⟩⟩
  · have passed : w.takes p = none :=
      Option.eq_none_iff_forall_ne_some.mpr fun score taken => unusable score (Sweep.takes_eq_some.mp taken)
    exact s.offerPart_passed d running passed
  · intro table v
    have offered := s.offerPart_taken d (Sweep.takes_eq_some.mpr used)
    refine ⟨fun more => ?_, fun last best mem beats => ?_⟩
    · intro next
      rw [offered, if_pos more, ← State.beginPoint_of_move, State.modSweep_modSweep, State.modSweep_modSweep]
      exact s.modSweep_beginPoint d _ (w := { next with phase := some .move }) rfl rfl
    · rw [offered, if_neg (Nat.not_lt.mpr last)]
      exact s.modSweep_beginBest d _ (w := v) rfl (bestPoint_eq_some mem beats)
  · intro moves
    rw [s.axisLeft_arrived d moves free, s.sweepArrived_move d moves]
    rfl
  · intro returns
    rw [s.axisLeft_arrived d returns free, s.sweepArrived_return d returns,
      State.endSweep_eq]
    rfl
  · intro goes best mem beats
    rw [s.axisLeft_arrived d goes free,
      s.sweepArrived_best d goes (bestPoint_eq_some mem beats), State.endSweep_eq]
    rfl

end Sys2Proof.Machine

/-! PROOF. The bundles and their holders (O46): what a LOCATE_START and a LOCATE_END do to a bundle's entry, and to the
request that contends for it. -/

namespace Sys2Proof.Machine

/-! ## The holder of a bundle (10 R180) -/

section
variable {l : Locator} {b : Nat}

theorem Locator.setHolder_eq (hb : 1 ≤ b) (h : Option Holder) (l : Locator) :
    l.setHolder b h = { l with holders := l.holders.set (b - 1) h } := if_neg (Nat.one_le_iff_ne_zero.mp hb)

/-- An entry that has been cleared has no holder, also beyond the table. -/
theorem Locator.holder_cleared (hb : 1 ≤ b) : Locator.holder { l with holders := l.holders.set (b - 1) none } b = none := by
  refine (if_neg (Nat.one_le_iff_ne_zero.mp hb)).trans ?_
  rw [List.getD_eq_getElem?_getD, List.getElem?_set_self']
  cases l.holders[b - 1]? <;> rfl

end

section
variable {s : State} {a : ActiveRequest} {b : Nat} {h : Holder} {st : Station}

/-- The Line Locator once a LOCATE_START from a station has been heard or echoed (10 R180). -/
def State.afterStart (s : State) (st : Station) (b : Nat) : Locator :=
  let l := s.locator
  if l.holder b = none then { l with holders := l.holders.set (b - 1) (some { station := st, since := s.now }) } else l

theorem State.startHeard_eq (hb : 1 ≤ b) : s.startHeard st b = { s with locator := s.afterStart st b } := by
  unfold State.startHeard State.afterStart
  by_cases free : s.locator.holder b = none
  · refine (if_pos (Option.isNone_iff_eq_none.mpr free)).trans ?_
    rw [if_pos free, ← Locator.setHolder_eq hb]; rfl
  · exact (if_neg (mt Option.isNone_iff_eq_none.mp free)).trans (by rw [if_neg free])

theorem State.afterStart_active : (s.afterStart st b).active = s.locator.active := by
  unfold State.afterStart
  dsimp only
  split_ifs <;> rfl

/-- A bundle's entry cleared, the waiting request not yet told. -/
def State.unheld (s : State) (b : Nat) : State :=
  { s with locator := { s.locator with holders := s.locator.holders.set (b - 1) none } }

/-- An entry that loses its holder: the request that waits for it queues its LOCATE_START (10 R180, R181). -/
theorem State.clearHolder_freed (hb : 1 ≤ b) : (s.modLocator (Locator.setHolder b none)).holderGone b = s.freed b := by
  have cleared : s.modLocator (Locator.setHolder b none) = s.unheld b :=
    congrArg (fun l : Locator => { s with locator := l }) (Locator.setHolder_eq hb none s.locator)
  rw [cleared]
  unfold State.holderGone State.freed
  rw [show (s.unheld b).locator.active = s.locator.active from rfl]
  cases ha : s.locator.active with
  | none => rfl
  | some a =>
    by_cases waits : a.phase = .bundle ∧ a.bundleState ≠ .queued ∧ (s.dropCfg a.drop).bundle = b
    · obtain ⟨phase, idle, rfl⟩ := waits
      refine (if_pos ⟨phase, idle, rfl, Nat.one_le_iff_ne_zero.mp hb⟩).trans (Eq.trans ?_ (if_pos ⟨phase, idle, rfl⟩).symm)
      refine (State.lookBundle_free (s := s.unheld _) ha (Locator.holder_cleared hb)).trans ?_
      rw [State.unheld, State.queueNote_locator]; rfl
    · exact (if_neg fun ⟨phase, idle, bundle, _⟩ => waits ⟨phase, idle, bundle⟩).trans (if_neg waits).symm

theorem State.endHeard_holder (hb : 1 ≤ b) (hh : s.locator.holder b = some h) :
    s.endHeard st b = if h.station = st then s.freed b else s := by
  unfold State.endHeard
  rw [hh, ← State.clearHolder_freed hb]

theorem State.endHeard_other (hh : ∀ h, s.locator.holder b = some h → h.station ≠ st) : s.endHeard st b = s := by
  cases found : s.locator.holder b with
  | none => unfold State.endHeard; rw [found]
  | some h =>
    unfold State.endHeard
    rw [found]
    exact if_neg (hh h found)

/-! ## The request that contends for it (10 R181) -/

/-- The active request whose LOCATE_START for a bundle is queued. -/
def State.QueuedFor (s : State) (b : Nat) (a : ActiveRequest) : Prop :=
  s.locator.active = some a ∧ a.bundleState = .queued ∧ (s.dropCfg a.drop).bundle = b

theorem State.rivalStart_queued (h : s.QueuedFor b a) :
    s.rivalStart b =
      State.deferred
        { s.withdraw (·.isStartFor b) with
          locator := { s.locator with active := some { a with bundleState := .none } } }
        { a with bundleState := .none } := by
  obtain ⟨ha, queued, bundle⟩ := h
  unfold State.rivalStart
  rw [ha]
  refine (if_pos ⟨queued, bundle⟩).trans ?_
  rw [State.modActive_eq (s := s.withdraw _) ha]
  exact State.defer_eq rfl

theorem State.rivalStart_idle (h : ¬∃ a, s.QueuedFor b a) : s.rivalStart b = s := by
  unfold State.rivalStart
  cases ha : s.locator.active with
  | none => rfl
  | some a => exact if_neg fun ⟨queued, bundle⟩ => h ⟨a, ha, queued, bundle⟩

theorem State.ownStart_queued (hb : 1 ≤ b) (h : s.QueuedFor b a) :
    s.ownStart st b =
      { s with locator := { s.afterStart st b with active := some { a with bundleState := .held, phase := .launch } } } := by
  obtain ⟨ha, queued, bundle⟩ := h
  have active : (s.afterStart st b).active = some a := State.afterStart_active.trans ha
  unfold State.ownStart
  rw [State.startHeard_eq hb]
  dsimp only
  rw [active]
  exact (if_pos ⟨queued, bundle⟩).trans (State.modActive_eq active _)

theorem State.ownStart_idle (hb : 1 ≤ b) (h : ¬∃ a, s.QueuedFor b a) :
    s.ownStart st b = { s with locator := s.afterStart st b } := by
  unfold State.ownStart
  rw [State.startHeard_eq hb]
  dsimp only
  rw [State.afterStart_active]
  cases ha : s.locator.active with
  | none => rfl
  | some a => exact if_neg fun ⟨queued, bundle⟩ => h ⟨a, ha, queued, bundle⟩

/-! ## The own notes at their echo and their drop (10 R180 to R182) -/

theorem exec_locateStartNote_received {src : Station} (f : Byte) (foreign : src.val ≠ s.station) :
    exec (.locateStartNote (.received src b f)) s = .next ((s.countHeard.startHeard src b).rivalStart b) :=
  congrArg Host.Outcome.next (State.hear_foreign src _ foreign)

theorem exec_locateEndNote_received {src : Station} (f : Byte) (foreign : src.val ≠ s.station) :
    exec (.locateEndNote (.received src b f)) s = .next (s.countHeard.endHeard src b) :=
  congrArg Host.Outcome.next (State.hear_foreign src _ foreign)

theorem exec_locateStartNote_echo {q : QNote} {dr : Drop} (hq : s.onLine = some q) (own : st.val = s.station)
    (body : q.body = .locateStart b dr) : exec (.locateStartNote .echo) s = .next (s.echoed.ownStart st b) := by
  have noted : s.onLine.map QNote.body = some (.locateStart b dr) := by rw [hq, Option.map_some, body]
  refine congrArg Host.Outcome.next ?_
  show s.startEcho = _
  unfold State.startEcho
  rw [noted, State.ownStation_of own]

theorem exec_locateEndNote_echo {q : QNote} {dr : Drop} (hq : s.onLine = some q) (own : st.val = s.station)
    (body : q.body = .locateEnd b dr) :
    exec (.locateEndNote .echo) s = .next ((s.echoed.ownEndOver b).endHeard st b) := by
  have noted : s.onLine.map QNote.body = some (.locateEnd b dr) := by rw [hq, Option.map_some, body]
  refine congrArg Host.Outcome.next ?_
  show s.endEcho = _
  unfold State.endEcho
  rw [noted, State.ownStation_of own]

theorem State.tellDropped_start (dr : Drop) (h : s.QueuedFor b a) :
    s.tellDropped (.locateStart b dr) = s.finishRequest a .noLine := by
  obtain ⟨ha, queued, bundle⟩ := h
  unfold State.tellDropped
  dsimp only
  rw [ha]
  exact if_pos ⟨queued, bundle⟩

theorem State.tellDropped_end (hb : 1 ≤ b) (dr : Drop) (hh : s.locator.holder b = some h) (own : h.station.val = s.station) :
    s.tellDropped (.locateEnd b dr) = (s.ownEndOver b).freed b := by
  have owned : (s.ownEndOver b).ownHolds b = true := by
    have kept : (s.ownEndOver b).locator.holder b = some h := hh
    unfold State.ownHolds
    rw [kept]
    exact beq_iff_eq.mpr own
  exact (if_pos owned).trans (State.clearHolder_freed hb)

end

/-- Settles O46: the receipts by the holder and the request they meet, then the echoes, the 50 ms and the drops. -/
theorem bundlesHaveOneHolder : Obligations.BundlesHaveOneHolder := by
  intro b dr s hb _ l held queuedFor afterEnd
  refine ⟨fun src f foreign => ⟨fun idle => ?_, fun a queued => ?_, fun h hh own => ?_, fun others => ?_⟩,
    fun q st hq own => ⟨fun body a queued => ?_, fun body idle => ?_, fun body h hh => ?_⟩, fun taken => ?_,
    fun a queued => State.tellDropped_start dr queued, fun h hh own => State.tellDropped_end hb dr hh own⟩
  · have still : ¬∃ a, (s.countHeard.startHeard src b).QueuedFor b a := by
      rw [State.startHeard_eq hb]
      rintro ⟨a, ha, queued⟩
      exact idle ⟨a, State.afterStart_active.symm.trans ha, queued⟩
    rw [exec_locateStartNote_received f foreign, State.rivalStart_idle still, State.startHeard_eq hb]; rfl
  · obtain ⟨ha, state, bundle⟩ := queued
    have still : (s.countHeard.startHeard src b).QueuedFor b a := by
      rw [State.startHeard_eq hb]
      exact ⟨State.afterStart_active.trans ha, state, bundle⟩
    rw [exec_locateStartNote_received f foreign, State.rivalStart_queued still, State.startHeard_eq hb]; rfl
  · rw [exec_locateEndNote_received f foreign]
    exact congrArg Host.Outcome.next ((State.endHeard_holder (s := s.countHeard) hb hh).trans (if_pos own))
  · rw [exec_locateEndNote_received f foreign]
    exact congrArg Host.Outcome.next (State.endHeard_other (s := s.countHeard) others)
  · rw [exec_locateStartNote_echo hq own body]
    exact congrArg Host.Outcome.next (State.ownStart_queued (s := s.echoed) hb queued)
  · rw [exec_locateStartNote_echo hq own body]
    exact congrArg Host.Outcome.next (State.ownStart_idle (s := s.echoed) hb idle)
  · rw [exec_locateEndNote_echo hq own body]
    exact congrArg Host.Outcome.next (State.endHeard_holder (s := s.echoed.ownEndOver b) hb hh)
  · exact congrArg Host.Outcome.next
      ((if_pos (Option.isSome_iff_ne_none.mpr taken)).trans (State.clearHolder_freed hb))

end Sys2Proof.Machine

/-! PROOF. LOCATE and LOCATE_HALT (O47): the entry that joins the queue, the request that is halted, and what its end
brings about. -/

namespace Sys2Proof.Machine

section
variable {s : State} {r : Request} {d : Drop}

/-! ## The requests of a drop -/

theorem Locator.queuedRequest_isSome {l : Locator} :
    (l.queuedRequest d).isSome = true ↔ ∃ e ∈ l.requests, e.drop = d := by
  unfold Locator.queuedRequest
  rw [List.find?_isSome]
  simp only [decide_eq_true_eq]

theorem Locator.queuedRequest_none {l : Locator} (h : ∀ e ∈ l.requests, e.drop ≠ d) : l.queuedRequest d = none :=
  List.find?_eq_none.mpr fun e he => by simpa using h e he

theorem Locator.queuedRequest_of {l : Locator} {pre post : List RequestEntry} {e : RequestEntry}
    (hq : l.requests = pre ++ e :: post) (he : e.drop = d) (others : ∀ x ∈ pre ++ post, x.drop ≠ d) :
    l.queuedRequest d = some e := by
  unfold Locator.queuedRequest
  rw [hq, List.find?_append, List.find?_eq_none.mpr fun x hx => by simpa using others x (List.mem_append_left _ hx)]
  exact List.find?_cons_of_pos (p := fun e : RequestEntry => decide (e.drop = d)) (decide_eq_true he)

theorem Locator.activeOf_of {l : Locator} {a : ActiveRequest} (ha : l.active = some a) (hd : a.drop = d) :
    l.activeOf d = some a := by
  unfold Locator.activeOf
  rw [ha]; exact if_pos hd

theorem Locator.activeOf_isSome {l : Locator} : (l.activeOf d).isSome = true ↔ l.active.map ActiveRequest.drop = some d := by
  unfold Locator.activeOf
  cases l.active with
  | none => exact iff_of_false Bool.false_ne_true nofun
  | some a =>
    rw [Option.map_some, Option.some_inj]
    by_cases hd : a.drop = d <;> simp [hd]

/-- The one entry of a drop leaves the queue. -/
theorem filter_requests {pre post : List RequestEntry} {e : RequestEntry} (he : e.drop = d)
    (others : ∀ x ∈ pre ++ post, x.drop ≠ d) :
    (pre ++ e :: post).filter (fun e => decide (e.drop ≠ d)) = pre ++ post := by
  rw [List.filter_append, List.filter_cons_of_neg (by simpa using he), ← List.filter_append]
  exact List.filter_eq_self.mpr fun x hx => decide_eq_true (others x hx)

/-! ## LOCATE (10 R176) -/

/-- LOCATE on a drop, by its checks in order. -/
theorem State.locateDrop_eq (s : State) (r : Request) (d : Drop) :
    let k := (r.args.getD 0 0).toNat
    let l := s.locator
    let queued := l.flashes.length + l.requests.length
    let reply (c : AnswerCode) (v : AnswerValue) (u : State) : State := u.answer RequestKind.locate.value r c v
    s.locateDrop r d =
      if (s.dropCfg d).enabled = false then reply .refusedState .noValue s
      else if (∃ e ∈ l.requests, e.drop = d) ∨ l.active.map ActiveRequest.drop = some d then
        reply .alreadyQueued .noValue s
      else if 6 ≤ queued then reply .queueFull .noValue s
      else
        reply (if k ≤ 6 then .accepted else .clamped) (.count (queued + 1))
          { s with
            locator :=
              { l with
                requests := l.requests ++ [{ drop := d, k := min 6 k, requester := r.src }]
                requestsTaken := bump l.requestsTaken } } := by
  intro k l queued reply
  have pending : ((l.queuedRequest d).isSome || (l.activeOf d).isSome) = true ↔
      (∃ e ∈ l.requests, e.drop = d) ∨ l.active.map ActiveRequest.drop = some d := by
    rw [Bool.or_eq_true, Locator.queuedRequest_isSome, Locator.activeOf_isSome]
  have code : (if min 6 k = k then AnswerCode.accepted else .clamped) = if k ≤ 6 then .accepted else .clamped :=
    if_congr min_eq_right_iff rfl rfl
  rw [← code]
  exact if_congr (Bool.not_eq_true' _ ▸ Iff.rfl) rfl (if_congr pending rfl rfl)

theorem exec_locate (h : s.TakesDrop .controller r d) : exec (.locate r) s = .next (s.countHeard.locateDrop r d) :=
  congrArg Host.Outcome.next (State.takeDropRequest_taken h _ _)

/-! ## LOCATE_HALT (10 R186) -/

theorem exec_locateHalt (h : s.TakesDrop .controller r d) :
    exec (.locateHalt r) s = .next (s.countHeard.locateHaltDrop r d) :=
  congrArg Host.Outcome.next (State.takeDropRequest_taken h _ _)

theorem State.locateHaltDrop_idle (queue : s.locator.queuedRequest d = none) (idle : s.locator.activeOf d = none) :
    s.locateHaltDrop r d = s.answer RequestKind.locateHalt.value r .done .noValue := by
  unfold State.locateHaltDrop
  dsimp only
  rw [queue, idle]

theorem State.locateHaltDrop_queued {e : RequestEntry} (queue : s.locator.queuedRequest d = some e) :
    s.locateHaltDrop r d =
      if e.requester = r.src ∨ s.isService r.src = true then
        (s.countHalt.haltQueued d).answer RequestKind.locateHalt.value r .done .noValue
      else s.answer RequestKind.locateHalt.value r .refusedRank .noValue := by
  unfold State.locateHaltDrop
  dsimp only
  rw [queue]

theorem State.locateHaltDrop_active {a : ActiveRequest} (queue : s.locator.queuedRequest d = none)
    (active : s.locator.activeOf d = some a) :
    s.locateHaltDrop r d =
      if a.requester = r.src ∨ s.isService r.src = true then
        (s.countHalt.haltActive a).1.answer RequestKind.locateHalt.value r (s.countHalt.haltActive a).2 .noValue
      else s.answer RequestKind.locateHalt.value r .refusedRank .noValue := by
  unfold State.locateHaltDrop
  dsimp only
  rw [queue, active]

/-- The entry of a drop is halted in the queue. -/
theorem State.haltQueued_eq {pre post : List RequestEntry} {e : RequestEntry} (hq : s.locator.requests = pre ++ e :: post)
    (he : e.drop = d) (others : ∀ x ∈ pre ++ post, x.drop ≠ d) :
    s.haltQueued d =
      State.queueEvent { s with locator := { s.locator with requests := pre ++ post } }
        (.locateDone d .request false .halted none) := by
  unfold State.haltQueued State.modLocator
  dsimp only
  rw [hq, filter_requests he others]
  rfl

/-- A request that has no capture yet ends where it stands. -/
theorem State.haltActive_waiting {a : ActiveRequest} (hp : a.phase = .quiesce ∨ a.phase = .bundle ∨ a.phase = .launch) :
    s.haltActive a = ((s.withdrawStart a).finishRequest a .halted, .done) := by
  unfold State.haltActive
  rcases hp with hp | hp | hp <;> rw [hp]

theorem State.haltActive_settle {a : ActiveRequest} {c : Capture} (hp : a.phase = .settle)
    (hc : s.locator.capture = some c) : s.haltActive a = (s.endCapture c .halted none, .done) := by
  unfold State.haltActive
  rw [hp, hc]

/-- With shots being fired the halt is owed (log 40). -/
theorem State.haltActive_capture {a : ActiveRequest} {c : Capture} (hp : a.phase = .capture)
    (ha : s.locator.active = some a) (hc : s.locator.capture = some c) :
    s.haltActive a =
      ({ s with
         locator :=
           { s.locator with
             capture := some { c with stopOwed := true }, active := some { a with haltOwed := true } } }, .accepted) := by
  obtain ⟨drop, k, requester, phase, type, bundleState, deferrals, haltOwed⟩ := a
  subst hp
  unfold State.haltActive State.modLocator
  dsimp only
  rw [ha, hc, Option.map_some, Option.map_some]

/-! ## The end of a request (10 R184) -/

theorem State.endRequest_eq (s : State) (a : ActiveRequest) :
    s.endRequest a =
      State.lookClaims
        { s.queueLocateEnd a with
          drops := s.drops.set a.drop { s.drops.get a.drop with locateHold := false }
          locator := { s.locator with active := none } } := by
  have noted := s.queueLocateEnd_frame a
  have locator : (s.queueLocateEnd a).locator = s.locator := noted.get .locator (by decide)
  have drops : (s.queueLocateEnd a).drops = s.drops := noted.get .drops (by decide)
  rw [← locator, ← drops]; rfl

end

/-- Settles O47: LOCATE by its checks, LOCATE_HALT by where it finds the request, and the end by `State.endRequest_eq`. -/
theorem locateRequestsQueueAndHalt : Obligations.LocateRequestsQueueAndHalt := by
  intro d s l
  refine ⟨fun r h => ?_, fun a out => congrArg (fun u : State => u.reportLocate a.drop .request false out none)
    (s.endRequest_eq a)⟩
  intro k queued locate halt entitled counted
  have halted := exec_locateHalt h
  refine ⟨?_, fun idle inactive => ?_, fun pre e post hq he others => ?_, fun a idle ha hd => ?_⟩
  · have run := exec_locate h
    rw [State.locateDrop_eq] at run
    split
    case isTrue disabled => exact run.trans (congrArg Host.Outcome.next (if_pos disabled))
    case isFalse enabled =>
    split
    case isTrue pending => exact run.trans (congrArg Host.Outcome.next ((if_neg enabled).trans (if_pos pending)))
    case isFalse free =>
    have checked := run.trans (congrArg Host.Outcome.next ((if_neg enabled).trans (if_neg free)))
    split
    case isTrue full => exact checked.trans (congrArg Host.Outcome.next (if_pos full))
    case isFalse room => exact checked.trans (congrArg Host.Outcome.next (if_neg room))
  · have free : l.activeOf d = none := by
      rw [← Option.not_isSome_iff_eq_none, Locator.activeOf_isSome]; exact inactive
    exact halted.trans (congrArg Host.Outcome.next
      (State.locateHaltDrop_idle (s := s.countHeard) (Locator.queuedRequest_none idle) free))
  · have run := halted.trans (congrArg Host.Outcome.next
      (State.locateHaltDrop_queued (s := s.countHeard) (Locator.queuedRequest_of hq he others)))
    refine ⟨fun stranger => run.trans (congrArg Host.Outcome.next (if_neg stranger)), fun mine =>
      run.trans (congrArg Host.Outcome.next ((if_pos mine).trans ?_))⟩
    rw [State.haltQueued_eq (s := s.countHeard.countHalt) hq he others]; rfl
  · have run := halted.trans (congrArg Host.Outcome.next
      (State.locateHaltDrop_active (s := s.countHeard) (Locator.queuedRequest_none idle) (Locator.activeOf_of ha hd)))
    refine ⟨fun stranger => run.trans (congrArg Host.Outcome.next (if_neg stranger)), fun mine => ?_⟩
    replace run := run.trans (congrArg Host.Outcome.next (if_pos mine))
    refine ⟨fun hp => ?_, fun c hp hc => ?_, fun c hp hc => ?_⟩
    · rw [State.haltActive_waiting hp] at run
      subst hd
      exact run
    · rw [State.haltActive_settle (s := s.countHeard.countHalt) hp hc] at run
      exact run
    · rw [State.haltActive_capture (s := s.countHeard.countHalt) hp ha hc] at run
      exact run

end Sys2Proof.Machine

/-! PROOF. Reflections and sites (O50): the bounds of what an analysed capture gives, the order in which a candidate and a
slot to evict are taken, and what a record does to a site table, by whether it is gathered, combined or founded. -/

namespace Sys2Proof.Machine

/-! ## The crossing (11 R190, R191) -/

section
variable {samples : List Nat} {t vf cal i : Nat} {r : Reflection}

theorem crossing_some (h : crossing samples t = some i) :
    24 ≤ i ∧ i < 512 ∧ t ≤ (deviation samples i).natAbs ∧
      ∀ j, 24 ≤ j → j < i → (deviation samples j).natAbs < t := by
  obtain ⟨reached, range, first⟩ := List.find?_range'_eq_some.mp h
  obtain ⟨low, high⟩ := List.mem_range'_1.mp range
  exact ⟨low, high, of_decide_eq_true reached, fun j hj hji => by simpa using first j hj hji⟩

theorem signedDeviation_le (positive : Bool) (j : Nat) :
    signedDeviation samples positive j ≤ (deviation samples j).natAbs := by
  unfold signedDeviation
  split <;> omega

/-- The sign of a sample, applied to its deviation, gives the magnitude. -/
theorem signedDeviation_positiveAt (i : Nat) :
    signedDeviation samples (positiveAt samples i) i = (deviation samples i).natAbs := by
  unfold signedDeviation positiveAt
  split
  case isTrue above => have := of_decide_eq_true above; omega
  case isFalse below => have := mt decide_eq_true below; omega

/-- The level is reached between the sample before the crossing and the crossing, so the fraction is at most a whole
sample. -/
theorem crossingFraction_le (before : signedDeviation samples (positiveAt samples i) (i - 1) < t)
    (reached : t ≤ signedDeviation samples (positiveAt samples i) i) : crossingFraction samples t i ≤ 16 := by
  unfold crossingFraction
  exact max_le (by decide) (Int.ediv_le_of_le_mul (by omega) (by omega))

/-- A crossing apart from the launch has its fraction behind the sample before it, so it lies at most at the ticks of
sample 511. -/
theorem crossingDelta_le (h : crossing samples t = some i)
    (apart : ¬(t : Int) ≤ signedDeviation samples (positiveAt samples i) 23) :
    crossingDelta samples t cal i ≤ 8048 - cal := by
  obtain ⟨low, high, reached, first⟩ := crossing_some h
  have before : signedDeviation samples (positiveAt samples i) (i - 1) < t := by
    rcases Nat.eq_or_lt_of_le low with rfl | later
    · exact Int.lt_of_not_ge apart
    · have small := first (i - 1) (by omega) (by omega)
      have le := signedDeviation_le (samples := samples) (positiveAt samples i) (i - 1)
      omega
  have fraction := crossingFraction_le before (by rw [signedDeviation_positiveAt]; exact Int.ofNat_le.mpr reached)
  unfold crossingDelta
  omega

/-! ## Distance, kind and q (11 R192, R193) -/

theorem distanceOf_mono {a b : Nat} (h : a ≤ b) : distanceOf a vf ≤ distanceOf b vf :=
  Nat.div_le_div_right (Nat.add_le_add_right (Nat.mul_le_mul_right _ (Nat.mul_le_mul_right _ h)) _)

/-- One tick at the lowest velocity factor is 12 mm. -/
theorem le_distanceOf {delta : Nat} (hd : 1 ≤ delta) (hv : 500 ≤ vf) : 12 ≤ distanceOf delta vf :=
  calc 12 ≤ distanceOf 1 500 := by decide
    _ ≤ distanceOf 1 vf := by unfold distanceOf; omega
    _ ≤ distanceOf delta vf := distanceOf_mono hd

theorem kindOf_eq (positive : Bool) (q : Nat) :
    kindOf positive q =
      if positive then (if 192 ≤ q then .open else .stepUp) else if 192 ≤ q then .short else .stepDown := by
  unfold kindOf
  by_cases strong : 192 ≤ q <;> cases positive <;> simp [strong]

theorem kindOf_strong {positive : Bool} {q : Nat} :
    kindOf positive q = .open ∨ kindOf positive q = .short ↔ 192 ≤ q := by
  rw [kindOf_eq]
  split_ifs with _ strong strong <;> simp [strong]

theorem kindOf_weak {positive : Bool} {q : Nat} :
    kindOf positive q = .stepUp ∨ kindOf positive q = .stepDown ↔ q < 192 := by
  rw [kindOf_eq]
  split_ifs with _ strong strong <;> simp [strong, Nat.lt_of_not_le]

theorem kindOf_ne_near {positive : Bool} {q : Nat} : kindOf positive q ≠ .near := by
  rw [kindOf_eq]
  split_ifs <;> nofun

theorem qOf_le : qOf samples i ≤ 255 := Nat.min_le_left _ _

/-- What an analysis can give: NONE at the reach, NEAR at 0, or a kind by its q, placed by a positive tick count. -/
theorem analyse_cases (h : analyse samples t vf cal = some r) :
    r = ⟨.none, reachOf cal vf, 0⟩ ∨
    ∃ i, r = ⟨.near, 0, qOf samples i⟩ ∨
      ∃ delta, 1 ≤ delta ∧ delta ≤ 8048 - cal ∧
        r = ⟨kindOf (positiveAt samples i) (qOf samples i), distanceOf delta vf, qOf samples i⟩ := by
  unfold analyse at h
  split at h
  case isTrue => exact nomatch h
  case isFalse =>
  split at h
  case h_1 => exact .inl (Option.some.inj h).symm
  case h_2 i crossed =>
  refine .inr ⟨i, ?_⟩
  rw [← Option.some.inj h]
  unfold reflectionAt
  dsimp only
  split
  case isTrue => exact .inl rfl
  case isFalse launch =>
  split
  case isTrue => exact .inl rfl
  case isFalse ahead =>
  have limit := crossingDelta_le (cal := cal) crossed launch
  exact .inr ⟨_, by omega, by omega, rfl⟩

end

/-! ## The first best of a list -/

theorem firstBest_of_mem (better : Site → Site → Bool) {ps : List (Nat × Site)} {p : Nat × Site} (h : p ∈ ps) :
    ∃ q, firstBest better ps = some q :=
  Option.ne_none_iff_exists'.mp fun absent => List.ne_nil_of_mem h (firstBest_eq_none absent)

/-- Where better means a smaller key, the first best is the list's `List.argmin`. -/
theorem firstBest_eq_argmin {β : Type} [LinearOrder β] (key : Site → β) (ps : List (Nat × Site)) :
    firstBest (fun b a => decide (key b < key a)) ps = ps.argmin fun p => key p.2 := by
  have fold : ∀ (qs : List (Nat × Site)) (p : Nat × Site),
      some (qs.foldl (fun a b => if decide (key b.2 < key a.2) then b else a) p) =
        qs.foldl (List.argAux fun b c => key b.2 < key c.2) (some p) := by
    intro qs
    induction qs with
    | nil => exact fun p => rfl
    | cons q qs ih =>
      intro p
      rw [List.foldl_cons, List.foldl_cons, ih]
      unfold List.argAux
      simp only [decide_eq_true_eq, apply_ite some]
  cases ps with
  | nil => rfl
  | cons p ps => exact fold ps p

/-- The order of eviction: the count, and of equal counts the larger distance behind the next sequence (11 R198). -/
def Site.evictionKey (next : BitVec 32) (v : Site) : Nat ×ₗ Natᵒᵈ :=
  toLex (v.count, OrderDual.toDual (next - v.lastSeq).toNat)

theorem Site.evictionKey_le {next : BitVec 32} {v u : Site} :
    v.evictionKey next ≤ u.evictionKey next ↔
      v.count < u.count ∨ v.count = u.count ∧ (next - u.lastSeq).toNat ≤ (next - v.lastSeq).toNat :=
  Prod.Lex.toLex_le_toLex

theorem Site.evictionKey_lt {next : BitVec 32} {v u : Site} :
    v.evictionKey next < u.evictionKey next ↔
      v.count < u.count ∨ v.count = u.count ∧ (next - u.lastSeq).toNat < (next - v.lastSeq).toNat :=
  Prod.Lex.toLex_lt_toLex

/-- The slot to evict is chosen by that order. -/
theorem Site.evictedBefore_eq (next : BitVec 32) (b a : Site) :
    (decide (b.count < a.count) || (decide (b.count = a.count) && earlierThan next b.lastSeq a.lastSeq)) =
      decide (b.evictionKey next < a.evictionKey next) := by
  unfold earlierThan
  rw [← Bool.decide_and, ← Bool.decide_or]
  exact decide_eq_decide.mpr Site.evictionKey_lt.symm

section
variable {t : SiteTable} {i j : Nat} {v u : Site} {r : SiteRecord}

/-! ## The slots in their order -/

theorem SiteTable.occupied_sorted (t : SiteTable) : t.occupied.Pairwise fun p q => p.1 < q.1 := by
  unfold SiteTable.occupied
  refine List.pairwise_filterMap.mpr (List.pairwise_lt_range.imp fun hij p hp q hq => ?_)
  obtain ⟨_, _, rfl⟩ := Option.map_eq_some_iff.mp hp
  obtain ⟨_, _, rfl⟩ := Option.map_eq_some_iff.mp hq
  exact hij

/-- In a list in the order of a key, what comes no later has no higher key. -/
theorem key_le_of_idxOf_le {α : Type} [DecidableEq α] {key : α → Nat} {l : List α}
    (sorted : l.Pairwise fun a b => key a < key b) {a b : α} (ha : a ∈ l) (hb : b ∈ l) (h : l.idxOf a ≤ l.idxOf b) :
    key a ≤ key b := by
  rcases Nat.eq_or_lt_of_le h with same | before
  · rw [(List.idxOf_inj ha).mp same]
  · have lt := List.pairwise_iff_getElem.mp sorted _ _ (List.idxOf_lt_length_of_mem ha)
      (List.idxOf_lt_length_of_mem hb) before
    rw [List.getElem_idxOf, List.getElem_idxOf] at lt
    exact Nat.le_of_lt lt

/-! ## The candidate (11 R196) -/

/-- The candidate is the site of the polarity within reach that is nearest and, of two equally near, in the lower
slot. -/
theorem SiteTable.candidate_eq (hl : t.slots.length = 4) {negative : Bool} {x : Nat} (hv : t.site i = some v)
    (near : v.near negative x = true)
    (best : ∀ j u, t.site j = some u → u.near negative x = true →
      Machine.apart v.center x < Machine.apart u.center x ∨
        (Machine.apart v.center x = Machine.apart u.center x ∧ i ≤ j)) :
    t.candidate negative x = some (i, v) := by
  let within := t.occupied.filter fun p => p.2.near negative x
  have mem : ∀ {j u}, t.site j = some u → u.near negative x = true → (j, u) ∈ within :=
    fun hs hn => List.mem_filter.mpr ⟨(SiteTable.mem_occupied hl).mpr hs, hn⟩
  have argmin : t.candidate negative x = within.argmin fun p => Machine.apart p.2.center x :=
    firstBest_eq_argmin (fun v => Machine.apart v.center x) within
  obtain ⟨⟨j, u⟩, found⟩ : ∃ p, t.candidate negative x = some p := firstBest_of_mem _ (mem hv near)
  have least : (j, u) ∈ within.argmin fun p => Machine.apart p.2.center x := argmin.symm.trans found
  obtain ⟨hs, polarity, reach⟩ := SiteTable.candidate_some hl found
  replace hs : t.site j = some u := hs
  have hn : u.near negative x = true := Site.near_iff.mpr ⟨polarity, reach⟩
  rcases best j u hs hn with nearer | ⟨equal, lower⟩
  · exact absurd (List.le_of_mem_argmin (mem hv near) least) (Nat.not_le_of_lt nearer)
  · have first : j ≤ i := key_le_of_idxOf_le (key := Prod.fst) (t.occupied_sorted.filter _) (mem hs hn) (mem hv near)
      (List.index_of_argmin least (mem hv near) (Nat.le_of_eq equal))
    obtain rfl : j = i := Nat.le_antisymm first lower
    rw [found, Option.some.inj (hs.symm.trans hv)]

theorem SiteTable.candidate_eq_none (hl : t.slots.length = 4) {negative : Bool} {x : Nat}
    (far : ∀ i v, t.site i = some v → ¬v.near negative x = true) : t.candidate negative x = none :=
  Option.eq_none_iff_forall_ne_some.mpr fun p hp =>
    have ⟨hs, near⟩ := SiteTable.candidate_some hl hp
    far p.1 p.2 hs (Site.near_iff.mpr near)

/-! ## A record that is gathered (11 R196, R197) -/

/-- A gathered site has at most one neighbour: two would stand on both sides of it, clear of each other and of the place it
moved from, too far apart for a move within the reach. -/
theorem SiteTable.Law.one_neighbour (h : t.Law) {n : Nat} {w : Site} (hv : t.site i = some v)
    (near : Machine.apart v.center r.distance ≤ 150)
    (hj : j ≠ i) (hu : t.site j = some u) (huk : u.kind.negative = v.kind.negative)
    (hur : Machine.apart u.center (v.gather r).center ≤ 150)
    (hn : n ≠ i) (hw : t.site n = some w) (hwk : w.kind.negative = v.kind.negative)
    (hwr : Machine.apart w.center (v.gather r).center ≤ 150) : n = j := by
  by_contra hnj
  have clear := apart_of_combined near (Site.gather_between r v) hur (h.apart i j v u hj.symm hv hu huk.symm)
    (h.apart i n v w hn.symm hv hw hwk.symm) (h.apart j n u w (Ne.symm hnj) hu hw (huk.trans hwk.symm))
    ⟨Nat.min_le_left _ _, Nat.le_max_left _ _⟩
  rw [apart_comm] at clear
  exact Nat.not_le_of_lt clear hwr

theorem SiteTable.gatherInto_alone (h : (t.setSlot i (some (v.gather r))).neighbour i (v.gather r) = none) :
    t.gatherInto r i v = (t.setSlot i (some (v.gather r)), [(v.gather r).change i]) := by
  unfold SiteTable.gatherInto
  dsimp only
  rw [h]

theorem SiteTable.gatherInto_beside {n : Nat × Site}
    (h : (t.setSlot i (some (v.gather r))).neighbour i (v.gather r) = some n) :
    t.gatherInto r i v = (t.setSlot i (some (v.gather r))).combineSlots (i, v.gather r) n := by
  unfold SiteTable.gatherInto
  dsimp only
  rw [h]

/-- With no site within reach of it, the gathered site has no neighbour. -/
theorem SiteTable.neighbour_eq_none (hl : t.slots.length = 4)
    (far : ∀ j u, j ≠ i → t.site j = some u → ¬u.near v.kind.negative v.center = true) : t.neighbour i v = none :=
  Option.eq_none_iff_forall_ne_some.mpr fun p hp =>
    have ⟨hne, hs, near⟩ := SiteTable.neighbour_some hl hp
    far p.1 p.2 hne.symm hs (Site.near_iff.mpr near)

/-- A site within reach of the gathered one is its neighbour. -/
theorem SiteTable.Law.neighbour_gathered (h : t.Law) (hv : t.site i = some v)
    (polarity : v.kind.negative = r.kind.negative) (near : Machine.apart v.center r.distance ≤ 150)
    (hj : j ≠ i) (hu : t.site j = some u) (hn : u.near r.kind.negative (v.gather r).center = true) :
    (t.setSlot i (some (v.gather r))).neighbour i (v.gather r) = some (j, u) := by
  have site := t.site_setSlot (SiteTable.lt_of_site hv) (some (v.gather r))
  have hl : (t.setSlot i (some (v.gather r))).slots.length = 4 := (SiteTable.setSlot_length _ _).trans h.slots
  have kept := Site.gather_negative polarity
  obtain ⟨huk, hur⟩ := Site.near_iff.mp hn
  obtain ⟨⟨n, w⟩, hw⟩ := Option.ne_none_iff_exists'.mp fun absent => by
    have clear := SiteTable.neighbour_none hl absent hj ((site j).trans ((if_neg hj).trans hu))
      (kept.trans (polarity.trans huk.symm))
    rw [apart_comm] at clear
    exact Nat.not_le_of_lt clear hur
  obtain ⟨hne, hs, hwk, hwr⟩ := SiteTable.neighbour_some hl hw
  replace hs : t.site n = some w := ((if_neg hne.symm).symm.trans (site n).symm).trans hs
  obtain rfl := h.one_neighbour hv near hj hu (huk.trans polarity.symm) hur hne.symm hs (hwk.trans kept) hwr
  rw [hw, Option.some.inj (hs.symm.trans hu)]

/-! ## Two sites that are combined (11 R197) -/

theorem SiteTable.combineSlots_lower (h : i < j) :
    t.combineSlots (i, v) (j, u) =
      ((t.setSlot i (some (Site.combine t.nextSeq v u))).setSlot j none,
        [(Site.combine t.nextSeq v u).change i, u.emptied j]) := by
  unfold SiteTable.combineSlots
  simp only [if_pos h]

theorem SiteTable.combineSlots_higher (h : j < i) :
    t.combineSlots (i, v) (j, u) =
      ((t.setSlot j (some (Site.combine t.nextSeq u v))).setSlot i none,
        [(Site.combine t.nextSeq u v).change j, v.emptied i]) := by
  unfold SiteTable.combineSlots
  simp only [if_neg (Nat.lt_asymm h)]

/-- The more severe kind of one polarity does not depend on the order. -/
theorem moreSevere_comm {a b : SiteKind} (h : a.negative = b.negative) : moreSevere a b = moreSevere b a := by
  revert h
  cases a <;> cases b <;> decide

/-! ## A record that founds a site (11 R198) -/

theorem SiteTable.foundSite_empty (hi : i < 4) (empty : t.site i = none) (lowest : ∀ j, j < i → t.site j ≠ none) :
    t.foundSite r = (t.setSlot i (some r.found), [r.found.change i]) := by
  have slot : t.emptySlot = some i :=
    List.find?_range_eq_some.mpr ⟨Option.isNone_iff_eq_none.mpr empty, List.mem_range.mpr hi, fun j hj => by
      simpa [Option.isSome_iff_ne_none] using lowest j hj⟩
  unfold SiteTable.foundSite
  rw [slot]

theorem SiteTable.foundSite_full (full : ∀ i, i < 4 → t.site i ≠ none) :
    t.foundSite r =
      ({ t.setSlot t.evictSlot (some r.found) with evictions := bump t.evictions }, [r.found.change t.evictSlot]) := by
  have slot : t.emptySlot = none := List.find?_range_eq_none.mpr fun i hi => by
    simpa [Option.isSome_iff_ne_none] using full i hi
  unfold SiteTable.foundSite
  rw [slot]

/-- The slot to evict holds a site of least key. -/
theorem SiteTable.evictSlot_least (hl : t.slots.length = 4) (hv : t.site i = some v) :
    ∃ w, t.site t.evictSlot = some w ∧
      ∀ j u, t.site j = some u → w.evictionKey t.nextSeq ≤ u.evictionKey t.nextSeq := by
  have best := (congrArg (firstBest · t.occupied) (funext₂ (Site.evictedBefore_eq t.nextSeq))).trans
    (firstBest_eq_argmin (Site.evictionKey t.nextSeq) _)
  obtain ⟨p, hp⟩ := firstBest_of_mem _ ((SiteTable.mem_occupied hl (p := (i, v))).mpr hv)
  have slot : t.evictSlot = p.1 := by unfold SiteTable.evictSlot; rw [hp]
  rw [slot]
  exact ⟨p.2, (SiteTable.mem_occupied hl).mp (firstBest_mem _ hp), fun j u hu =>
    List.le_of_mem_argmin (f := fun p : Nat × Site => p.2.evictionKey t.nextSeq)
      ((SiteTable.mem_occupied hl (p := (j, u))).mpr hu) (best.symm.trans hp)⟩

/-! ## What a record does to the table (11 R194 to R199) -/

theorem apart_le_iff {a b n : Nat} : apart a b ≤ n ↔ a ≤ b + n ∧ b ≤ a + n := by
  unfold apart; omega

theorem apart_eq_sub_add_sub (a b : Nat) : apart a b = (b - a) + (a - b) := by
  unfold apart; omega

theorem Site.near_iff_reach {negative : Bool} {x : Nat} :
    v.near negative x = true ↔ v.kind.negative = negative ∧ v.center ≤ x + 150 ∧ x ≤ v.center + 150 := by
  rw [Site.near_iff, apart_le_iff]

theorem SiteTable.combineSlots_frame (a b : Nat × Site) :
    (t.combineSlots a b).1.nextSeq = t.nextSeq ∧ (t.combineSlots a b).1.evictions = t.evictions := ⟨rfl, rfl⟩

theorem SiteTable.gatherInto_frame :
    (t.gatherInto r i v).1.nextSeq = t.nextSeq ∧ (t.gatherInto r i v).1.evictions = t.evictions := by
  unfold SiteTable.gatherInto
  dsimp only
  split
  · exact ⟨rfl, rfl⟩
  · exact SiteTable.combineSlots_frame _ _

theorem SiteTable.foundSite_nextSeq : (t.foundSite r).1.nextSeq = t.nextSeq := by
  unfold SiteTable.foundSite
  split <;> rfl

theorem SiteTable.enter_nextSeq : (t.enter r).1.nextSeq = t.nextSeq := by
  unfold SiteTable.enter
  split
  · exact SiteTable.gatherInto_frame.1
  · exact SiteTable.foundSite_nextSeq

theorem SiteTable.enter_candidate {p : Nat × Site} (h : t.candidate r.kind.negative r.distance = some p) :
    t.enter r = t.gatherInto r p.1 p.2 := by
  unfold SiteTable.enter
  rw [h]

theorem SiteTable.enter_far (hl : t.slots.length = 4)
    (far : ∀ i v, t.site i = some v → ¬v.near r.kind.negative r.distance = true) : t.enter r = t.foundSite r := by
  unfold SiteTable.enter
  rw [SiteTable.candidate_eq_none hl far]

theorem SiteTable.makeRecord_left {flash crosstalk : Bool} {trigger : Option Half} {x : Reflection}
    (h : crosstalk = true ∨ x.kind.siteKind = none) :
    t.makeRecord flash crosstalk trigger x = (t.takeSequence, []) := by
  unfold SiteTable.makeRecord
  split
  case h_1 k entered => exact if_pos (h.resolve_right (entered ▸ Option.some_ne_none k))
  case h_2 => rfl

theorem SiteTable.makeRecord_entered {flash : Bool} {trigger : Option Half} {x : Reflection} {k : SiteKind}
    (h : x.kind.siteKind = some k) :
    t.makeRecord flash false trigger x = t.takeSequence.enter ⟨k, x.distance, t.nextSeq, flash, trigger⟩ := by
  unfold SiteTable.makeRecord
  rw [h]
  rfl

/-- Every record takes the next sequence (11 R194). -/
theorem SiteTable.makeRecord_nextSeq (flash crosstalk : Bool) (trigger : Option Half) (x : Reflection) :
    (t.makeRecord flash crosstalk trigger x).1.nextSeq = t.nextSeq + 1 := by
  unfold SiteTable.makeRecord
  split
  · split
    · rfl
    · exact SiteTable.enter_nextSeq
  · rfl

/-- What two slots that are combined hold afterwards, whichever of them is the lower. -/
theorem SiteTable.combineSlots_holds (hv : t.site i = some v) (hu : t.site j = some u) (hij : j ≠ i)
    (polarity : v.kind.negative = u.kind.negative) :
    ∃ c, (t.combineSlots (i, v) (j, u)).1.site (min i j) = some c ∧
      (t.combineSlots (i, v) (j, u)).1.site (max i j) = none ∧
      (∀ n, n ≠ i → n ≠ j → (t.combineSlots (i, v) (j, u)).1.site n = t.site n) ∧
      c.center = (v.center * v.weight + u.center * u.weight) / (v.weight + u.weight) ∧
      c.count = min 65535 (v.count + u.count) ∧ c.flashCount = min 65535 (v.flashCount + u.flashCount) ∧
      c.kind = moreSevere v.kind u.kind ∧
      ∃ gone, (t.combineSlots (i, v) (j, u)).2 =
          [⟨min i j, c.kind, c.count, c.center⟩, ⟨max i j, gone.kind, 0, gone.center⟩] ∧
        gone = if i < j then u else v := by
  have site : ∀ low high x n, low < t.slots.length → high < t.slots.length →
      ((t.setSlot low x).setSlot high none).site n = if n = high then none else if n = low then x else t.site n := by
    intro low high x n hlow hhigh
    rw [SiteTable.site_setSlot (by rw [SiteTable.setSlot_length]; exact hhigh), SiteTable.site_setSlot hlow]
  have hi := SiteTable.lt_of_site hv
  have hj := SiteTable.lt_of_site hu
  rcases Nat.lt_or_gt_of_ne hij with higher | lower
  · rw [SiteTable.combineSlots_higher higher, Nat.min_eq_right higher.le, Nat.max_eq_left higher.le]
    refine ⟨Site.combine t.nextSeq u v, ?_, ?_, fun n hni hnj => ?_, ?_, ?_, ?_, moreSevere_comm polarity.symm, v, rfl,
      (if_neg (Nat.lt_asymm higher)).symm⟩
    · rw [site _ _ _ _ hj hi, if_neg hij, if_pos rfl]
    · rw [site _ _ _ _ hj hi, if_pos rfl]
    · rw [site _ _ _ _ hj hi, if_neg hni, if_neg hnj]
    · rw [Nat.add_comm (v.center * _), Nat.add_comm v.weight]; rfl
    · rw [Nat.add_comm v.count]; rfl
    · rw [Nat.add_comm v.flashCount]; rfl
  · rw [SiteTable.combineSlots_lower lower, Nat.min_eq_left lower.le, Nat.max_eq_right lower.le]
    refine ⟨Site.combine t.nextSeq v u, ?_, ?_, fun n hni hnj => ?_, rfl, rfl, rfl, rfl, u, rfl, (if_pos lower).symm⟩
    · rw [site _ _ _ _ hi hj, if_neg hij.symm, if_pos rfl]
    · rw [site _ _ _ _ hi hj, if_pos rfl]
    · rw [site _ _ _ _ hi hj, if_neg hnj, if_neg hni]

/-- In a full table the record takes the slot of a site of least key. -/
theorem SiteTable.foundSite_evicts (hl : t.slots.length = 4) (full : ∀ i, i < 4 → t.site i ≠ none) :
    ∃ i v, i < 4 ∧ t.site i = some v ∧
      (∀ j u, t.site j = some u → v.evictionKey t.nextSeq ≤ u.evictionKey t.nextSeq) ∧
      t.foundSite r = ({ t.setSlot i (some r.found) with evictions := bump t.evictions }, [r.found.change i]) := by
  obtain ⟨w, hw⟩ := Option.ne_none_iff_exists'.mp (full 0 (by decide))
  obtain ⟨v, hv, least⟩ := SiteTable.evictSlot_least hl hw
  exact ⟨t.evictSlot, v, SiteTable.evictSlot_lt hl, hv, least, SiteTable.foundSite_full full⟩

theorem Site.gather_eq (k : SiteKind) (x : Nat) (sequence : BitVec 32) (flash : Bool) (trigger : Option Half) (v : Site) :
    v.gather ⟨k, x, sequence, flash, trigger⟩ =
      { v with
        center := (v.center * min 255 v.count + x) / (min 255 v.count + 1)
        count := bump v.count
        lastSeq := sequence
        kind := moreSevere v.kind k
        flashCount := if flash then bump v.flashCount else v.flashCount
        lastTrigger := if flash = true ∧ trigger.isSome = true then trigger else v.lastTrigger } := by
  unfold Site.gather Site.weight
  simp only [Bool.and_eq_true]

end

/-- The extremes of what an analysis gives: the place of the first and of the last tick, and the kind by q. -/
theorem analyse_bounds {samples : List Nat} {t vf cal : Nat} {r : Reflection} (hv : 500 ≤ vf) (hc : cal ≤ 255)
    (h : analyse samples t vf cal = some r) :
    r.q ≤ 255 ∧ (r.kind = .near → r.distance = 0) ∧ (r.kind ≠ .near → 12 ≤ r.distance ∧ r.distance ≤ reachOf cal vf) ∧
      ((r.kind = .open ∨ r.kind = .short) → 192 ≤ r.q) ∧ ((r.kind = .stepUp ∨ r.kind = .stepDown) → r.q < 192) := by
  rcases analyse_cases h with rfl | ⟨i, rfl | ⟨delta, low, high, rfl⟩⟩
  · exact ⟨Nat.zero_le _, nofun, fun _ => ⟨le_distanceOf (by omega) hv, Nat.le_refl _⟩, nofun, nofun⟩
  · exact ⟨qOf_le, fun _ => rfl, fun far => absurd rfl far, nofun, nofun⟩
  · exact ⟨qOf_le, fun near => absurd near kindOf_ne_near, fun _ => ⟨le_distanceOf low hv, distanceOf_mono high⟩,
      kindOf_strong.mp, kindOf_weak.mp⟩

/-- Settles O50: the analysis by `analyse_bounds`, and a record by whether a site of its polarity is within its reach. -/
theorem reflectionsAreGatheredIntoSites : Obligations.ReflectionsAreGatheredIntoSites := by
  refine ⟨fun samples threshold vf cal r _ hv hc h => analyse_bounds hv hc h, fun t flash crosstalk trigger x law => ?_⟩
  intro made reach away founded same
  refine ⟨SiteTable.makeRecord_nextSeq .., SiteTable.makeRecord_left, ?_⟩
  rintro k rfl entered
  let next := t.takeSequence
  let record : SiteRecord := ⟨k, x.distance, t.nextSeq, flash, trigger⟩
  have lawNext : next.Law := law.of_slots rfl
  have near {y : Nat} {v : Site} : v.near k.negative y = true ↔ reach k y v := Site.near_iff_reach
  have enters : made = next.enter record := SiteTable.makeRecord_entered entered
  clear_value made
  refine ⟨fun i v hv hr nearest => ?_, fun far => ?_⟩
  · intro w g
    have gathered : v.gather record = g := Site.gather_eq ..
    clear_value g
    subst gathered
    have candidate : next.candidate k.negative x.distance = some (i, v) :=
      SiteTable.candidate_eq lawNext.slots hv (near.mpr hr) fun j u hu hn => by
        rw [apart_eq_sub_add_sub, apart_eq_sub_add_sub]
        exact nearest j u hu (near.mp hn)
    obtain rfl := enters.trans (SiteTable.enter_candidate candidate)
    have polarity : v.kind.negative = record.kind.negative := hr.1
    have reached : apart v.center record.distance ≤ 150 := apart_le_iff.mpr hr.2
    have kept : (v.gather record).kind.negative = k.negative := (Site.gather_negative polarity).trans polarity
    have site := next.site_setSlot (SiteTable.lt_of_site hv) (some (v.gather record))
    have length : (next.setSlot i (some (v.gather record))).slots.length = 4 :=
      (SiteTable.setSlot_length _ _).trans lawNext.slots
    refine ⟨SiteTable.gatherInto_frame.2, fun alone => ?_, fun j u hj hu beside => ?_⟩
    · rw [SiteTable.gatherInto_alone (SiteTable.neighbour_eq_none length fun j u hj hu hn => ?_)]
      · exact ⟨(site i).trans (if_pos rfl), fun j hj => (site j).trans (if_neg hj), rfl⟩
      · exact alone j u hj (((site j).trans (if_neg hj)).symm.trans hu) (near.mp (kept ▸ hn))
    · rw [SiteTable.gatherInto_beside (lawNext.neighbour_gathered hv polarity reached hj hu (near.mpr beside))]
      obtain ⟨c, low, high, others, sums⟩ := SiteTable.combineSlots_holds ((site i).trans (if_pos rfl))
        ((site j).trans ((if_neg hj).trans hu)) hj (kept.trans beside.1.symm)
      exact ⟨c, low, high, fun n hni hnj => (others n hni hnj).trans ((site n).trans (if_neg hni)), sums⟩
  · have founds : made = next.foundSite record :=
      enters.trans (SiteTable.enter_far lawNext.slots fun i v hv hn => far i v hv (near.mp hn))
    have site {i : Nat} (hi : i < 4) := next.site_setSlot (lawNext.slots.symm ▸ hi) (some record.found)
    refine ⟨fun i hi empty lowest => ?_, fun full => ?_⟩
    · obtain rfl := founds.trans (SiteTable.foundSite_empty hi empty lowest)
      exact ⟨(site hi i).trans (if_pos rfl), fun j hj => (site hi j).trans (if_neg hj), rfl, rfl⟩
    · obtain ⟨i, v, hi, hv, least, evicts⟩ := SiteTable.foundSite_evicts (r := record) lawNext.slots full
      obtain rfl := founds.trans evicts
      refine ⟨i, v, hi, hv, fun j u hu => ?_, (site hi i).trans (if_pos rfl),
        fun j hj => (site hi j).trans (if_neg hj), rfl, rfl⟩
      rcases Site.evictionKey_le.mp (least j u hu) with fewer | ⟨equal, older⟩
      · exact ⟨fewer.le, fun equal => absurd equal fewer.ne⟩
      · exact ⟨equal.le, fun _ => older⟩

end Sys2Proof.Machine

/-! PROOF. The machine's step (O53): what a step is on a queue with a front command and on the empty queue. -/

namespace Sys2Proof.Machine

theorem State.withoutFront_cons {s : State} {c : Instr} {rest : List Instr} (h : s.pending = c :: rest) :
    s.withoutFront = { s with pending := rest } := by
  rw [State.withoutFront, h, List.tail_cons]

theorem step_cons {s : State} {c : Instr} {rest : List Instr} (h : s.pending = c :: rest) :
    step s = exec c { s with pending := rest } := by
  rw [← State.withoutFront_cons h]
  simp only [step, h]

theorem step_nil {s : State} (h : s.pending = []) : step s = .next s.tick := by
  simp only [step, h]

/-- Settles O53: a queue with a front command by `step_cons`, the empty queue by `step_nil`. -/
theorem stepRunsTheFrontCommand : Obligations.StepRunsTheFrontCommand :=
  ⟨fun _ _ _ front => step_cons front, fun _ empty => step_nil empty⟩

end Sys2Proof.Machine
